-- ==== Sys2Proof/Word.lean ====
section
/-!
DEFINITION. Sys2Proof/Word.lean: the word types of the module and their plainest arithmetic.
A register is 32 bits wide (R24); a general register of a Gnor core is 64 bits wide (R138) and a wide
register 128 bits (R139); memory is bytes (R22).
-/

namespace Sys2Proof

/-- A 32-bit register of the block register space (R24). -/
abbrev Word := BitVec 32

/-- One byte of memory. -/
abbrev Byte := BitVec 8

/-- A 64-bit general register of a Gnor core (R138). -/
abbrev Dword := BitVec 64

/-- A 128-bit wide register of a Gnor core (R139), also one frame entry of Firn (R56). -/
abbrev Wide := BitVec 128

/-- A 256-bit number of a key or block (R412). -/
abbrev Key256 := BitVec 256

/-- The bits [lo + w - 1 : lo] of a number. -/
def bitsOf (x lo w : Nat) : Nat := (x >>> lo) % 2 ^ w

/-- The number x with its bits [lo + w - 1 : lo] replaced by the low w bits of v. -/
def withBits (x lo w v : Nat) : Nat :=
  x % 2 ^ lo + (v % 2 ^ w) <<< lo + (x >>> (lo + w)) <<< (lo + w)

/-- The two's-complement value of the low w bits of x. -/
def signedOf (w x : Nat) : Int :=
  if x % 2 ^ w < 2 ^ (w - 1) then (x % 2 ^ w : Nat) else (x % 2 ^ w : Nat) - (2 ^ w : Nat)

/-- The w-bit two's-complement code of an integer. -/
def codeOf (w : Nat) (i : Int) : Nat := (i % (2 ^ w : Nat)).toNat

/-- The little-endian bytes of a number (R9): n bytes, the least significant first. -/
def leBytes : Nat → Nat → List Byte
  | 0, _ => []
  | n + 1, x => BitVec.ofNat 8 x :: leBytes n (x / 256)

/-- The number whose little-endian bytes are given (R9). -/
def ofLe : List Byte → Nat
  | [] => 0
  | b :: bs => b.toNat + 256 * ofLe bs

/-- The number whose bytes are given most significant first (headers of the published network formats). -/
def ofBe (bs : List Byte) : Nat := bs.foldl (fun a b => a * 256 + b.toNat) 0

/-- The big-endian bytes of a number: n bytes, the most significant first. -/
def beBytes (n x : Nat) : List Byte := (leBytes n x).reverse

end Sys2Proof
end

