-- ==== Sys2Proof/Machine/Sparse.lean ====
section
/-!
DEFINITION. Sys2Proof/Machine/Sparse.lean: sparse tables as plain data. A table is a list of (key, value) pairs in
one canonical form: keys strictly rising, and no pair whose value is what an unlisted key reads as.
-/

namespace Sys2Proof.Machine

/-- A sparse table: what an unlisted key reads as is given to every operation as d. -/
abbrev SMap (β : Type) := List (Nat × β)

/-- The value under a key. -/
def SMap.get {β : Type} (d : Nat → β) : SMap β → Nat → β
  | [], k => d k
  | (a, v) :: m, k => if a = k then v else SMap.get d m k

/-- The table with no pair under a key. -/
def SMap.erase {β : Type} : SMap β → Nat → SMap β
  | [], _ => []
  | (a, v) :: m, k => if a = k then SMap.erase m k else (a, v) :: SMap.erase m k

/-- A pair put before the first pair of a greater key. -/
def SMap.insert {β : Type} : SMap β → Nat → β → SMap β
  | [], k, v => [(k, v)]
  | (a, w) :: m, k, v => if k < a then (k, v) :: (a, w) :: m else (a, w) :: SMap.insert m k v

/-- The table with a value under a key, in canonical form: the value an unlisted key reads as leaves no pair. -/
def SMap.put {β : Type} [DecidableEq β] (d : Nat → β) (m : SMap β) (k : Nat) (v : β) : SMap β :=
  if v = d k then SMap.erase m k else SMap.insert (SMap.erase m k) k v

/-- Every key of the table is above a bound, and the keys rise strictly. -/
def SMap.rising {β : Type} : Nat → SMap β → Bool
  | _, [] => true
  | b, (a, _) :: m => decide (b ≤ a) && SMap.rising (a + 1) m

/-- The canonical form. -/
def SMap.wf {β : Type} [DecidableEq β] (d : Nat → β) (m : SMap β) : Bool :=
  SMap.rising 0 m && m.all (fun p => decide (p.2 ≠ d p.1))

/-- The table with a value under each key of a run of keys. -/
def SMap.putList {β : Type} [DecidableEq β] (d : Nat → β) (m : SMap β) (k : Nat) : List β → SMap β
  | [] => m
  | v :: vs => SMap.putList d (SMap.put d m k v) (k + 1) vs

/-- The values under a run of keys. -/
def SMap.getList {β : Type} (d : Nat → β) (m : SMap β) (k : Nat) : Nat → List β
  | 0 => []
  | n + 1 => SMap.get d m k :: SMap.getList d m (k + 1) n

/-- The value under a key where absence is a value of its own. -/
def SMap.get? {β : Type} (m : SMap β) (k : Nat) : Option β :=
  (m.find? (fun p => p.1 == k)).map (·.2)

/-- The table with a value under a key, whatever the value. -/
def SMap.set {β : Type} (m : SMap β) (k : Nat) (v : β) : SMap β := SMap.insert (SMap.erase m k) k v

/-- A set of numbers, kept rising. -/
abbrev NSet := List Nat

/-- A number added to a set. -/
def NSet.add : NSet → Nat → NSet
  | [], k => [k]
  | a :: m, k => if k < a then k :: a :: m else if k = a then a :: m else a :: NSet.add m k

/-- A number taken out of a set. -/
def NSet.del (m : NSet) (k : Nat) : NSet := m.filter (· != k)

end Sys2Proof.Machine
end

