-- ==== Sys2Proof/Syntax.lean ====
section
/-!
DEFINITION. Sys2Proof/Syntax.lean: the commands of the module, one constructor of `Instr` for each row of the
operation table, with the operands each takes. A Gnor instruction carries the thread that executes it (0 to 127 a
lumen thread, 128 the Cirque core of R177) and its operand fields; a block command carries the requester that wrote
the command register (its operands stand in the block's key and data registers, R30); an event carries what the
outside party or the pin delivered with it.
-/

namespace Sys2Proof

/-- A hardware thread that executes Gnor instructions: 0 to 127 are core × 4 + thread (R104), 128 is Cirque (R177). -/
abbrev Tid := Fin 129

/-- The number of a general register g0 to g31 (R138). -/
abbrev GReg := BitVec 5

/-- The number of a wide register w0 to w7 (R139). -/
abbrev WReg := BitVec 3

/-- A 16-bit immediate, displacement or branch offset (R143). -/
abbrev Imm16 := BitVec 16

/-- A requester on the register bus (R36): 0 to 127 the lumen threads, 128 Cirque, 129 the vault, 130 Icefall,
131 the management host. -/
abbrev Req := Nat

/-- The head capability descriptor carried by CAP (R189). -/
structure CapDesc where
  model : Nat
  chainMaj : Nat
  chainMin : Nat
  fw : Nat
  bands : Nat
  phys : Nat
  pmax : Nat
  fwd : Nat
  serial : Nat
deriving DecidableEq, Repr

/-- How an uplink frame arrived: the head (port × 8 + position, R14), channel and slot it was heard in, its received
level in dBm, the source short address and sequence number of its MAC header (R197), when it began and ended on air, in
µs after the slot's start (R194), and the LQI of the RX frame (R184), which no rule uses. -/
structure RxInfo where
  head : Nat
  ch : Nat
  slot : Nat
  rssi : Int
  short : Nat
  seq : Nat
  start : Nat
  stop : Nat
  lqi : Nat
deriving DecidableEq, Repr

/-- A node's TETHER_DATA as a head heard it (R194, R220): its payload, and when it began and ended on air, in µs after the
slot's start. -/
structure TetherRx where
  data : List Byte
  start : Nat
  stop : Nat
deriving DecidableEq, Repr

/-- The payload of a REPORT (R484): an item is an endpoint index and its 40-bit VALUE. -/
structure Report where
  applied : Nat
  flags : Nat
  temp : Int
  survHead : Nat
  survRssi : Int
  ownRssi : Int
  items : List (Nat × Nat)
deriving DecidableEq, Repr

/-- The node capability descriptor carried by ASSOC_REQ (R210). -/
structure NodeCaps where
  macMaj : Nat
  macMin : Nat
  eui : Nat
  drift : Nat
  endpoints : Nat
  sleep : Nat
  period : Nat
  orphan : Nat
  phys : Nat
  fw : Nat
deriving DecidableEq, Repr

/-- What a pod sends on its DATA lane (R226): the 12-bit words, one per MCLK cycle and oldest first, and whether the pod reports
that it is clocked from port B. A stretch of network time has those words whose samples are stamped in it, which reach the
module 612.3 µs after it (R229). -/
structure PodWords where
  feeder : Nat
  words : List Nat
  portB : Bool
deriving DecidableEq, Repr

/-- What a pod has sent for 100 ms when it is found (R226, R228): the bits of its DATA lane, oldest first, and whether the
pod reports that it is clocked from port B. -/
structure PodLane where
  portB : Bool
  bits : List Bool
deriving DecidableEq, Repr

/-- A PTP message as it reached a port (R263, R267): its messageType, domainNumber, sequenceId and two-step flag, the
timestamp in its body and its correction in ns, the data set of the clock that sent it as one number, lower where the
default BMCA prefers it, its sourcePortIdentity and its requestingPortIdentity, and the transport that carried it: 0 Annex E,
1 Annex C, 2 Annex D. -/
structure PtpMsg where
  kind : Nat
  domain : Nat
  seq : Nat
  twoStep : Bool
  origin : Nat
  correction : Int
  source : Nat
  port : Nat
  requester : Nat
  annex : Nat
deriving DecidableEq, Repr

/-- An Ethernet frame as it reached a port (R278 to R281): its bytes from the destination address to the end of the
payload, and whether its check sequence failed. -/
structure EthFrame where
  bytes : List Byte
  badFcs : Bool
deriving DecidableEq, Repr

/-- What an NVMe drive reports of itself when it is found (R311, R312): its 4,096-byte blocks, whether it is dual-ported
(CMIC bit 0), its namespaces (1 is NSID 1 alone), the octets of an LBA as formatted, the I/O queue pairs it offers, and
whether it carries out every command of R311. -/
structure DriveId where
  blocks : Nat
  dual : Bool
  spaces : Nat
  lba : Nat
  queues : Nat
  commands : Bool
deriving DecidableEq, Repr

/-- The partner's heartbeat (R334). -/
structure Heartbeat where
  role : Nat
  hold : Bool
  mode : Nat
  maj : Nat
  min : Nat
  sent : Nat
  applied : Nat
  faultClass : Nat
  /-- How many faults the sender has recorded: what tells a further fault of the same class (R341; log entry 13). -/
  faults : Nat := 0
deriving DecidableEq, Repr

/-! ## Records that the state holds and the mirror carries (R335) -/

namespace Machine

/-- A delta-log entry (R72): endpoint, drives 0 to 3 packed as in a drive-plane entry, fade, OFF, LOCATE. -/
structure LogEntry where
  ep : Nat
  drives : Nat
  fade : Nat
  off : Bool
  locate : Bool
deriving DecidableEq, Repr

/-- A slot of the delta log: the frame it belongs to and its entries in ascending endpoint ID (R72). -/
structure LogSlot where
  frame : Nat
  entries : List LogEntry
deriving DecidableEq, Repr

/-- What Firn still has to deliver to a node, or has delivered and not yet landed (R69 to R73): the frame, its epoch,
whether it is a catch-up, whether it has landed, the first superframe it may go in, the entries with their INDEX, the
entries a part holds once a part has gone, the parts acknowledged, and the superframe in which each part last went. -/
structure Owed where
  frame : Nat
  epoch : Nat
  catchup : Bool
  landed : Bool
  first : Nat
  items : List (Nat × LogEntry)
  pc : Nat
  acks : NSet
  sent : List (Nat × Nat)
deriving DecidableEq, Repr

/-- An aborted commit until its epoch (R75): the nodes to which a part of it went and that have not confirmed, each with
the superframe in which its ABORT_NOTICE last went. -/
structure Aborted where
  frame : Nat
  epoch : Nat
  nodes : List (Nat × Option Nat)
deriving DecidableEq, Repr

/-- A surge in Firn's queue (R85 to R88): endpoint, node, INDEX, drives, HOLD, the counter at its completion, the start of
the slot that first carried it, in ns, with the repeats sent, and the counter value after which no slot carries it. -/
structure Surge where
  ep : Nat
  node : Nat
  index : Nat
  drives : Nat
  hold : Nat
  at' : Nat
  first : Option Nat
  reps : Nat
  last : Nat
deriving DecidableEq, Repr

/-- A sealed commit (R59): its epoch, FLOE, and the first superframe whose beacon carries it (R200). -/
structure Sealed where
  epoch : Nat
  floe : Bool
  first : Nat
deriving DecidableEq, Repr

/-- A cell record of a plan (R204): USED, the RF channel numbers, the mode code, the 200 slot words. -/
structure CellRec where
  used : Bool
  rf : List Nat
  phy : Nat
  slots : List Nat
deriving DecidableEq, Repr

/-- A plan: its VERSION and 64 cell records. -/
structure Plan where
  version : Nat
  cells : List CellRec
deriving DecidableEq, Repr

/-- A grant (R209): slot, channel, log2 of P, phase, sequence number, and the order in which it was granted. -/
structure Grant where
  slot : Nat
  ch : Nat
  logP : Nat
  phase : Nat
  seq : Nat
  order : Nat
deriving DecidableEq, Repr

/-- A move under way (R217): the new cell and short address, the new grant, the switch superframe. -/
structure Move where
  cell : Nat
  short : Nat
  grant : Option Grant
  sec : Nat
deriving DecidableEq, Repr

/-- A node as Sastrugi keeps it beside HEAD, SHORT and ASSOC of the node table (R208 to R218). -/
structure NodeMac where
  /-- Log2 of the report period asked for, and of the wake period W; wake phase, slot and channel (R212). -/
  logP : Nat
  wcode : Nat
  wphase : Nat
  wslot : Nat
  wch : Nat
  /-- Supervision timeout in units of 100 ms. -/
  sup : Nat
  grant : Option Grant
  /-- The counter and the network second at which the node was last heard. Counter values that a takeover brings may lie
  before this module's counter began, so these are Int. -/
  heard : Int
  heardSec : Nat
  lost : Bool
  /-- The counter value at which the node was marked LOST (R218). -/
  lostAt : Int
  /-- The head its survey reported last above the margin, and how many reports in a row (R217). -/
  survHead : Nat
  survCount : Nat
  move : Option Move
  /-- SEQ of the last DETECT, and the counter at which it came (R215). -/
  det : Option (Nat × Nat)
  /-- The counter at the node's last REPORT, or at its association (R97). -/
  repAt : Int := 0
deriving DecidableEq, Repr

/-- A cell's counters (R207, R209, R211). -/
structure CellSt where
  /-- The sequence number of the next grant. -/
  counter : Nat := 0
  /-- REVOKE_FROM, REVOKE_TO and the place of the newest revoked grant in the order of grants, while REVOKE stays set. -/
  revoke : Option (Nat × Nat × Nat) := none
  /-- Grants issued so far, without wrap. -/
  issued : Nat := 0
  /-- Revoked slot-channels (slot × 8 + channel) that may not be granted before a superframe, and the node that held each. -/
  embargo : List (Nat × Nat × Nat) := []
  /-- Collisions in this superframe, and whether COLLISION has set in it. -/
  coll : Nat := 0
  /-- SEQ of the next MAC frame sent. -/
  seq : Nat := 0
deriving DecidableEq, Repr

/-- The check bits of the 32-bit words of a packet, an entry, a record or a slot in a block's SRAM (R39): the words that hold
a correctable error, and those that hold an uncorrectable one, numbered from 0. -/
structure Mark where
  ce : NSet := []
  ue : NSet := []
deriving DecidableEq, Repr

/-- No word holds an error. -/
def Mark.clean : Mark := {}

/-- Some word holds an uncorrectable error. -/
def Mark.bad (m : Mark) : Bool := !m.ue.isEmpty

/-- An entry of Serac's node table (R287, R288), with the check bits of its words. -/
structure NodeEnt where
  eui : Nat
  head : Nat
  short : Nat
  assoc : Bool
  static : Bool
  dq : Nat
  rq : Nat
  suspect : Bool
  use : Nat
  mark : Mark := .clean
deriving DecidableEq, Repr

/-- An entry of the prefix table, in table order (R293); `bad` says that its key has a parity error that nothing has met yet
(R287). -/
structure PfxEnt where
  addr : Nat
  plen : Nat
  ext : Nat
  mask : Nat
  queue : Nat
  nextL2 : Nat
  static : Bool
  suspect : Bool
  use : Nat
  bad : Bool := false
deriving DecidableEq, Repr

/-- An entry of the L2 table (R287), with the check bits of its words; `seen` is the model time at which it was last
refreshed (R291). -/
structure L2Ent where
  mac : Nat
  vlan : Nat
  port : Nat
  static : Bool
  suspect : Bool
  use : Nat
  seen : Int
  mark : Mark := .clean
deriving DecidableEq, Repr

/-- A record (R317): sequence number, acceptance in ns of network time, TAG, payload; while it is staged, the counter value at
which it came here (R318). -/
structure MRec where
  seq : Nat
  ns : Nat
  tag : Nat
  data : List Byte
  came : Nat := 0
deriving DecidableEq, Repr

/-- A block on the drives (R318): its group, its records in sequence order, its compressed size. -/
structure MBlock where
  group : Nat
  recs : List MRec
  size : Nat
deriving DecidableEq, Repr

/-- A change that the lead has ordered (R350, R351): id, kind, target, epoch in ns of network time, the counter value of
its PREPARE, the participants with their modes at the PREPARE, those that answered READY, whether it was aborted,
whether the beacons have been compared, and the modules found to disagree with the mode each is to take. -/
structure Order where
  id : Nat
  kind : Nat
  target : Nat
  epoch : Nat
  sentAt : Nat
  parts : List (Nat × Nat)
  readies : NSet
  aborted : Bool
  checked : Bool
  sets : List (Nat × Nat) := []
deriving DecidableEq, Repr

end Machine

open Machine

/-- One mirror update (R335): the piece of state it carries. Bytes of Firn's region and of the program regions go by
address; so do registers of Firn and the floe, SAST_CTRL, SYS_MODE and SYS_OUT_PERMIT. A time on the counter goes as how
long ago it was, a deadline as what is left of it, in ticks (log entry 13). -/
inductive MirrorItem where
  /-- A bulk copy begins: what the standby held of the mirrored state is dropped (R336). -/
  | clear
  /-- Firn's region lies at a base, where it has been filled or been empty before: its planes are empty. -/
  | region (base : Option Nat) (filled : Bool)
  | bytes (addr : Nat) (data : List Byte)
  | reg (addr : Nat) (v : Word)
  /-- The commanded state of contactor n, and its owner. -/
  | ctr (n : Nat) (own cmd : Bool)
  /-- A surge of Firn of which something is still to be sent: the ticks that remain to its drop deadline, and, once a slot
  has carried it, that slot's start in ns and the repeats sent. -/
  | surge (ep node index drives hold left reps : Nat) (first : Option Nat)
  | noSurge (ep : Nat)
  /-- Firn's epochs of the last commit landed, its sealed commit, whether any COMMIT has completed (R76), and whether EN
  clears after the flip. -/
  | firnCommit (landed lastEpoch : Nat) (c : Option Sealed) (hadCommit offAfter : Bool)
  /-- What Firn keeps of a node: the frame it holds whole, its temperature reports so far, whether it has a filtered
  temperature, and what it owes. -/
  | firnNode (n base reports : Nat) (filt : Bool) (owes : List Owed)
  /-- The K last sent for an endpoint (R96). -/
  | kSent (ep k : Nat)
  /-- Firn's aborted commits and the nodes waited for under each frame. -/
  | firnLists (aborted : List Aborted) (waiting : List (Nat × NSet))
  /-- A slot of the delta log. -/
  | logSlot (k : Nat) (slot : Option LogSlot)
  /-- Sastrugi's active plan, and the one that waits (R205). -/
  | plan (p : Option Plan) (next : Option (Plan × Nat))
  /-- How Sastrugi serves a node: grant, move, wake slot, LOST and the rest (R208 to R218). -/
  | mac (n : Nat) (m : Option NodeMac)
  /-- A cell: grant counter, REVOKE, embargo, sequence counter (R207 to R211, R223). -/
  | cell (c : Nat) (x : CellSt)
  /-- An entry of Serac's node table, with the short address. -/
  | node (n : Nat) (e : Option NodeEnt)
  /-- A prefix entry put in at a place of the table, in place of the one there, or taken out. -/
  | pfxIn (i : Nat) (e : PfxEnt)
  | pfxSet (i : Nat) (e : PfxEnt)
  | pfxOut (i : Nat)
  | l2 (i : Nat) (e : Option L2Ent)
  /-- Serac's count of uses, and of failed learnings (R292). -/
  | srcUse (uses fails : Nat)
  /-- A staged record of a Moraine stream. -/
  | staged (stream : Nat) (r : MRec)
  /-- What Moraine keeps on the drives, which both modules reach (R313, R323): the groups as formed, a stream's settings, a
  block written, the oldest block of a stream gone, the member slots whose chunks are not whole, and the slot that is rebuilt
  with the stripes completed. -/
  | format (mask : Nat)
  | stream (n : Nat) (isOpen : Bool) (quota retain next : Nat) (ext : Option (Nat × Nat))
  | block (n : Nat) (b : MBlock)
  | trimmed (n : Nat)
  | drives (lost : NSet) (rebuild : Option (Nat × Nat))
  /-- The floe state behind its registers: the highest term seen, the changes ordered in this term, the change ordered,
  the orders aborted before it whose ABORT is still repeated, what is left until a frame PREPARE is refused, whether the
  frame change was aborted late, and the mode of the last SET. -/
  | floe (maxTerm count : Nat) (order : Option Order) (aborts : List (Nat × Nat)) (left : Option Nat) (late : Bool)
    (skewTo : Nat)
deriving DecidableEq, Repr

/-- How a floe control frame arrived (R343): through W or through E, its sender's index, the hops it has travelled, its
SEQ. -/
structure RingHdr where
  viaW : Bool
  src : Nat
  hops : Nat
  seq : Nat
deriving DecidableEq, Repr

/-- A ring beacon (R343). -/
structure Beacon where
  flags : Nat
  src : Nat
  hops : Nat
  seq : Nat
  mode : Nat
  maj : Nat
  min : Nat
  term : Nat
  change : Nat
  cstate : Nat
  frame : Nat
  image : Nat
deriving DecidableEq, Repr

/-- What the ILK connector shows (R330): PEER_PRESENT, and whether the ROLE strap is tied to ILK_GND. The terminator plug of
an unpaired module leaves both off. -/
structure PairCable where
  present : Bool
  secondary : Bool
deriving DecidableEq, Repr

/-- A class 1 tamper source (R392). -/
inductive Tamper1 where
  | lid | loop | light
deriving DecidableEq, Repr

/-- A class 2 tamper source (R392). -/
inductive Tamper2 where
  | shield | supplyGlitch | clockGlitch | temperature
deriving DecidableEq, Repr

/-- A CAN frame as it stood on the bus (R442, R446). -/
structure CanFrame where
  id : Nat
  ide : Bool
  rtr : Bool
  fdf : Bool
  brs : Bool
  esi : Bool
  dlc : Nat
  data : List Byte
deriving DecidableEq, Repr

/-- The error state of a CAN controller (R448). -/
inductive CanState where
  | active | passive | busOff
deriving DecidableEq, Repr

/-- How a CAN transmission attempt ended (R444, R445). -/
inductive TxOutcome where
  | acked | lostArbitration | error (lec : Nat)
deriving DecidableEq, Repr

/-- A chain frame (R182 to R184): TYPE, DIR, HOP, PAYLOAD, SEQ and TIME. -/
structure ChainFrame where
  typ : Nat
  dir : Nat
  hop : Nat
  data : List Byte
  seq : Nat
  time : Nat
deriving DecidableEq, Repr

/-- The commands of the module: one constructor for each row of the operation table. -/
inductive Instr where
  /-- ADD (R147): Adds two general registers. -/
  | add (t : Tid) (rd ra rb : GReg)
  /-- SUB (R147): Subtracts rb from ra. -/
  | sub (t : Tid) (rd ra rb : GReg)
  /-- ADDW (R147): Adds two registers and sign-extends the low 32 bits. -/
  | addw (t : Tid) (rd ra rb : GReg)
  /-- SUBW (R147): Subtracts two registers and sign-extends the low 32 bits. -/
  | subw (t : Tid) (rd ra rb : GReg)
  /-- AND (R147): Bitwise AND of two registers. -/
  | and (t : Tid) (rd ra rb : GReg)
  /-- OR (R147): Bitwise OR of two registers. -/
  | or (t : Tid) (rd ra rb : GReg)
  /-- XOR (R147): Bitwise XOR of two registers. -/
  | xor (t : Tid) (rd ra rb : GReg)
  /-- ANDN (R147): ra AND NOT rb. -/
  | andn (t : Tid) (rd ra rb : GReg)
  /-- SLL (R147): Shifts left by rb[5:0]. -/
  | sll (t : Tid) (rd ra rb : GReg)
  /-- SRL (R147): Logical right shift by rb[5:0]. -/
  | srl (t : Tid) (rd ra rb : GReg)
  /-- SRA (R147): Arithmetic right shift by rb[5:0]. -/
  | sra (t : Tid) (rd ra rb : GReg)
  /-- SLT (R147): Signed set-less-than. -/
  | slt (t : Tid) (rd ra rb : GReg)
  /-- SLTU (R147): Unsigned set-less-than. -/
  | sltu (t : Tid) (rd ra rb : GReg)
  /-- MIN (R147): Signed minimum. -/
  | min (t : Tid) (rd ra rb : GReg)
  /-- MAX (R147): Signed maximum. -/
  | max (t : Tid) (rd ra rb : GReg)
  /-- MINU (R147): Unsigned minimum. -/
  | minu (t : Tid) (rd ra rb : GReg)
  /-- MAXU (R147): Unsigned maximum. -/
  | maxu (t : Tid) (rd ra rb : GReg)
  /-- MOVZ (R147): Moves ra to rd if rb is zero. -/
  | movz (t : Tid) (rd ra rb : GReg)
  /-- MOVN (R147): Moves ra to rd if rb is nonzero. -/
  | movn (t : Tid) (rd ra rb : GReg)
  /-- SXB (R147): Sign-extends the low byte. -/
  | sxb (t : Tid) (rd ra : GReg)
  /-- SXH (R147): Sign-extends the low halfword. -/
  | sxh (t : Tid) (rd ra : GReg)
  /-- SXW (R147): Sign-extends the low word. -/
  | sxw (t : Tid) (rd ra : GReg)
  /-- ZXB (R147): Zero-extends the low byte. -/
  | zxb (t : Tid) (rd ra : GReg)
  /-- ZXH (R147): Zero-extends the low halfword. -/
  | zxh (t : Tid) (rd ra : GReg)
  /-- ZXW (R147): Zero-extends the low word. -/
  | zxw (t : Tid) (rd ra : GReg)
  /-- CLZ (R147): Counts leading zero bits. -/
  | clz (t : Tid) (rd ra : GReg)
  /-- POPC (R147): Counts one bits. -/
  | popc (t : Tid) (rd ra : GReg)
  /-- ADDI (R148): Adds a sign-extended immediate. -/
  | addi (t : Tid) (rd ra : GReg) (imm : Imm16)
  /-- ANDI (R148): ANDs a zero-extended immediate. -/
  | andi (t : Tid) (rd ra : GReg) (imm : Imm16)
  /-- ORI (R148): ORs a zero-extended immediate. -/
  | ori (t : Tid) (rd ra : GReg) (imm : Imm16)
  /-- XORI (R148): XORs a zero-extended immediate. -/
  | xori (t : Tid) (rd ra : GReg) (imm : Imm16)
  /-- SLTI (R148): Signed compare with an immediate. -/
  | slti (t : Tid) (rd ra : GReg) (imm : Imm16)
  /-- SLTIU (R148): Unsigned compare with a sign-extended immediate. -/
  | sltiu (t : Tid) (rd ra : GReg) (imm : Imm16)
  /-- LUI (R148): Loads an immediate shifted left by 16. -/
  | lui (t : Tid) (rd : GReg) (imm : Imm16)
  /-- ORH (R148): ORs an immediate shifted left by 32. -/
  | orh (t : Tid) (rd ra : GReg) (imm : Imm16)
  /-- SLLI (R148): Shifts left by an immediate. -/
  | slli (t : Tid) (rd ra : GReg) (n : BitVec 6)
  /-- SRLI (R148): Logical right shift by an immediate. -/
  | srli (t : Tid) (rd ra : GReg) (n : BitVec 6)
  /-- SRAI (R148): Arithmetic right shift by an immediate. -/
  | srai (t : Tid) (rd ra : GReg) (n : BitVec 6)
  /-- MUL (R149): Low 64 bits of the product. -/
  | mul (t : Tid) (rd ra rb : GReg)
  /-- MULH (R149): High 64 bits of the signed product. -/
  | mulh (t : Tid) (rd ra rb : GReg)
  /-- MULHU (R149): High 64 bits of the unsigned product. -/
  | mulhu (t : Tid) (rd ra rb : GReg)
  /-- MULW (R149): 32-bit multiply, sign-extended. -/
  | mulw (t : Tid) (rd ra rb : GReg)
  /-- DIV (R149): Signed division, never faulting. -/
  | div (t : Tid) (rd ra rb : GReg)
  /-- DIVU (R149): Unsigned division. -/
  | divu (t : Tid) (rd ra rb : GReg)
  /-- REM (R149): Signed remainder. -/
  | rem (t : Tid) (rd ra rb : GReg)
  /-- REMU (R149): Unsigned remainder. -/
  | remu (t : Tid) (rd ra rb : GReg)
  /-- DIVW (R149): 32-bit signed division. -/
  | divw (t : Tid) (rd ra rb : GReg)
  /-- DIVUW (R149): 32-bit unsigned division. -/
  | divuw (t : Tid) (rd ra rb : GReg)
  /-- REMW (R149): 32-bit signed remainder. -/
  | remw (t : Tid) (rd ra rb : GReg)
  /-- REMUW (R149): 32-bit unsigned remainder. -/
  | remuw (t : Tid) (rd ra rb : GReg)
  /-- MFS (R140): Reads a special register. -/
  | mfs (t : Tid) (rd : GReg) (s : BitVec 5)
  /-- MTS (R140): Writes a special register. -/
  | mts (t : Tid) (s : BitVec 5) (ra : GReg)
  /-- FENCE (R164): Stalls until started write-backs and earlier accesses complete. -/
  | fence (t : Tid)
  /-- XRET (R174): Returns from the exception handler to XPC and clears XACT. -/
  | xret (t : Tid)
  /-- TRAP (R150): Raises the TRAP exception with code n. -/
  | trap (t : Tid) (n : BitVec 5)
  /-- BREAK (R150): Raises the BREAK exception. -/
  | brk (t : Tid)
  /-- IDLE (R179): Gnor-M: stops issue until Cirque's event input is signalled. -/
  | idle (t : Tid)
  /-- FLUSH (R163): Starts write-back of a data-cache line's dirty words. -/
  | flush (t : Tid) (ra : GReg) (disp : Imm16)
  /-- INVAL (R163): Starts write-back of a line's dirty words and invalidates it. -/
  | inval (t : Tid) (ra : GReg) (disp : Imm16)
  /-- LB (R152): Loads a sign-extended byte. -/
  | lb (t : Tid) (rt ra : GReg) (disp : Imm16)
  /-- LBU (R152): Loads a zero-extended byte. -/
  | lbu (t : Tid) (rt ra : GReg) (disp : Imm16)
  /-- LH (R152): Loads a sign-extended halfword. -/
  | lh (t : Tid) (rt ra : GReg) (disp : Imm16)
  /-- LHU (R152): Loads a zero-extended halfword. -/
  | lhu (t : Tid) (rt ra : GReg) (disp : Imm16)
  /-- LW (R152): Loads a sign-extended word, including register reads. -/
  | lw (t : Tid) (rt ra : GReg) (disp : Imm16)
  /-- LWU (R152): Loads a zero-extended word. -/
  | lwu (t : Tid) (rt ra : GReg) (disp : Imm16)
  /-- LD (R152): Loads a doubleword. -/
  | ld (t : Tid) (rt ra : GReg) (disp : Imm16)
  /-- SB (R152): Stores a byte. -/
  | sb (t : Tid) (rt ra : GReg) (disp : Imm16)
  /-- SH (R152): Stores a halfword. -/
  | sh (t : Tid) (rt ra : GReg) (disp : Imm16)
  /-- SW (R152): Stores a word, including register writes. -/
  | sw (t : Tid) (rt ra : GReg) (disp : Imm16)
  /-- SD (R152): Stores a doubleword. -/
  | sd (t : Tid) (rt ra : GReg) (disp : Imm16)
  /-- AADDW (R156): Atomic 32-bit add in SRAM. -/
  | aaddw (t : Tid) (rd ra rb : GReg)
  /-- AANDW (R156): Atomic 32-bit AND in SRAM. -/
  | aandw (t : Tid) (rd ra rb : GReg)
  /-- AORW (R156): Atomic 32-bit OR in SRAM. -/
  | aorw (t : Tid) (rd ra rb : GReg)
  /-- AXORW (R156): Atomic 32-bit XOR in SRAM. -/
  | axorw (t : Tid) (rd ra rb : GReg)
  /-- ASWPW (R156): Atomic 32-bit swap in SRAM. -/
  | aswpw (t : Tid) (rd ra rb : GReg)
  /-- ACASW (R156): Atomic 32-bit compare-and-swap in SRAM. -/
  | acasw (t : Tid) (rd ra rb : GReg)
  /-- AADDD (R156): Atomic 64-bit add in SRAM. -/
  | aaddd (t : Tid) (rd ra rb : GReg)
  /-- AANDD (R156): Atomic 64-bit AND in SRAM. -/
  | aandd (t : Tid) (rd ra rb : GReg)
  /-- AORD (R156): Atomic 64-bit OR in SRAM. -/
  | aord (t : Tid) (rd ra rb : GReg)
  /-- AXORD (R156): Atomic 64-bit XOR in SRAM. -/
  | axord (t : Tid) (rd ra rb : GReg)
  /-- ASWPD (R156): Atomic 64-bit swap in SRAM. -/
  | aswpd (t : Tid) (rd ra rb : GReg)
  /-- ACASD (R156): Atomic 64-bit compare-and-swap in SRAM. -/
  | acasd (t : Tid) (rd ra rb : GReg)
  /-- BEQ (R157): Branches if equal. -/
  | beq (t : Tid) (ra rb : GReg) (off : Imm16)
  /-- BNE (R157): Branches if not equal. -/
  | bne (t : Tid) (ra rb : GReg) (off : Imm16)
  /-- BLT (R157): Branches if signed less. -/
  | blt (t : Tid) (ra rb : GReg) (off : Imm16)
  /-- BGE (R157): Branches if signed greater or equal. -/
  | bge (t : Tid) (ra rb : GReg) (off : Imm16)
  /-- BLTU (R157): Branches if unsigned less. -/
  | bltu (t : Tid) (ra rb : GReg) (off : Imm16)
  /-- BGEU (R157): Branches if unsigned greater or equal. -/
  | bgeu (t : Tid) (ra rb : GReg) (off : Imm16)
  /-- BCCZ (R157): Branches if CC is OK. -/
  | bccz (t : Tid) (off : Imm16)
  /-- BCCNZ (R157): Branches if CC is not OK. -/
  | bccnz (t : Tid) (off : Imm16)
  /-- J (R158): Jumps PC-relative. -/
  | j (t : Tid) (off : BitVec 26)
  /-- JAL (R158): Jumps PC-relative and links in g31. -/
  | jal (t : Tid) (off : BitVec 26)
  /-- JALR (R158): Jumps to a register target and links. -/
  | jalr (t : Tid) (rd ra : GReg) (imm : Imm16)
  /-- WLD (R160): Loads 16 bytes into a wide register. -/
  | wld (t : Tid) (w : WReg) (ra : GReg) (disp : Imm16)
  /-- WST (R160): Stores a wide register as 16 bytes. -/
  | wst (t : Tid) (w : WReg) (ra : GReg) (disp : Imm16)
  /-- WADD (R159): Lane-wise wrapping add. -/
  | wadd (t : Tid) (wd wa wb : WReg)
  /-- WSUB (R159): Lane-wise wrapping subtract. -/
  | wsub (t : Tid) (wd wa wb : WReg)
  /-- WADDU (R159): Lane-wise unsigned saturating add. -/
  | waddu (t : Tid) (wd wa wb : WReg)
  /-- WSUBU (R159): Lane-wise unsigned saturating subtract. -/
  | wsubu (t : Tid) (wd wa wb : WReg)
  /-- WADDS (R159): Lane-wise signed saturating add. -/
  | wadds (t : Tid) (wd wa wb : WReg)
  /-- WSUBS (R159): Lane-wise signed saturating subtract. -/
  | wsubs (t : Tid) (wd wa wb : WReg)
  /-- WMULH (R159): Lane-wise unsigned high multiply. -/
  | wmulh (t : Tid) (wd wa wb : WReg)
  /-- WMULQ (R159): Lane-wise unsigned fixed-point multiply. -/
  | wmulq (t : Tid) (wd wa wb : WReg) (k : BitVec 4)
  /-- WMULSQ (R159): Lane-wise signed fixed-point multiply. -/
  | wmulsq (t : Tid) (wd wa wb : WReg) (k : BitVec 4)
  /-- WDIVQ (R159): Lane-wise fixed-point divide. -/
  | wdivq (t : Tid) (wd wa wb : WReg) (k : BitVec 4)
  /-- WLERP (R159): Lane-wise linear interpolation. -/
  | wlerp (t : Tid) (wd wa wb : WReg) (k : BitVec 4)
  /-- WMINU (R159): Lane-wise unsigned minimum. -/
  | wminu (t : Tid) (wd wa wb : WReg)
  /-- WMAXU (R159): Lane-wise unsigned maximum. -/
  | wmaxu (t : Tid) (wd wa wb : WReg)
  /-- WMINS (R159): Lane-wise signed minimum. -/
  | wmins (t : Tid) (wd wa wb : WReg)
  /-- WMAXS (R159): Lane-wise signed maximum. -/
  | wmaxs (t : Tid) (wd wa wb : WReg)
  /-- WAND (R159): Wide AND. -/
  | wand (t : Tid) (wd wa wb : WReg)
  /-- WOR (R159): Wide OR. -/
  | wor (t : Tid) (wd wa wb : WReg)
  /-- WXOR (R159): Wide XOR. -/
  | wxor (t : Tid) (wd wa wb : WReg)
  /-- WANDN (R159): Wide AND-NOT. -/
  | wandn (t : Tid) (wd wa wb : WReg)
  /-- WSLL (R159): Lane-wise left shift. -/
  | wsll (t : Tid) (wd wa : WReg) (k : BitVec 4)
  /-- WSRL (R159): Lane-wise logical right shift. -/
  | wsrl (t : Tid) (wd wa : WReg) (k : BitVec 4)
  /-- WSRA (R159): Lane-wise arithmetic right shift. -/
  | wsra (t : Tid) (wd wa : WReg) (k : BitVec 4)
  /-- WCMPEQ (R159): Lane-wise equality compare. -/
  | wcmpeq (t : Tid) (wd wa wb : WReg)
  /-- WCMPLTU (R159): Lane-wise unsigned less-than compare. -/
  | wcmpltu (t : Tid) (wd wa wb : WReg)
  /-- WCMPLTS (R159): Lane-wise signed less-than compare. -/
  | wcmplts (t : Tid) (wd wa wb : WReg)
  /-- WSEL (R159): Bitwise select using the old destination as mask. -/
  | wsel (t : Tid) (wd wa wb : WReg)
  /-- WSPLAT (R159): Copies a halfword to every lane. -/
  | wsplat (t : Tid) (wd : WReg) (g : GReg)
  /-- WINS (R159): Inserts a halfword into lane k. -/
  | wins (t : Tid) (wd : WReg) (g : GReg) (k : BitVec 3)
  /-- WEXT (R159): Extracts lane k to a general register. -/
  | wext (t : Tid) (g : GReg) (wa : WReg) (k : BitVec 3)
  /-- WMOV (R159): Copies a wide register. -/
  | wmov (t : Tid) (wd wa : WReg)
  /-- WGETD (R159): Extracts a 64-bit half. -/
  | wgetd (t : Tid) (g : GReg) (wa : WReg) (k : BitVec 1)
  /-- WPUTD (R159): Inserts a 64-bit half. -/
  | wputd (t : Tid) (wd : WReg) (g : GReg) (k : BitVec 1)
  /-- WSUM (R159): Sums the eight unsigned lanes. -/
  | wsum (t : Tid) (g : GReg) (wa : WReg)
  /-- WPERM (R159): Permutes lanes by index. -/
  | wperm (t : Tid) (wd wa wb : WReg)
  /-- INTERRUPT (R178): Cirque takes an interrupt at an instruction boundary while its event input is signalled. -/
  | interrupt
  /-- WRITEBACK (R163): A write-back started by FLUSH or INVAL lands in DRAM. -/
  | writeback (core idx : Nat)
  /-- QPUSH (R305): Admits a packet from DRAM into a Snowpack queue. -/
  | qpush (t : Tid) (ra rb : GReg) (w : WReg)
  /-- QPOP (R303): Removes the head descriptor of a queue and delivers the packet or gap. -/
  | qpop (t : Tid) (rd ra : GReg) (w : WReg)
  /-- TLOOK (R288): Looks up a key in a Serac table. -/
  | tlook (t : Tid) (rd ra : GReg) (w : WReg) (table : BitVec 2)
  /-- TLAUNCH (R274): Copies a frame into a launch queue for sending at a network time. -/
  | tlaunch (t : Tid) (rd ra rb : GReg) (w : WReg)
  /-- FWRITE (R60): Writes a frame entry into the pending frame or write-ahead plane. -/
  | fwrite (t : Tid) (ra : GReg) (w : WReg)
  /-- FREAD (R100): Returns 16 bytes of Firn state for an endpoint by selector. -/
  | fread (t : Tid) (ra : GReg) (w : WReg) (sel : BitVec 4)
  /-- SURGE (R85): Computes surge drives and queues an immediate surge for an endpoint. -/
  | surge (t : Tid) (ra rb : GReg)
  /-- COMMIT (R64): Starts a commit check of the pending frame for an epoch. -/
  | commit (t : Tid) (w : WReg)
  /-- MBXS (R123): Sends a word on a mailbox channel. -/
  | mbxs (t : Tid) (ra rb : GReg)
  /-- MBXR (R124): Receives the word of a mailbox channel. -/
  | mbxr (t : Tid) (rd ra : GReg)
  /-- DBELL_RING (R126): Sets doorbell bits of an agent. -/
  | dbellRing (t : Tid) (ra rb : GReg)
  /-- DBELL_TAKE (R126): Returns and clears doorbell bits of the caller's core. -/
  | dbellTake (t : Tid) (rd ra : GReg)
  /-- DBELL_MASK (R126): Writes the caller's doorbell mask. -/
  | dbellMask (t : Tid) (ra : GReg)
  /-- WAIT (R110): Waits for masked events or a timeout. -/
  | wait (t : Tid) (rd ra : GReg)
  /-- WAIT_TIMEOUT (R110): A WAIT timeout passes and WAIT returns with LATE. -/
  | waitTimeout (t : Tid)
  /-- EPUT (R328): Stages a record into a Moraine stream. -/
  | eput (t : Tid) (rd ra rb : GReg) (w : WReg)
  /-- MREAD (R251): Returns a metering value by selector. -/
  | mread (t : Tid) (rd ra : GReg) (w : WReg) (sel : BitVec 3)
  /-- LOG (R402): Makes an icecore ring record from a program. -/
  | log (t : Tid) (ra rb : GReg) (w : WReg)
  /-- RANDOM (R419): KOP: returns 16 random bytes from the DRBG. -/
  | random (t : Tid) (rd ra rb : GReg) (w : WReg)
  /-- AES_ENC (R419): KOP: encrypts one AES block. -/
  | aesEnc (t : Tid) (rd ra rb : GReg) (w : WReg)
  /-- AES_DEC (R419): KOP: decrypts one AES block. -/
  | aesDec (t : Tid) (rd ra rb : GReg) (w : WReg)
  /-- GCM_SEAL (R419): KOP: AES-GCM encrypts and tags. -/
  | gcmSeal (t : Tid) (rd ra rb : GReg) (w : WReg)
  /-- GCM_OPEN (R419): KOP: AES-GCM verifies and decrypts. -/
  | gcmOpen (t : Tid) (rd ra rb : GReg) (w : WReg)
  /-- CMAC (R419): KOP: computes an AES-CMAC tag. -/
  | cmac (t : Tid) (rd ra rb : GReg) (w : WReg)
  /-- HMAC (R419): KOP: computes HMAC-SHA-384. -/
  | hmac (t : Tid) (rd ra rb : GReg) (w : WReg)
  /-- HASH (R419): KOP: computes SHA-384. -/
  | hash (t : Tid) (rd ra rb : GReg) (w : WReg)
  /-- SIGN (R419): KOP: makes an ECDSA P-384 signature. -/
  | sign (t : Tid) (rd ra rb : GReg) (w : WReg)
  /-- VERIFY (R419): KOP: verifies an ECDSA signature. -/
  | verify (t : Tid) (rd ra rb : GReg) (w : WReg)
  /-- ECDH (R419): KOP: derives a key from an ECDH shared secret into a target slot. -/
  | ecdh (t : Tid) (rd ra rb : GReg) (w : WReg)
  /-- DERIVE (R419): KOP: HKDF-derives a key into a target slot. -/
  | derive (t : Tid) (rd ra rb : GReg) (w : WReg)
  /-- GENERATE (R419): KOP: generates a new key into a target slot. -/
  | generate (t : Tid) (rd ra rb : GReg) (w : WReg)
  /-- WRAP (R419): KOP: wraps an exportable key. -/
  | wrap (t : Tid) (rd ra rb : GReg) (w : WReg)
  /-- UNWRAP (R419): KOP: unwraps a key into a target slot. -/
  | unwrap (t : Tid) (rd ra rb : GReg) (w : WReg)
  /-- ERASE (R419): KOP: empties a key slot. -/
  | erase (t : Tid) (rd ra rb : GReg) (w : WReg)
  /-- INFO (R419): KOP: returns a slot's type, usage and generation. -/
  | info (t : Tid) (rd ra rb : GReg) (w : WReg)
  /-- PRIMITIVE_COMPLETE (R168): A primitive that took time completes and writes its outputs and CC together. -/
  | primitiveComplete (t : Tid)
  /-- COMMAND_COMPLETE (R29): A block command that took time completes; CC becomes valid and BUSY clears. -/
  | commandComplete (blk : Nat)
  /-- REGISTER_WRITE (R10): A write to a register without behaviour of its own, including W1C and W1S fields. -/
  | registerWrite (r : Req) (addr : Nat) (v : Word)
  /-- SNAPSHOT_READ (R35): A read of the lowest word of a multi-word value latches the other words for the requester. -/
  | snapshotRead (r : Req) (addr : Nat)
  /-- TIMER_ARM (R112): A write of LUM_T_TMRn_HI arms a thread timer. -/
  | timerArm (r : Req) (t n : Nat) (v : Word)
  /-- TIMER_FIRE (R112): The counter reaches a timer's compare value; the sticky bit sets and the timer disarms or reloads. -/
  | timerFire (t n : Nat)
  /-- SOFT_SET (R109): A write of LUM_T_SOFT sets the thread's SOFT event. -/
  | softSet (r : Req) (t : Nat) (v : Word)
  /-- DB_SET (R127): A write of LUM_DB_SET sets a core's doorbell bits. -/
  | dbSet (r : Req) (core : Nat) (v : Word)
  /-- THREAD_START (R108): LUM command: starts a thread at an address in its initial state. -/
  | threadStart (r : Req)
  /-- THREAD_STOP (R132): LUM command: stops a thread at an instruction boundary. -/
  | threadStop (r : Req)
  /-- CORE_RESET (R133): LUM command: writes back caches, empties channels and clears a stopped core's state. -/
  | coreReset (r : Req)
  /-- CACHE_SYNC (R137): LUM command: writes back or invalidates a core's caches. -/
  | cacheSync (r : Req)
  /-- DVFS (R114): LUM command: changes a cluster's operating point. -/
  | dvfs (r : Req)
  /-- DVFS_DONE (R114): A cluster's supply ramp ends and the DVFS change completes. -/
  | dvfsDone (c : Nat)
  /-- THREAD_RESTART (R130): 10 ms after a fault, Cirque restarts a thread with RESTART set. -/
  | threadRestart (t : Nat)
  /-- MBX_TX_WRITE (R410): A write of MBX_TX sends a word from agent 32 to 35 on its channel. -/
  | mbxTxWrite (r : Req) (agent rcv : Nat) (v : Word)
  /-- MBX_RX_READ (R410): An agent's read of its own MBX_RX takes the word, clears FULL and signals EMPTY. -/
  | mbxRxRead (r : Req) (agent snd : Nat)
  /-- MBX_DB_SET (R435): A write of MBX_DB_SET sets pending doorbells of agent 32 to 35. -/
  | mbxDbSet (r : Req) (agent : Nat) (v : Word)
  /-- CAL_LOAD (R90): Firn command: loads calibration records from DRAM. -/
  | calLoad (r : Req)
  /-- MAP_SET (R54): Firn command: writes an endpoint-map entry. -/
  | mapSet (r : Req)
  /-- TEMP_SET (R97): Firn command: replaces a node's filtered temperature. -/
  | tempSet (r : Req)
  /-- RECALC (R103): Firn command: marks entries dirty and recomputes their drives. -/
  | recalc (r : Req)
  /-- ABORT (R75): Firn command: aborts a sealed local commit before the cutoff. -/
  | abort (r : Req)
  /-- RESYNC (R73): Firn command: resyncs a node with a catch-up. -/
  | resync (r : Req)
  /-- NODE_STATE (R103): Firn command: returns a node-plane entry. -/
  | nodeState (r : Req)
  /-- FIRN_ENABLE (R52): Writing FIRN_CTRL.EN 1 checks the region and starts the fill. -/
  | firnEnable (r : Req) (v : Word)
  /-- FIRN_FILL_DONE (R52): The region fill ends and EN reads 1. -/
  | firnFillDone
  /-- FIRN_DISABLE (R103): Writing FIRN_CTRL.EN 0 aborts or awaits a sealed commit and ends a check. -/
  | firnDisable (r : Req) (v : Word)
  /-- COMMIT_CHECK_END (R64): A commit check ends with feasibility tested, sealing or refusing the commit. -/
  | commitCheckEnd
  /-- EPOCH (R74): At the epoch tick Firn flips its buffers, increments the frame number and starts copy-forward. -/
  | epoch
  /-- COPY_DONE (R61): Copy-forward ends and COPY_DONE sets. -/
  | copyDone
  /-- ABORT_CUTOFF (R350): At E minus 100 ms a sealed floe commit not matched by a PREPARE is aborted. -/
  | abortCutoff
  /-- SURGE_DROP (R88): A queued surge not carried by its deadline is dropped. -/
  | surgeDrop (ep : Nat)
  /-- TEMP_STALE (R97): A node silent for 3 report periods has its K values held. -/
  | tempStale (node : Nat)
  /-- DISCOVER (R188): SAST command: discovers the heads of a chain. -/
  | discover (r : Req)
  /-- PLAN_LOAD (R205): SAST command: checks and loads a plan. -/
  | planLoad (r : Req)
  /-- CONFLICT_CLR (R224): SAST command: clears the conflict matrix. -/
  | conflictClr (r : Req)
  /-- NODE_INFO (R224): SAST command: returns a node's MAC state. -/
  | nodeInfo (r : Req)
  /-- SAST_HANDOVER (R217): SAST command: moves a node to another cell. -/
  | sastHandover (r : Req)
  /-- DISASSOC (R224): SAST command: disassociates a node. -/
  | disassoc (r : Req)
  /-- GRANT_SET (R209): SAST command: sets or removes a node's grant. -/
  | grantSet (r : Req)
  /-- TETHER_OPEN (R220): SAST command: opens a tether to a node. -/
  | tetherOpen (r : Req)
  /-- TETHER_CLOSE (R224): SAST command: closes a tether. -/
  | tetherClose (r : Req)
  /-- HEAD_CAP (R189): SAST command: returns a word of a head's capability descriptor. -/
  | headCap (r : Req)
  /-- SAST_ENABLE (R224): A write of SAST_CTRL.EN starts or stops superframes if a plan is active. -/
  | sastEnable (r : Req) (v : Word)
  /-- BUDGET_WRITE (R211): A write of SAST_BUDGET schedules revocation at the next boundary if below use. -/
  | budgetWrite (r : Req) (cell : Nat) (v : Word)
  /-- ADV_CH_WRITE (R224): A write of SAST_ADV_CH is checked and ignored with CFG_ERR if invalid. -/
  | advChWrite (r : Req) (v : Word)
  /-- CHAIN_LOCK (R188): A chain port achieves block lock and discovery starts. -/
  | chainLock (chain : Nat)
  /-- CAP_WAIT_EXPIRY (R188): No CAP within 2 ms ends discovery of a chain. -/
  | capWaitExpiry (chain : Nat)
  /-- CAP (R189): A head's capability frame arrives and compatibility is checked. -/
  | cap (chain pos : Nat) (d : CapDesc)
  /-- ECHO_RSP (R191): A head's echo response arrives for delay measurement. -/
  | echoRsp (chain pos rtt turn : Nat)
  /-- HOP_MEASURE (R191): Every 60 s Sastrugi remeasures each head's delay and rewrites CONFIG if moved. -/
  | hopMeasure (head : Nat) (rtts turns : List Nat)
  /-- TX_DONE (R186): A head reports the outcome of a TX frame. -/
  | txDone (head seq result : Nat)
  /-- HOLD_OFF (R187): A head asks to withhold transmission on channels. -/
  | holdOff (head mask durUs : Nat)
  /-- HOLDOFF_EXPIRY (R187): A head hold's duration passes and scheduling resumes. -/
  | holdoffExpiry (head : Nat)
  /-- STATUS (R184): A head reports SYNC_LOST, RF_FAULT or OVERTEMP. -/
  | status (head bits : Nat)
  /-- CHAIN_BREAK (R192): No frame from a position for 20 ms or lock loss breaks a chain, and wrap may start. -/
  | chainBreak (chain pos : Nat) (lockLost : Bool)
  /-- SYNC (R185): 200 µs before each slot, the active module sends SYNC on every chain. -/
  | sync
  /-- SLOT_BOUNDARY (R194): A slot begins; holds begin or end and the slot's frames are scheduled. -/
  | slotBoundary
  /-- SUPERFRAME_BOUNDARY (R193): A whole second begins a superframe; plan, revocation and delivery updates apply. -/
  | superframeBoundary
  /-- CONFLICT_WINDOW (R203): A window of superframes ends and the conflict matrix is latched. -/
  | conflictWindow
  /-- REPORT (R484): A node's REPORT arrives; temperature, derating, lag and survey are processed. -/
  | report (rx : RxInfo) (rep : Report)
  /-- PART_ACK (R70): A node acknowledges parts or confirms an abort. -/
  | partAck (rx : RxInfo) (frame epoch bitmap : Nat)
  /-- DETECT (R215): A detection arrives in a fast slot and is queued, duplicates discarded. -/
  | detect (rx : RxInfo) (data : List Byte)
  /-- DATA_UP (R289): A node's uplink data arrives and is queued. -/
  | dataUp (rx : RxInfo) (data : List Byte)
  /-- ASSOC_REQ (R208): A node requests association; Serac resolves or learns it. -/
  | assocReq (rx : RxInfo) (caps : NodeCaps)
  /-- ASSOC_RESP (R208): Sastrugi answers an association with status, address and grant. -/
  | assocResp (eui : Nat)
  /-- HANDOVER_SWITCH (R217): At the switch superframe a moved node's state passes to the new cell. -/
  | handoverSwitch (node : Nat) (acked : Bool)
  /-- NODE_LOST (R218): A node silent for 3 report periods is marked LOST and its grant released. -/
  | nodeLost (node : Nat)
  /-- ADDRESS_RELEASE (R218): A LOST node's short address is freed after 3,600 s. -/
  | addressRelease (node : Nat)
  /-- TETHER_ADV (R221): A node's advert arrives and is answered or reported. -/
  | tetherAdv (head eui lastHead : Nat)
  /-- TETHER_EVENT (R220): A tether event occurs and the head sends TETHER_DATA. -/
  | tetherEvent (idx : Nat)
  /-- TETHER_DATA (R220): A node's tether frame arrives. -/
  | tetherData (idx : Nat) (f : TetherRx)
  /-- TETHER_END (R220): A tether's supervision timeout passes and it ends. -/
  | tetherEnd (idx : Nat)
  /-- SIG_CAPTURE (R246): MELT command: starts a signature capture. -/
  | sigCapture (r : Req)
  /-- ENERGY_PRESET (R253): MELT command: presets an accumulator at the next block end. -/
  | energyPreset (r : Req)
  /-- XCAL_RESET (R234): MELT command: resets a feeder's cross-calibration. -/
  | xcalReset (r : Req)
  /-- RECON_RESET (R253): MELT command: clears a feeder's alarms, counts and RESID. -/
  | reconReset (r : Req)
  /-- MELT_CTRL_WRITE (R241): A write of MELT_CTRL checks INTERVAL and the reconciliation region. -/
  | meltCtrlWrite (r : Req) (v : Word)
  /-- BLOCK_END (R235): A 200 ms block ends; quantities, energies and range switching are updated. -/
  | blockEnd (meas : List PodWords)
  /-- SECOND_LATCH (R237): 2 ms after a second the 1 s registers are latched. -/
  | secondLatch
  /-- INTERVAL_CLOSE (R242): An interval closes and its energies are latched. -/
  | intervalClose
  /-- RECONCILE (R248): At close plus 2 s feeder energy is shared among lanterns. -/
  | reconcile
  /-- HARMONIC_WINDOW (R240): A harmonic window ends and harmonics are computed. -/
  | harmonicWindow (feeder sig : Nat) (words : List Nat)
  /-- PULSE_EMIT (R243): A pulse accumulator reaches K and a pulse is emitted or discarded. -/
  | pulseEmit (n : Nat)
  /-- SIG_SETTLE_END (R246): SETTLE after a capture start, the lamp estimate is computed. -/
  | sigSettleEnd (feeder : Nat)
  /-- POD_LOST (R228): Loss of DCLK or parity errors mark a pod absent. -/
  | podLost (feeder : Nat) (words : List Nat)
  /-- POD_FOUND (R228): Alignment held for 100 ms marks a pod present. -/
  | podFound (feeder : Nat) (lane : PodLane)
  /-- STEP_TO (R258): TIME command: steps network time to a value. -/
  | stepTo (r : Req)
  /-- STEP_BY (R258): TIME command: steps network time by an amount. -/
  | stepBy (r : Req)
  /-- RATE_SET (R260): TIME command: writes the rate. -/
  | rateSet (r : Req)
  /-- SERVO_MEASURE (R261): Once per second the servo measures the offset and steps or slews. -/
  | servoMeasure (slew : Int)
  /-- HOLDOVER (R261): A source invalid for 3 s after lock enters holdover. -/
  | holdover
  /-- WARM (R254): 5 min after power-up the OCXO is declared warm. -/
  | warm
  /-- PTP_MESSAGE (R263): A PTP message arrives and is consumed by the time engine. -/
  | ptpMessage (port : Nat) (m : PtpMsg)
  /-- PPS_EDGE (R264): A PPS_IN rising edge is timestamped and validated. -/
  | ppsEdge
  /-- PPS_LOST (R264): No PPS_IN edge for 1.5 s makes it invalid. -/
  | ppsLost
  /-- PPS_OUT (R265): PPS_OUT rises at a whole second. -/
  | ppsOut
  /-- LAUNCH (R270): A queued frame reaches its launch time and is sent. -/
  | launch (q : Nat)
  /-- LATE_DROP (R271): A timed frame misses its late window and is dropped or sent late. -/
  | lateDrop (q : Nat)
  /-- ETH_RX (R280): An Ethernet frame is received whole and classified, forwarded or queued. -/
  | ethRx (port : Nat) (f : EthFrame)
  /-- PAUSE (R282): A received PAUSE halts the port's egress queues. -/
  | pause (port quanta : Nat)
  /-- PFC (R282): A received PFC halts enabled priorities. -/
  | pfc (port vector : Nat) (quanta : List Nat)
  /-- PAUSE_EXPIRY (R282): A pause time ends and the priority resumes. -/
  | pauseExpiry (port pri : Nat)
  /-- PAUSE_REPEAT (R283): While the pool stays below XOFF, PAUSE is resent every 32,768 quanta. -/
  | pauseRepeat (port : Nat)
  /-- LINK (R309): A port's link changes state. -/
  | link (port speed : Nat) (up : Bool)
  /-- L2_AGE (R291): A learned L2 entry unrefreshed for AGE seconds is removed. -/
  | l2Age (idx : Nat)
  /-- TCAM_SCRUB (R287): Every 100 ms the prefix TCAM is scrubbed for parity. -/
  | tcamScrub (bad : List Nat)
  /-- LOOKUP (R307): SRC command: looks up a key as TLOOK. -/
  | lookup (r : Req)
  /-- INSERT (R293): SRC command: inserts or replaces a table entry. -/
  | insert (r : Req)
  /-- DELETE (R307): SRC command: frees an entry. -/
  | delete (r : Req)
  /-- SRC_READ (R307): SRC command: reads an entry by index. -/
  | srcRead (r : Req)
  /-- SRC_WRITE (R307): SRC command: writes a whole entry by index. -/
  | srcWrite (r : Req)
  /-- Q_CFG (R298): SNOW command: sets a queue's quota, reserve and consumer. -/
  | qCfg (r : Req)
  /-- MAXPKT_SET (R299): SNOW command: sets the maximum packet length. -/
  | maxpktSet (r : Req)
  /-- POP (R308): SNOW command: Cirque pops a queue. -/
  | pop (r : Req)
  /-- PUSH (R308): SNOW command: Cirque pushes a packet. -/
  | push (r : Req)
  /-- SA_INSTALL (R285): PORT command: installs a MACsec SA from a key slot. -/
  | saInstall (r : Req)
  /-- SA_START_TX (R286): PORT command: selects the transmit SA. -/
  | saStartTx (r : Req)
  /-- SA_REMOVE (R309): PORT command: removes an SA. -/
  | saRemove (r : Req)
  /-- FORMAT (R314): MOR command: forms the drive groups and erases every stream. -/
  | format (r : Req)
  /-- STREAM_CFG (R317): MOR command: opens a stream and sets quota and retention. -/
  | streamCfg (r : Req)
  /-- STREAM_INFO (R329): MOR command: returns a stream's use and sequences. -/
  | streamInfo (r : Req)
  /-- READ_RANGE (R320): MOR command: reads records by time range. -/
  | readRange (r : Req)
  /-- READ_SEQ (R320): MOR command: reads one record by sequence. -/
  | readSeq (r : Req)
  /-- REBUILD (R316): MOR command: starts a rebuild of a slot. -/
  | rebuild (r : Req)
  /-- MOR_ENABLE (R322): Writing MOR_CTRL.EN 1 checks the staging region. -/
  | morEnable (r : Req) (v : Word)
  /-- BLOCK_WRITE (R318): A full stream block, or one 500 ms old, is compressed and written. -/
  | blockWrite (stream : Nat)
  /-- STOR_LINK_UP (R312): A STOR link comes up and its drives are identified. -/
  | storLinkUp (stor : Nat) (drives : List (Option DriveId))
  /-- SMART_POLL (R312): Every 60 s each drive's SMART log is read. -/
  | smartPoll (drive wear : Nat) (critical : Bool)
  /-- DRIVE_LOST (R315): A drive silent for 5 s or critically warned is marked FAILED. -/
  | driveLost (drive : Nat)
  /-- REBUILT (R316): A rebuild completes. -/
  | rebuilt (drive : Nat)
  /-- TRIM (R325): The trimmer removes an expired or over-quota block. -/
  | trim (stream : Nat)
  /-- HEARTBEAT_SEND (R334): Every 1 ms a heartbeat is sent on P. -/
  | heartbeatSend
  /-- HEARTBEAT (R334): A partner heartbeat arrives, updating role, compatibility and liveness. -/
  | heartbeat (hb : Heartbeat)
  /-- PEER_LOST (R334): No heartbeat for 5 ms clears PEER_ALIVE. -/
  | peerLost
  /-- TAKEOVER (R337): A standby's claim condition holds and it takes over from the mirror. -/
  | takeover (inA inB : Bool)
  /-- CLAIM_RETRY (R331): After a clashed claim a random 1 to 8 ms delay ends and the claim is retried. -/
  | claimRetry (inA inB : Bool)
  /-- WDOG_KICK (R354): Writing PAIR_WDOG.KICK restarts the HOLD watchdog. -/
  | wdogKick (r : Req) (v : Word)
  /-- WDOG_EXPIRY (R332): The HOLD watchdog expires, raising F2 and releasing HOLD. -/
  | wdogExpiry
  /-- MIRROR_UPDATE (R335): A sequence-numbered mirror update is applied by the standby and acknowledged. -/
  | mirrorUpdate (seq : Nat) (u : MirrorItem)
  /-- MIRROR_ACK_TIMEOUT (R335): An update unacknowledged in 500 µs proceeds and MIRROR_LOST sets. -/
  | mirrorAckTimeout
  /-- BULK_COPY_DONE (R336): A bulk copy ends and MIRROR_SYNC sets. -/
  | bulkCopyDone
  /-- MREG_SIZE_WRITE (R354): A write of PAIR_MREG_SIZE changes a program region and starts its bulk copy. -/
  | mregSizeWrite (r : Req) (region : Nat) (v : Word)
  /-- PAIR_HANDOVER (R340): PAIR command: starts a planned handover at the next frame boundary. -/
  | pairHandover (r : Req)
  /-- HANDOVER_MSG (R340): The partner receives HANDOVER(T) on P and acknowledges. -/
  | handoverMsg (tSec drill fail : Nat)
  /-- HANDOVER_RELEASE (R340): At T the active releases HOLD and the partner claims at once. -/
  | handoverRelease
  /-- REVERT (R341): REVERT_DELAY passes and the secondary hands back to the primary. -/
  | revert
  /-- DRILL (R342): PAIR command: starts a drill. -/
  | drill (r : Req)
  /-- DRILL_SCHEDULE (R342): A scheduled drill time is reached. -/
  | drillSchedule
  /-- DRILL_END (R342): A drill's duration ends; HOLD is handed back and PASS or FAIL set. -/
  | drillEnd (failMask : Nat)
  /-- FLOE_MODE (R350): PAIR command: the lead sends a mode PREPARE. -/
  | floeMode (r : Req)
  /-- MEMBER_INFO (R354): PAIR command: returns a member's beacon fields. -/
  | memberInfo (r : Req)
  /-- RING_BEACON_SEND (R343): Every 10 ms a ring beacon is sent on E and W. -/
  | ringBeaconSend
  /-- RING_BEACON (R343): A ring beacon arrives and is delivered, forwarded and used for membership and lead. -/
  | ringBeacon (viaW : Bool) (b : Beacon)
  /-- MEMBER_TIMEOUT (R344): A member's beacons are absent for 30 ms and it leaves membership. -/
  | memberTimeout (idx : Nat)
  /-- SPAN_BREAK (R345): A span's link fails or beacons stop for 30 ms and the ring wraps. -/
  | spanBreak (west : Bool)
  /-- SPAN_RESTORED (R345): Beacons cross a span for 1 s and the wrap ends. -/
  | spanRestored (west : Bool)
  /-- LEAD_CHANGE (R347): The lead role changes on loss or after 10 s of a lower candidate. -/
  | leadChange
  /-- PREPARE (R349): A PREPARE from the lead arrives and is answered READY or REFUSE. -/
  | prepare (h : RingHdr) (term id kind target epochS epochNs : Nat)
  /-- READY (R350): The lead receives a READY. -/
  | ready (h : RingHdr) (id : Nat)
  /-- REFUSE (R350): The lead receives a REFUSE and sends ABORT. -/
  | refuse (h : RingHdr) (id code : Nat)
  /-- PREPARE_TIMEOUT (R350): 250 ms after a PREPARE without all READY the lead aborts. -/
  | prepareTimeout
  /-- PREPARE_WAIT_EXPIRY (R76): No floe commit sealed within 200 ms of a frame prepare; REFUSE is sent. -/
  | prepareWaitExpiry
  /-- FLOE_ABORT (R350): An ABORT from the lead arrives for a pending change. -/
  | floeAbort (h : RingHdr) (term id : Nat)
  /-- ABORT_REPEAT (R350): The lead repeats ABORT every 10 ms until epoch plus 1 s. -/
  | abortRepeat
  /-- FLOE_EPOCH (R350): A floe change's epoch arrives and READY participants switch. -/
  | floeEpoch
  /-- SKEW_CHECK (R351): After an epoch the lead compares beacons and sends SET to disagreeing modules. -/
  | skewCheck
  /-- SET (R351): A SET from the lead arrives and is applied as a mode transition. -/
  | set (h : RingHdr) (term mode dst : Nat)
  /-- MODE_REQUEST (R357): A write of SYS_MODE_REQ requests a mode change. -/
  | modeRequest (r : Req) (v : Word)
  /-- OUT_PERMIT_WRITE (R356): A write of SYS_OUT_PERMIT in COMMISSION opens or closes output gates. -/
  | outPermitWrite (r : Req) (v : Word)
  /-- CTR_OWN_WRITE (R369): A write of SYS_CTR.OWN moves a contactor between Rime and program, loading CMD from RIME_OUT. -/
  | ctrOwnWrite (r : Req) (n : Nat) (v : Word)
  /-- CTR_CMD_WRITE (R367): A write of SYS_CTR.CMD commands a program-owned contactor. -/
  | ctrCmdWrite (r : Req) (n : Nat) (v : Word)
  /-- ECC_CE_CLEAR (R39): Writing SYS_ECC_CE.CLR sets the correctable count to 0. -/
  | eccCeClear (r : Req) (v : Word)
  /-- PWRON_N (R362): PWRON_N asserted with a feed brings up the rails in RECOVERY and runs the boot ROM. -/
  | pwronN
  /-- ISLAND_READY (R362): An island ends its self-test and sets its ready bit. -/
  | islandReady (bit : Nat)
  /-- FALLBACK (R368): 50 ms without HOLD on either module passes contactors to the Rime rules. -/
  | fallback
  /-- AUTO_ISLAND (R371): No lead and no uplink for DELAY seconds enter ISLANDED. -/
  | autoIsland
  /-- AUTO_RETURN (R372): Lead and uplink back for DELAY seconds return to SERVICE. -/
  | autoReturn
  /-- RIME_SAMPLE (R376): Each sample period Rime converts its inputs and filters the rules. -/
  | rimeSample (raw : List Nat)
  /-- RULE_CHANGE (R378): A rule's condition holds for its dwell and the rule changes state. -/
  | ruleChange (rule : Nat)
  /-- RULE_WRITE (R381): A write of RIME_RULE enables, disables or changes a rule. -/
  | ruleWrite (r : Req) (rule word : Nat) (v : Word)
  /-- RIME_COLD_START (R375): Rime starts from no power and reloads its configuration. -/
  | rimeColdStart
  /-- POWER_FAIL_WARNING (R384): Both feeds fall below 38 V; a record and flush start. -/
  | powerFailWarning
  /-- PFW_CLEAR (R384): A feed returns to 40 V for 10 ms within hold-up. -/
  | pfwClear
  /-- HOLDUP_END (R384): 12 ms after the warning the rails go down and the module enters DORMANT. -/
  | holdupEnd
  /-- FEED_RESTORE (R383): A feed at or above 40 V for 100 ms; held wake causes assert PWRON_N. -/
  | feedRestore (a b : Bool)
  /-- RTC_LOCKOUT (R390): MAIN33 below 3.0 V locks out RTC writes and switches its supply. -/
  | rtcLockout (low : Bool)
  /-- SCAP_LOW (R383): The supercapacitor crosses its low threshold. -/
  | scapLow (low : Bool)
  /-- COIN_LOW (R383): The coin cell crosses its low threshold. -/
  | coinLow (low : Bool)
  /-- EXT_WAKE (R385): External equipment pulls PWRON_N low to wake the module. -/
  | extWake
  /-- RTC_SECOND (R391): The RTC begins a second and alarms are compared. -/
  | rtcSecond
  /-- RTC_SET (R389): A write of RIME_RTC_TIME loads the held date and time. -/
  | rtcSet (r : Req) (v : Word)
  /-- TAMPER1 (R393): A class 1 tamper source trips and latches C1. -/
  | tamper1 (src : Tamper1)
  /-- TAMPER2 (R394): A class 2 tamper zeroises every key slot. -/
  | tamper2 (src : Tamper2)
  /-- ICE_FLUSHED (R399): An icecore flush completes. -/
  | iceFlushed
  /-- ICE_WIN_READ (R401): A read of RIME_ICE_WIN word 0 latches a record; word 71 advances the cursor. -/
  | iceWinRead (r : Req) (k : Nat)
  /-- RIME_FLUSH (R403): RIME command: flushes the icecore buffer. -/
  | rimeFlush (r : Req)
  /-- RECORD (R403): RIME command: Cirque makes an icecore record. -/
  | record (r : Req)
  /-- RING_CLEAR (R403): RIME command: clears the ring area. -/
  | ringClear (r : Req)
  /-- THERMAL_SAMPLE (R49): Every 10 ms Cirque filters island temperatures and throttles crossings. -/
  | thermalSample (temps : List Int) (coils : List Nat) (minRpm ia ib : Nat)
  /-- THROTTLE_STEP (R406): Each second an island in the throttle state lowers or restores its clock. -/
  | throttleStep
  /-- SHUTDOWN (R407): An island at the shutdown threshold raises F2, releases HOLD and requests DORMANT. -/
  | shutdown (isl : Nat)
  /-- VDD_FAULT (R405): An island supply out of range for 1 ms raises an F1 fault. -/
  | vddFault (isl mv : Nat)
  /-- RECOVERY_COMPLETE (R451): A recovery completes and the next deferred fault is handled. -/
  | recoveryComplete
  /-- ISLAND_RESTART_TIMEOUT (R450): An island restarted under F1 is not ready within 5 s and raises F2. -/
  | islandRestartTimeout
  /-- MGMT_CONNECT (R408): The management host opens a session on M. -/
  | mgmtConnect
  /-- MGMT_READ (R409): Management READ of words. -/
  | mgmtRead (seq addr count : Nat)
  /-- MGMT_WRITE (R409): Management WRITE of words. -/
  | mgmtWrite (seq addr : Nat) (ws : List Word)
  /-- MBX_SEND (R409): Management host sends a mailbox word. -/
  | mbxSend (seq rcv : Nat) (v : Word)
  /-- MBX_RECV (R409): Management host receives a mailbox word. -/
  | mbxRecv (seq snd : Nat)
  /-- DB_TAKE (R409): Management host takes doorbells. -/
  | dbTake (seq : Nat) (bits : Word)
  /-- ICE_READ (R409): Management host reads icecore records. -/
  | iceRead (seq slot count : Nat)
  /-- IMAGE_PUSH (R409): Management host pushes image bytes. -/
  | imagePush (seq off : Nat) (data : List Byte)
  /-- MGMT_PROVISION (R409): Management host provisions the vault. -/
  | mgmtProvision (seq : Nat) (rec : List Byte)
  /-- MGMT_STATUS (R409): Management host requests status. -/
  | mgmtStatus (seq : Nat)
  /-- VLT_OP (R436): VLT command: runs a KOP operation for Cirque. -/
  | vltOp (r : Req)
  /-- PROVISION (R417): VLT command: generates slot 0 and loads the trust anchor. -/
  | provision (r : Req)
  /-- ZEROISE (R415): VLT command: erases every key slot. -/
  | zeroise (r : Req)
  /-- CHALLENGE (R416): VLT command: writes a tamper-clear nonce. -/
  | challenge (r : Req)
  /-- CLEAR_TAMPER (R416): VLT command: verifies a signature and clears C1. -/
  | clearTamper (r : Req)
  /-- CERT_SET (R417): VLT command: stores the module certificate. -/
  | certSet (r : Req)
  /-- RELAY (R425): ICF command: the lead resends an image. -/
  | relay (r : Req)
  /-- ACTIVATE (R428): ICF command: schedules activation of a slot at an epoch. -/
  | activate (r : Req)
  /-- ACT_CANCEL (R428): ICF command: withdraws a pending activation. -/
  | actCancel (r : Req)
  /-- PROG_LOAD (R433): ICF command: loads the program image onto cores. -/
  | progLoad (r : Req)
  /-- SVN_BURN (R430): ICF command: advances the security-version fuse. -/
  | svnBurn (r : Req)
  /-- PUSH_PARTNER (R432): ICF command: sends the image to a partner in RECOVERY. -/
  | pushPartner (r : Req)
  /-- SLOT_ERASE (R437): ICF command: erases an image slot. -/
  | slotErase (r : Req)
  /-- HEADER (R425): A relay HEADER frame arrives and is checked. -/
  | header (port src imageId : Nat) (data : List Byte)
  /-- LEAVES (R425): A relay LEAVES frame arrives and is checked. -/
  | leaves (port src imageId part : Nat) (data : List Byte)
  /-- CHUNK (R425): A relay chunk part arrives, is checked, written and forwarded. -/
  | chunk (port src imageId idx part : Nat) (data : List Byte)
  /-- NACK (R427): A NACK arrives and the chunk is resent. -/
  | nack (port src imageId idx : Nat)
  /-- ACT (R428): An ACT frame from the lead records a pending activation. -/
  | act (src slot epochS version : Nat)
  /-- RELAY_ACT_CANCEL (R428): An ACT_CANCEL frame withdraws a pending activation. -/
  | relayActCancel (src : Nat)
  /-- ACT_CHECK (R428): At E minus 1 s the slot's image is checked for activation. -/
  | actCheck
  /-- ACTIVATION (R428): At E the module switches slot and restarts, or hands over first if active. -/
  | activation
  /-- ACT_PARTNER_TIMEOUT (R429): At E plus 60 s an active module restarts without a ready partner. -/
  | actPartnerTimeout
  /-- CONFIRMED (R430): A booted image runs CONFIRM seconds without F2 or F3 and is confirmed. -/
  | confirmed
  /-- CAN_SEND (R442): CAN command: Cirque or the host queues a CAN frame. -/
  | canSend (r : Req)
  /-- CAN_ENABLE (R440): A write of CAN_CTRL.EN checks settings or discards the queue. -/
  | canEnable (r : Req) (n : Nat) (v : Word)
  /-- RX_TAIL_WRITE (R447): A write of CAN_RX_TAIL frees ring records. -/
  | rxTailWrite (r : Req) (n : Nat) (v : Word)
  /-- CAN_RX (R447): An accepted CAN frame is written to the receive ring. -/
  | canRx (n : Nat) (f : CanFrame)
  /-- TX_ATTEMPT_END (R445): A CAN frame's attempt ends and its result is recorded. -/
  | txAttemptEnd (n : Nat) (o : TxOutcome)
  /-- BUS_OFF (R448): A CAN port's error state changes, including bus-off and its recovery. -/
  | busOff (n tec rec lec : Nat) (st : CanState)
  /-- COIL_OVER (R472): A driver reaches its current limit or overheats and switches off for 1 s. -/
  | coilOver (n : Nat)
  /-- COIL_RETRY (R472): 1 s after switching off, the driver retries. -/
  | coilRetry (n : Nat) (holds : Bool)
  /-- COIL_OPEN (R472): A driven output under 10 mA for 100 ms sets OPEN. -/
  | coilOpen (n : Nat)
  /-- NOCOILV (R472): COIL_V falls below 16 V. -/
  | nocoilv (low : Bool)
  /-- FAN_FAIL (R477): A fan's speed stays low for 5 s and the other fans go to full. -/
  | fanFail (f : Nat)
  /-- TRAY_REMOVED (R477): The fan tray is removed and every FAIL bit sets. -/
  | trayRemoved
  /-- HOLD_IN_CHANGE (R368): The partner's HOLD_OUT, read as HOLD_IN, rises or falls; fallback ends on assertion and the takeover and ILK_OPEN counts start on deassertion. -/
  | holdInChange (asserted : Bool)
  /-- PEER_PRESENT_CHANGE (R330): PEER_PRESENT asserts or deasserts as the pair cable or partner sled is fitted or removed, changing PAIR_STATUS.PAIRED and the takeover case. -/
  | peerPresentChange (cable : PairCable)
  /-- SET_REPEAT (R351): The lead repeats SET every 10 ms to a module whose beacon still disagrees. -/
  | setRepeat
  /-- PTP_SYNC_SEND (R263): A ring or pair port in MASTER state sends Sync 16 times per second. -/
  | ptpSyncSend (port : Nat)
  /-- PEER_DELAY_MEASURE (R267): Once per second each of E, W and P starts a peer-delay exchange and updates meanLinkDelay. -/
  | peerDelayMeasure (port delay : Nat)
  /-- EGRESS_TX_END (R281): An Ethernet port finishes sending a frame, frees its Snowpack cells and starts the next by strict priority. -/
  | egressTxEnd (port : Nat)
  /-- WRAP_RELAY (R192): The partner receives chain frames over P during a wrap and relays them from its own chain port with re-stamped TIME. -/
  | wrapRelay (chain : Nat) (f : ChainFrame)
  /-- SURVEY_BEACON_RX (R203): A head's slot-0 survey receiver reports a foreign beacon as an RX frame with SURVEY set, and the conflict count rises. -/
  | surveyBeaconRx (head other : Nat) (rssi : Int)
  /-- BAD_FCS_RX (R207): An RX frame failing its FCS at or above RSSI_MIN is counted as a collision. -/
  | badFcsRx (head : Nat) (rssi : Int)
  /-- CHAIN_FRAME_DISCARD (R183): A chain frame with a bad CRC, HOP 8 to 14 or a reserved type reaches the module and is discarded and counted. -/
  | chainFrameDiscard (chain : Nat)
  /-- LOW_PATH_OVERLOAD (R233): A low-path sample reaching 15/16 of full scale switches the phase to the normal path at once. -/
  | lowPathOverload (phase : Nat) (part : PodWords)
  /-- CLIP (R231): A normal-path sample at full scale sets MELT_POD.CLIP and MELT_EVT.CLIP. -/
  | clip (feeder : Nat)
  /-- PULSE_END (R244): WIDTH ms after a pulse closes, the output opens and its gap begins. -/
  | pulseEnd (n : Nat)
  /-- PPS_OUT_FALL (R265): PPS_OUT falls 100 ms after each rising edge. -/
  | ppsOutFall
  /-- PWRON_N_RELEASE (R385): Rime releases PWRON_N 100 ms after driving it low for a wake cause. -/
  | pwronNRelease
  /-- RIME_STOP (R481): Rime loses all power when the supercapacitor is exhausted or removed with no feed, ending fallback, and the RTC runs on the coin cell or restarts. -/
  | rimeStop (coinLost : Bool)
  /-- TAMPER1_RELEASE (R392): A class 1 source releases after its dwell, clearing LID, LOOP or LIGHT in RIME_TAMP while C1 stays latched. -/
  | tamper1Release (src : Tamper1)
  /-- H2_WRITE_DONE (R400): In PV-H2 mode a queued record finishes its three-step MRAM write, freeing a queue place. -/
  | h2WriteDone
  /-- MGMT_DISCONNECT (R408): The management session closes, clearing CRQ_MGMT.SESSION and setting CRQ_EVT.MGMT. -/
  | mgmtDisconnect
  /-- RELAY_CHUNK_SEND (R425): The lead or a forwarding module sends the next chunk, paced to RELAY_RATE. -/
  | relayChunkSend
  /-- DRIVE_INSERTED (R316): A new drive appears behind a STOR port whose link is already up, is identified, and may start a rebuild. -/
  | driveInserted (slot : Nat) (d : DriveId)
  /-- TRAY_FITTED (R477): TRAY_PRES_N goes low as a fan tray is fitted, and SYS_FAN.TRAY sets. -/
  | trayFitted
deriving DecidableEq, Repr

end Sys2Proof
end

