-- ==== Sys2Proof/Decode.lean ====
section
/-!
DEFINITION. Sys2Proof/Decode.lean: the encodings of the Gnor instructions (R143 to R150, R167): decoding of a 32-bit
word, the encoder, and the host's decoder of the operation table, none of whose rows has bits.
-/

namespace Sys2Proof

/-- Register operations (R147). -/
def decAlu (t : Tid) (rd ra rb : BitVec 5) (func : BitVec 11) : Option Instr :=
  match func.toNat with
  | 0x0 => some (.add t rd ra rb)
  | 0x1 => some (.sub t rd ra rb)
  | 0x2 => some (.addw t rd ra rb)
  | 0x3 => some (.subw t rd ra rb)
  | 0x4 => some (.and t rd ra rb)
  | 0x5 => some (.or t rd ra rb)
  | 0x6 => some (.xor t rd ra rb)
  | 0x7 => some (.andn t rd ra rb)
  | 0x8 => some (.sll t rd ra rb)
  | 0x9 => some (.srl t rd ra rb)
  | 0xa => some (.sra t rd ra rb)
  | 0xb => some (.slt t rd ra rb)
  | 0xc => some (.sltu t rd ra rb)
  | 0xd => some (.min t rd ra rb)
  | 0xe => some (.max t rd ra rb)
  | 0xf => some (.minu t rd ra rb)
  | 0x10 => some (.maxu t rd ra rb)
  | 0x11 => some (.movz t rd ra rb)
  | 0x12 => some (.movn t rd ra rb)
  | 0x18 => if rb = 0 then some (.sxb t rd ra) else none
  | 0x19 => if rb = 0 then some (.sxh t rd ra) else none
  | 0x1a => if rb = 0 then some (.sxw t rd ra) else none
  | 0x1b => if rb = 0 then some (.zxb t rd ra) else none
  | 0x1c => if rb = 0 then some (.zxh t rd ra) else none
  | 0x1d => if rb = 0 then some (.zxw t rd ra) else none
  | 0x1e => if rb = 0 then some (.clz t rd ra) else none
  | 0x1f => if rb = 0 then some (.popc t rd ra) else none
  | _ => none

/-- Multiply and divide operations (R149). -/
def decMulDiv (t : Tid) (rd ra rb : BitVec 5) (func : BitVec 11) : Option Instr :=
  match func.toNat with
  | 0x0 => some (.mul t rd ra rb)
  | 0x1 => some (.mulh t rd ra rb)
  | 0x2 => some (.mulhu t rd ra rb)
  | 0x3 => some (.mulw t rd ra rb)
  | 0x8 => some (.div t rd ra rb)
  | 0x9 => some (.divu t rd ra rb)
  | 0xa => some (.rem t rd ra rb)
  | 0xb => some (.remu t rd ra rb)
  | 0xc => some (.divw t rd ra rb)
  | 0xd => some (.divuw t rd ra rb)
  | 0xe => some (.remw t rd ra rb)
  | 0xf => some (.remuw t rd ra rb)
  | _ => none

/-- The system group (R150). -/
def decSys (t : Tid) (rd ra rb : BitVec 5) (func : BitVec 11) : Option Instr :=
  match func.toNat with
  | 0x0 => if rb = 0 then some (.mfs t rd ra) else none
  | 0x1 => if rb = 0 then some (.mts t rd ra) else none
  | 0x2 => if rd = 0 ∧ ra = 0 ∧ rb = 0 then some (.fence t) else none
  | 0x3 => if rd = 0 ∧ ra = 0 ∧ rb = 0 then some (.xret t) else none
  | 0x4 => if rd = 0 ∧ ra = 0 then some (.trap t rb) else none
  | 0x5 => if rd = 0 ∧ ra = 0 ∧ rb = 0 then some (.brk t) else none
  | 0x6 => if rd = 0 ∧ ra = 0 ∧ rb = 0 then some (.idle t) else none
  | _ => none

/-- Atomic operations (R156). -/
def decAtom (t : Tid) (rd ra rb : BitVec 5) (func : BitVec 11) : Option Instr :=
  match func.toNat with
  | 0x0 => some (.aaddw t rd ra rb)
  | 0x1 => some (.aandw t rd ra rb)
  | 0x2 => some (.aorw t rd ra rb)
  | 0x3 => some (.axorw t rd ra rb)
  | 0x4 => some (.aswpw t rd ra rb)
  | 0x5 => some (.acasw t rd ra rb)
  | 0x8 => some (.aaddd t rd ra rb)
  | 0x9 => some (.aandd t rd ra rb)
  | 0xa => some (.aord t rd ra rb)
  | 0xb => some (.axord t rd ra rb)
  | 0xc => some (.aswpd t rd ra rb)
  | 0xd => some (.acasd t rd ra rb)
  | _ => none

/-- Wide operations (R159). -/
def decWide (t : Tid) (wd wa wb : BitVec 3) (g : BitVec 5) (func : BitVec 8) (k : BitVec 4) : Option Instr :=
  match func.toNat with
  | 0x0 => if g = 0 ∧ k = 0 then some (.wadd t wd wa wb) else none
  | 0x1 => if g = 0 ∧ k = 0 then some (.wsub t wd wa wb) else none
  | 0x2 => if g = 0 ∧ k = 0 then some (.waddu t wd wa wb) else none
  | 0x3 => if g = 0 ∧ k = 0 then some (.wsubu t wd wa wb) else none
  | 0x4 => if g = 0 ∧ k = 0 then some (.wadds t wd wa wb) else none
  | 0x5 => if g = 0 ∧ k = 0 then some (.wsubs t wd wa wb) else none
  | 0x8 => if g = 0 ∧ k = 0 then some (.wmulh t wd wa wb) else none
  | 0x10 => if g = 0 ∧ k = 0 then some (.wminu t wd wa wb) else none
  | 0x11 => if g = 0 ∧ k = 0 then some (.wmaxu t wd wa wb) else none
  | 0x12 => if g = 0 ∧ k = 0 then some (.wmins t wd wa wb) else none
  | 0x13 => if g = 0 ∧ k = 0 then some (.wmaxs t wd wa wb) else none
  | 0x14 => if g = 0 ∧ k = 0 then some (.wand t wd wa wb) else none
  | 0x15 => if g = 0 ∧ k = 0 then some (.wor t wd wa wb) else none
  | 0x16 => if g = 0 ∧ k = 0 then some (.wxor t wd wa wb) else none
  | 0x17 => if g = 0 ∧ k = 0 then some (.wandn t wd wa wb) else none
  | 0x1c => if g = 0 ∧ k = 0 then some (.wcmpeq t wd wa wb) else none
  | 0x1d => if g = 0 ∧ k = 0 then some (.wcmpltu t wd wa wb) else none
  | 0x1e => if g = 0 ∧ k = 0 then some (.wcmplts t wd wa wb) else none
  | 0x1f => if g = 0 ∧ k = 0 then some (.wsel t wd wa wb) else none
  | 0x27 => if g = 0 ∧ k = 0 then some (.wperm t wd wa wb) else none
  | 0x9 => if g = 0 then some (.wmulq t wd wa wb k) else none
  | 0xa => if g = 0 then some (.wmulsq t wd wa wb k) else none
  | 0xb => if g = 0 then some (.wdivq t wd wa wb k) else none
  | 0xc => if g = 0 then some (.wlerp t wd wa wb k) else none
  | 0x18 => if wb = 0 ∧ g = 0 then some (.wsll t wd wa k) else none
  | 0x19 => if wb = 0 ∧ g = 0 then some (.wsrl t wd wa k) else none
  | 0x1a => if wb = 0 ∧ g = 0 then some (.wsra t wd wa k) else none
  | 0x20 => if wa = 0 ∧ wb = 0 ∧ k = 0 then some (.wsplat t wd g) else none
  | 0x21 => if wa = 0 ∧ wb = 0 ∧ k.extractLsb' 3 1 = 0 then some (.wins t wd g (k.extractLsb' 0 3)) else none
  | 0x22 => if wd = 0 ∧ wb = 0 ∧ k.extractLsb' 3 1 = 0 then some (.wext t g wa (k.extractLsb' 0 3)) else none
  | 0x23 => if wb = 0 ∧ g = 0 ∧ k = 0 then some (.wmov t wd wa) else none
  | 0x24 => if wd = 0 ∧ wb = 0 ∧ k.extractLsb' 1 3 = 0 then some (.wgetd t g wa (k.extractLsb' 0 1)) else none
  | 0x25 => if wa = 0 ∧ wb = 0 ∧ k.extractLsb' 1 3 = 0 then some (.wputd t wd g (k.extractLsb' 0 1)) else none
  | 0x26 => if wd = 0 ∧ wb = 0 ∧ k = 0 then some (.wsum t g wa) else none
  | _ => none

/-- KOP operations (R419). -/
def decKop (t : Tid) (rd ra rb : BitVec 5) (w : BitVec 3) (imm : BitVec 7) : Option Instr :=
  match imm.toNat with
  | 0x0 => some (.random t rd ra rb w)
  | 0x1 => some (.aesEnc t rd ra rb w)
  | 0x2 => some (.aesDec t rd ra rb w)
  | 0x3 => some (.gcmSeal t rd ra rb w)
  | 0x4 => some (.gcmOpen t rd ra rb w)
  | 0x5 => some (.cmac t rd ra rb w)
  | 0x6 => some (.hmac t rd ra rb w)
  | 0x7 => some (.hash t rd ra rb w)
  | 0x8 => some (.sign t rd ra rb w)
  | 0x9 => some (.verify t rd ra rb w)
  | 0xa => some (.ecdh t rd ra rb w)
  | 0xb => some (.derive t rd ra rb w)
  | 0xc => some (.generate t rd ra rb w)
  | 0xd => some (.wrap t rd ra rb w)
  | 0xe => some (.unwrap t rd ra rb w)
  | 0xf => some (.erase t rd ra rb w)
  | 0x10 => some (.info t rd ra rb w)
  | _ => none

/-- The primitives (R167), by major opcode and S. -/
def decPrim (t : Tid) (rd ra rb : BitVec 5) (w : BitVec 3) (sf : BitVec 1) (imm : BitVec 7) (maj : BitVec 6) : Option Instr :=
  match 2 * maj.toNat + sf.toNat with
  | 0x70 => if rd = 0 ∧ imm = 0 then some (.qpush t ra rb w) else none
  | 0x71 => if rb = 0 ∧ imm = 0 then some (.qpop t rd ra w) else none
  | 0x72 => if rb = 0 ∧ imm.extractLsb' 2 5 = 0 then some (.tlook t rd ra w (imm.extractLsb' 0 2)) else none
  | 0x73 => if imm = 0 then some (.tlaunch t rd ra rb w) else none
  | 0x74 => if rd = 0 ∧ rb = 0 ∧ imm = 0 then some (.fwrite t ra w) else none
  | 0x75 => if rd = 0 ∧ rb = 0 ∧ imm.extractLsb' 4 3 = 0 then some (.fread t ra w (imm.extractLsb' 0 4)) else none
  | 0x76 => if rd = 0 ∧ w = 0 ∧ imm = 0 then some (.surge t ra rb) else none
  | 0x77 => if rd = 0 ∧ ra = 0 ∧ rb = 0 ∧ imm = 0 then some (.commit t w) else none
  | 0x78 => if rd = 0 ∧ w = 0 ∧ imm = 0 then some (.mbxs t ra rb) else none
  | 0x79 => if rb = 0 ∧ w = 0 ∧ imm = 0 then some (.mbxr t rd ra) else none
  | 0x7a => if imm = 0 then (if rd = 0 ∧ w = 0 ∧ imm = 0 then some (.dbellRing t ra rb) else none)
    else if imm = 1 then (if rb = 0 ∧ w = 0 ∧ imm = 1 then some (.dbellTake t rd ra) else none)
    else (if rd = 0 ∧ rb = 0 ∧ w = 0 ∧ imm = 2 then some (.dbellMask t ra) else none)
  | 0x7b => if rb = 0 ∧ w = 0 ∧ imm = 0 then some (.wait t rd ra) else none
  | 0x7c => if imm = 0 then some (.eput t rd ra rb w) else none
  | 0x7d => if rb = 0 ∧ imm.extractLsb' 3 4 = 0 then some (.mread t rd ra w (imm.extractLsb' 0 3)) else none
  | 0x7e => decKop t rd ra rb w imm
  | 0x7f => if rd = 0 ∧ imm = 0 then some (.log t ra rb w) else none
  | _ => none

/-- The Gnor instruction that a word spells for a thread: none where R145 calls it ILLEGAL, and for DBELL operation 3
and KOP operations 0x11 to 0x3F, which complete with RANGE and are no rows of the operation table. -/
def decodeGnor (t : Tid) (w : BitVec 32) : Option Instr :=
  let maj := w.extractLsb' 26 6
  let rd := w.extractLsb' 21 5
  let ra := w.extractLsb' 16 5
  let rb := w.extractLsb' 11 5
  let func := w.extractLsb' 0 11
  let imm := w.extractLsb' 0 16
  match maj.toNat with
  | 0x0 => decAlu t rd ra rb func
  | 0x1 => decMulDiv t rd ra rb func
  | 0x3 => decSys t rd ra rb func
  | 0x4 => some (.addi t rd ra imm)
  | 0x5 => some (.andi t rd ra imm)
  | 0x6 => some (.ori t rd ra imm)
  | 0x7 => some (.xori t rd ra imm)
  | 0x8 => some (.slti t rd ra imm)
  | 0x9 => some (.sltiu t rd ra imm)
  | 0xb => some (.orh t rd ra imm)
  | 0xa => if ra = 0 then some (.lui t rd imm) else none
  | 0xc => if imm.extractLsb' 6 8 = 0 then
      match (imm.extractLsb' 14 2).toNat with
      | 0 => some (.slli t rd ra (imm.extractLsb' 0 6))
      | 1 => some (.srli t rd ra (imm.extractLsb' 0 6))
      | 2 => some (.srai t rd ra (imm.extractLsb' 0 6))
      | _ => none
    else none
  | 0x10 => some (.lb t rd ra imm)
  | 0x11 => some (.lbu t rd ra imm)
  | 0x12 => some (.lh t rd ra imm)
  | 0x13 => some (.lhu t rd ra imm)
  | 0x14 => some (.lw t rd ra imm)
  | 0x15 => some (.lwu t rd ra imm)
  | 0x16 => some (.ld t rd ra imm)
  | 0x18 => some (.sb t rd ra imm)
  | 0x19 => some (.sh t rd ra imm)
  | 0x1a => some (.sw t rd ra imm)
  | 0x1b => some (.sd t rd ra imm)
  | 0x1c => decAtom t rd ra rb func
  | 0x1d => if rd = 0 then some (.flush t ra imm) else if rd = 1 then some (.inval t ra imm) else none
  | 0x20 => some (.beq t rd ra imm)
  | 0x21 => some (.bne t rd ra imm)
  | 0x22 => some (.blt t rd ra imm)
  | 0x23 => some (.bge t rd ra imm)
  | 0x24 => some (.bltu t rd ra imm)
  | 0x25 => some (.bgeu t rd ra imm)
  | 0x26 => if rd = 0 ∧ ra = 0 then some (.bccz t imm) else none
  | 0x27 => if rd = 0 ∧ ra = 0 then some (.bccnz t imm) else none
  | 0x28 => some (.j t (w.extractLsb' 0 26))
  | 0x29 => some (.jal t (w.extractLsb' 0 26))
  | 0x2a => some (.jalr t rd ra imm)
  | 0x30 => if rd.extractLsb' 3 2 = 0 then some (.wld t (rd.extractLsb' 0 3) ra imm) else none
  | 0x31 => if rd.extractLsb' 3 2 = 0 then some (.wst t (rd.extractLsb' 0 3) ra imm) else none
  | 0x32 => decWide t (w.extractLsb' 23 3) (w.extractLsb' 20 3) (w.extractLsb' 17 3) (w.extractLsb' 12 5) (w.extractLsb' 4 8)
      (w.extractLsb' 0 4)
  | 0x38 => decPrim t rd ra rb (w.extractLsb' 8 3) (w.extractLsb' 7 1) (w.extractLsb' 0 7) maj
  | 0x39 => decPrim t rd ra rb (w.extractLsb' 8 3) (w.extractLsb' 7 1) (w.extractLsb' 0 7) maj
  | 0x3a => decPrim t rd ra rb (w.extractLsb' 8 3) (w.extractLsb' 7 1) (w.extractLsb' 0 7) maj
  | 0x3b => decPrim t rd ra rb (w.extractLsb' 8 3) (w.extractLsb' 7 1) (w.extractLsb' 0 7) maj
  | 0x3c => decPrim t rd ra rb (w.extractLsb' 8 3) (w.extractLsb' 7 1) (w.extractLsb' 0 7) maj
  | 0x3d => decPrim t rd ra rb (w.extractLsb' 8 3) (w.extractLsb' 7 1) (w.extractLsb' 0 7) maj
  | 0x3e => decPrim t rd ra rb (w.extractLsb' 8 3) (w.extractLsb' 7 1) (w.extractLsb' 0 7) maj
  | 0x3f => decPrim t rd ra rb (w.extractLsb' 8 3) (w.extractLsb' 7 1) (w.extractLsb' 0 7) maj
  | _ => none

/-- Format A (R144). -/
def fmtA (maj : BitVec 6) (rd ra rb : BitVec 5) (func : BitVec 11) : BitVec 32 := maj ++ rd ++ ra ++ rb ++ func

/-- Formats I, M and B (R144): two register fields and 16 bits. -/
def fmtI (maj : BitVec 6) (rd ra : BitVec 5) (imm : BitVec 16) : BitVec 32 := maj ++ rd ++ ra ++ imm

/-- Format J (R144). -/
def fmtJ (maj : BitVec 6) (off : BitVec 26) : BitVec 32 := maj ++ off

/-- Format P (R144). -/
def fmtP (maj : BitVec 6) (rd ra rb : BitVec 5) (w : BitVec 3) (sf : BitVec 1) (imm : BitVec 7) : BitVec 32 :=
  maj ++ rd ++ ra ++ rb ++ w ++ sf ++ imm

/-- Format W (R144), major opcode 0x32. -/
def fmtW (wd wa wb : BitVec 3) (g : BitVec 5) (func : BitVec 8) (k : BitVec 4) : BitVec 32 :=
  (0x32 : BitVec 6) ++ wd ++ wa ++ wb ++ g ++ func ++ k

/-- The word of a Gnor instruction; a command that is no Gnor instruction has none. -/
def encode : Instr → BitVec 32
  | .add _ rd ra rb => fmtA 0x00 rd ra rb 0x0
  | .sub _ rd ra rb => fmtA 0x00 rd ra rb 0x1
  | .addw _ rd ra rb => fmtA 0x00 rd ra rb 0x2
  | .subw _ rd ra rb => fmtA 0x00 rd ra rb 0x3
  | .and _ rd ra rb => fmtA 0x00 rd ra rb 0x4
  | .or _ rd ra rb => fmtA 0x00 rd ra rb 0x5
  | .xor _ rd ra rb => fmtA 0x00 rd ra rb 0x6
  | .andn _ rd ra rb => fmtA 0x00 rd ra rb 0x7
  | .sll _ rd ra rb => fmtA 0x00 rd ra rb 0x8
  | .srl _ rd ra rb => fmtA 0x00 rd ra rb 0x9
  | .sra _ rd ra rb => fmtA 0x00 rd ra rb 0xa
  | .slt _ rd ra rb => fmtA 0x00 rd ra rb 0xb
  | .sltu _ rd ra rb => fmtA 0x00 rd ra rb 0xc
  | .min _ rd ra rb => fmtA 0x00 rd ra rb 0xd
  | .max _ rd ra rb => fmtA 0x00 rd ra rb 0xe
  | .minu _ rd ra rb => fmtA 0x00 rd ra rb 0xf
  | .maxu _ rd ra rb => fmtA 0x00 rd ra rb 0x10
  | .movz _ rd ra rb => fmtA 0x00 rd ra rb 0x11
  | .movn _ rd ra rb => fmtA 0x00 rd ra rb 0x12
  | .sxb _ rd ra => fmtA 0x00 rd ra 0 0x18
  | .sxh _ rd ra => fmtA 0x00 rd ra 0 0x19
  | .sxw _ rd ra => fmtA 0x00 rd ra 0 0x1a
  | .zxb _ rd ra => fmtA 0x00 rd ra 0 0x1b
  | .zxh _ rd ra => fmtA 0x00 rd ra 0 0x1c
  | .zxw _ rd ra => fmtA 0x00 rd ra 0 0x1d
  | .clz _ rd ra => fmtA 0x00 rd ra 0 0x1e
  | .popc _ rd ra => fmtA 0x00 rd ra 0 0x1f
  | .mul _ rd ra rb => fmtA 0x01 rd ra rb 0x0
  | .mulh _ rd ra rb => fmtA 0x01 rd ra rb 0x1
  | .mulhu _ rd ra rb => fmtA 0x01 rd ra rb 0x2
  | .mulw _ rd ra rb => fmtA 0x01 rd ra rb 0x3
  | .div _ rd ra rb => fmtA 0x01 rd ra rb 0x8
  | .divu _ rd ra rb => fmtA 0x01 rd ra rb 0x9
  | .rem _ rd ra rb => fmtA 0x01 rd ra rb 0xa
  | .remu _ rd ra rb => fmtA 0x01 rd ra rb 0xb
  | .divw _ rd ra rb => fmtA 0x01 rd ra rb 0xc
  | .divuw _ rd ra rb => fmtA 0x01 rd ra rb 0xd
  | .remw _ rd ra rb => fmtA 0x01 rd ra rb 0xe
  | .remuw _ rd ra rb => fmtA 0x01 rd ra rb 0xf
  | .mfs _ rd s => fmtA 0x03 rd s 0 0x000
  | .mts _ s ra => fmtA 0x03 s ra 0 0x001
  | .fence _ => fmtA 0x03 0 0 0 0x002
  | .xret _ => fmtA 0x03 0 0 0 0x003
  | .trap _ n => fmtA 0x03 0 0 n 0x004
  | .brk _ => fmtA 0x03 0 0 0 0x005
  | .idle _ => fmtA 0x03 0 0 0 0x006
  | .addi _ rd ra imm => fmtI 0x4 rd ra imm
  | .andi _ rd ra imm => fmtI 0x5 rd ra imm
  | .ori _ rd ra imm => fmtI 0x6 rd ra imm
  | .xori _ rd ra imm => fmtI 0x7 rd ra imm
  | .slti _ rd ra imm => fmtI 0x8 rd ra imm
  | .sltiu _ rd ra imm => fmtI 0x9 rd ra imm
  | .orh _ rd ra imm => fmtI 0xb rd ra imm
  | .jalr _ rd ra imm => fmtI 0x2a rd ra imm
  | .lui _ rd imm => fmtI 0x0A rd 0 imm
  | .slli _ rd ra n => fmtI 0x0C rd ra ((0 : BitVec 2) ++ (0 : BitVec 8) ++ n)
  | .srli _ rd ra n => fmtI 0x0C rd ra ((1 : BitVec 2) ++ (0 : BitVec 8) ++ n)
  | .srai _ rd ra n => fmtI 0x0C rd ra ((2 : BitVec 2) ++ (0 : BitVec 8) ++ n)
  | .lb _ rt ra disp => fmtI 0x10 rt ra disp
  | .lbu _ rt ra disp => fmtI 0x11 rt ra disp
  | .lh _ rt ra disp => fmtI 0x12 rt ra disp
  | .lhu _ rt ra disp => fmtI 0x13 rt ra disp
  | .lw _ rt ra disp => fmtI 0x14 rt ra disp
  | .lwu _ rt ra disp => fmtI 0x15 rt ra disp
  | .ld _ rt ra disp => fmtI 0x16 rt ra disp
  | .sb _ rt ra disp => fmtI 0x18 rt ra disp
  | .sh _ rt ra disp => fmtI 0x19 rt ra disp
  | .sw _ rt ra disp => fmtI 0x1a rt ra disp
  | .sd _ rt ra disp => fmtI 0x1b rt ra disp
  | .flush _ ra disp => fmtI 0x1D 0 ra disp
  | .inval _ ra disp => fmtI 0x1D 1 ra disp
  | .wld _ w ra disp => fmtI 0x30 ((0 : BitVec 2) ++ w) ra disp
  | .wst _ w ra disp => fmtI 0x31 ((0 : BitVec 2) ++ w) ra disp
  | .aaddw _ rd ra rb => fmtA 0x1C rd ra rb 0x0
  | .aandw _ rd ra rb => fmtA 0x1C rd ra rb 0x1
  | .aorw _ rd ra rb => fmtA 0x1C rd ra rb 0x2
  | .axorw _ rd ra rb => fmtA 0x1C rd ra rb 0x3
  | .aswpw _ rd ra rb => fmtA 0x1C rd ra rb 0x4
  | .acasw _ rd ra rb => fmtA 0x1C rd ra rb 0x5
  | .aaddd _ rd ra rb => fmtA 0x1C rd ra rb 0x8
  | .aandd _ rd ra rb => fmtA 0x1C rd ra rb 0x9
  | .aord _ rd ra rb => fmtA 0x1C rd ra rb 0xa
  | .axord _ rd ra rb => fmtA 0x1C rd ra rb 0xb
  | .aswpd _ rd ra rb => fmtA 0x1C rd ra rb 0xc
  | .acasd _ rd ra rb => fmtA 0x1C rd ra rb 0xd
  | .beq _ ra rb off => fmtI 0x20 ra rb off
  | .bne _ ra rb off => fmtI 0x21 ra rb off
  | .blt _ ra rb off => fmtI 0x22 ra rb off
  | .bge _ ra rb off => fmtI 0x23 ra rb off
  | .bltu _ ra rb off => fmtI 0x24 ra rb off
  | .bgeu _ ra rb off => fmtI 0x25 ra rb off
  | .bccz _ off => fmtI 0x26 0 0 off
  | .bccnz _ off => fmtI 0x27 0 0 off
  | .j _ off => fmtJ 0x28 off
  | .jal _ off => fmtJ 0x29 off
  | .wadd _ wd wa wb => fmtW wd wa wb 0 0x0 0
  | .wsub _ wd wa wb => fmtW wd wa wb 0 0x1 0
  | .waddu _ wd wa wb => fmtW wd wa wb 0 0x2 0
  | .wsubu _ wd wa wb => fmtW wd wa wb 0 0x3 0
  | .wadds _ wd wa wb => fmtW wd wa wb 0 0x4 0
  | .wsubs _ wd wa wb => fmtW wd wa wb 0 0x5 0
  | .wmulh _ wd wa wb => fmtW wd wa wb 0 0x8 0
  | .wminu _ wd wa wb => fmtW wd wa wb 0 0x10 0
  | .wmaxu _ wd wa wb => fmtW wd wa wb 0 0x11 0
  | .wmins _ wd wa wb => fmtW wd wa wb 0 0x12 0
  | .wmaxs _ wd wa wb => fmtW wd wa wb 0 0x13 0
  | .wand _ wd wa wb => fmtW wd wa wb 0 0x14 0
  | .wor _ wd wa wb => fmtW wd wa wb 0 0x15 0
  | .wxor _ wd wa wb => fmtW wd wa wb 0 0x16 0
  | .wandn _ wd wa wb => fmtW wd wa wb 0 0x17 0
  | .wcmpeq _ wd wa wb => fmtW wd wa wb 0 0x1c 0
  | .wcmpltu _ wd wa wb => fmtW wd wa wb 0 0x1d 0
  | .wcmplts _ wd wa wb => fmtW wd wa wb 0 0x1e 0
  | .wsel _ wd wa wb => fmtW wd wa wb 0 0x1f 0
  | .wperm _ wd wa wb => fmtW wd wa wb 0 0x27 0
  | .wmulq _ wd wa wb k => fmtW wd wa wb 0 0x9 k
  | .wmulsq _ wd wa wb k => fmtW wd wa wb 0 0xa k
  | .wdivq _ wd wa wb k => fmtW wd wa wb 0 0xb k
  | .wlerp _ wd wa wb k => fmtW wd wa wb 0 0xc k
  | .wsll _ wd wa k => fmtW wd wa 0 0 0x18 k
  | .wsrl _ wd wa k => fmtW wd wa 0 0 0x19 k
  | .wsra _ wd wa k => fmtW wd wa 0 0 0x1a k
  | .wsplat _ wd g => fmtW wd 0 0 g 0x20 0
  | .wins _ wd g k => fmtW wd 0 0 g 0x21 ((0 : BitVec 1) ++ k)
  | .wext _ g wa k => fmtW 0 wa 0 g 0x22 ((0 : BitVec 1) ++ k)
  | .wmov _ wd wa => fmtW wd wa 0 0 0x23 0
  | .wgetd _ g wa k => fmtW 0 wa 0 g 0x24 ((0 : BitVec 3) ++ k)
  | .wputd _ wd g k => fmtW wd 0 0 g 0x25 ((0 : BitVec 3) ++ k)
  | .wsum _ g wa => fmtW 0 wa 0 g 0x26 0
  | .qpush _ ra rb w => fmtP 0x38 0 ra rb w 0 0
  | .qpop _ rd ra w => fmtP 0x38 rd ra 0 w 1 0
  | .tlook _ rd ra w table => fmtP 0x39 rd ra 0 w 0 ((0 : BitVec 5) ++ table)
  | .tlaunch _ rd ra rb w => fmtP 0x39 rd ra rb w 1 0
  | .fwrite _ ra w => fmtP 0x3a 0 ra 0 w 0 0
  | .fread _ ra w sel => fmtP 0x3a 0 ra 0 w 1 ((0 : BitVec 3) ++ sel)
  | .surge _ ra rb => fmtP 0x3b 0 ra rb 0 0 0
  | .commit _ w => fmtP 0x3b 0 0 0 w 1 0
  | .mbxs _ ra rb => fmtP 0x3c 0 ra rb 0 0 0
  | .mbxr _ rd ra => fmtP 0x3c rd ra 0 0 1 0
  | .dbellRing _ ra rb => fmtP 0x3d 0 ra rb 0 0 0
  | .dbellTake _ rd ra => fmtP 0x3d rd ra 0 0 0 1
  | .dbellMask _ ra => fmtP 0x3d 0 ra 0 0 0 2
  | .wait _ rd ra => fmtP 0x3d rd ra 0 0 1 0
  | .eput _ rd ra rb w => fmtP 0x3e rd ra rb w 0 0
  | .mread _ rd ra w sel => fmtP 0x3e rd ra 0 w 1 ((0 : BitVec 4) ++ sel)
  | .log _ ra rb w => fmtP 0x3f 0 ra rb w 1 0
  | .random _ rd ra rb w => fmtP 0x3f rd ra rb w 0 0x0
  | .aesEnc _ rd ra rb w => fmtP 0x3f rd ra rb w 0 0x1
  | .aesDec _ rd ra rb w => fmtP 0x3f rd ra rb w 0 0x2
  | .gcmSeal _ rd ra rb w => fmtP 0x3f rd ra rb w 0 0x3
  | .gcmOpen _ rd ra rb w => fmtP 0x3f rd ra rb w 0 0x4
  | .cmac _ rd ra rb w => fmtP 0x3f rd ra rb w 0 0x5
  | .hmac _ rd ra rb w => fmtP 0x3f rd ra rb w 0 0x6
  | .hash _ rd ra rb w => fmtP 0x3f rd ra rb w 0 0x7
  | .sign _ rd ra rb w => fmtP 0x3f rd ra rb w 0 0x8
  | .verify _ rd ra rb w => fmtP 0x3f rd ra rb w 0 0x9
  | .ecdh _ rd ra rb w => fmtP 0x3f rd ra rb w 0 0xa
  | .derive _ rd ra rb w => fmtP 0x3f rd ra rb w 0 0xb
  | .generate _ rd ra rb w => fmtP 0x3f rd ra rb w 0 0xc
  | .wrap _ rd ra rb w => fmtP 0x3f rd ra rb w 0 0xd
  | .unwrap _ rd ra rb w => fmtP 0x3f rd ra rb w 0 0xe
  | .erase _ rd ra rb w => fmtP 0x3f rd ra rb w 0 0xf
  | .info _ rd ra rb w => fmtP 0x3f rd ra rb w 0 0x10
  | _ => 0

/-- The command that a word of the operation table spells: no row of the table has bits, so none (log entry 8). -/
def decodeTableWord (_nbits _w : Nat) : Option Instr := none

end Sys2Proof
end

