-- ==== Sys2Proof/Machine/Crypto.lean ====
section
/-!
DEFINITION. Sys2Proof/Machine/Crypto.lean: the published algorithms that the spec names and does not restate:
AES-256 (FIPS 197), GCM (NIST SP 800-38D), CMAC (SP 800-38B), key wrap (RFC 5649), SHA-384 (FIPS 180-4), HMAC
(RFC 2104), HKDF (RFC 5869), ECDSA and ECDH on P-384 (FIPS 186-4, RFC 6979). PRESUMED from those texts (log entry 7).
-/

namespace Sys2Proof.Machine

/-! ## AES-256 -/

/-- Multiplication by x in the field of AES. -/
def xtime (a : Byte) : Byte := if a.getLsbD 7 then (a <<< 1) ^^^ 0x1B else a <<< 1

/-- Multiplication in the field of AES, by the bits of b from bit i up. -/
def gfMulAux : Nat → Byte → Byte → Byte → Byte
  | 0, _, _, acc => acc
  | n + 1, a, b, acc => gfMulAux n (xtime a) (b >>> 1) (if b.getLsbD 0 then acc ^^^ a else acc)

def gfMul (a b : Byte) : Byte := gfMulAux 8 a b 0

/-- a^254, the inverse of a (0 for 0). -/
def gfInv (a : Byte) : Byte :=
  let a2 := gfMul a a
  let a3 := gfMul a2 a
  let a6 := gfMul a3 a3
  let a12 := gfMul a6 a6
  let a15 := gfMul a12 a3
  let a30 := gfMul a15 a15
  let a60 := gfMul a30 a30
  let a120 := gfMul a60 a60
  let a126 := gfMul a120 a6
  let a127 := gfMul a126 a
  gfMul a127 a127

/-- The S-box. -/
def sbox (a : Byte) : Byte :=
  let b := gfInv a
  b ^^^ b.rotateLeft 1 ^^^ b.rotateLeft 2 ^^^ b.rotateLeft 3 ^^^ b.rotateLeft 4 ^^^ 0x63

/-- The inverse S-box. -/
def invSbox (b : Byte) : Byte := gfInv (b.rotateLeft 1 ^^^ b.rotateLeft 3 ^^^ b.rotateLeft 6 ^^^ 0x05)

/-- Bytes combined by exclusive or. -/
def xorBytes (a b : List Byte) : List Byte := List.zipWith (· ^^^ ·) a b

/-- Byte i of a list, 0 beyond its end. -/
def nth (l : List Byte) (i : Nat) : Byte := l.getD i 0

/-- A list cut into pieces of n, with fuel for its length. -/
def piecesAux {α : Type} (n : Nat) : Nat → List α → List (List α)
  | 0, _ => []
  | k + 1, l => if l.isEmpty then [] else l.take n :: piecesAux n k (l.drop n)

def pieces {α : Type} (n : Nat) (l : List α) : List (List α) := piecesAux n l.length l

/-- The key schedule: words after the first eight, newest first. -/
def keyWords : Nat → List (List Byte) → List (List Byte)
  | 0, ws => ws
  | n + 1, ws =>
    let i := ws.length
    let prev := ws.headD []
    let t :=
      if i % 8 = 0 then
        xorBytes [sbox (nth prev 1), sbox (nth prev 2), sbox (nth prev 3), sbox (nth prev 0)]
          [BitVec.ofNat 8 (2 ^ (i / 8 - 1)), 0, 0, 0]
      else if i % 8 = 4 then prev.map sbox
      else prev
    keyWords n (xorBytes (ws.getD 7 []) t :: ws)

/-- The fifteen round keys of a 256-bit key. -/
def roundKeys (key : List Byte) : List (List Byte) :=
  (pieces 4 (keyWords 52 (pieces 4 key).reverse).reverse).map List.flatten

def shiftRows (b : List Byte) : List Byte := (List.range 16).map (fun i => nth b ((i + 4 * (i % 4)) % 16))
def invShiftRows (b : List Byte) : List Byte := (List.range 16).map (fun i => nth b ((i + 12 * (i % 4)) % 16))

/-- The columns of the state multiplied by a circulant matrix. -/
def mixCols (m : List Byte) (b : List Byte) : List Byte :=
  (List.range 16).map (fun i =>
    (List.range 4).foldl (fun a k => a ^^^ gfMul (nth m ((k + 4 - i % 4) % 4)) (nth b (i / 4 * 4 + k))) 0)

/-- One block enciphered. -/
def aesEnc (key blk : List Byte) : List Byte :=
  match roundKeys key with
  | k0 :: ks =>
    let mid := ks.dropLast.foldl
      (fun st k => xorBytes (mixCols [2, 3, 1, 1] (shiftRows (st.map sbox))) k) (xorBytes blk k0)
    xorBytes (shiftRows (mid.map sbox)) (ks.getLastD [])
  | [] => blk

/-- One block deciphered. -/
def aesDec (key blk : List Byte) : List Byte :=
  match (roundKeys key).reverse with
  | k0 :: ks =>
    let mid := ks.dropLast.foldl
      (fun st k => mixCols [14, 11, 13, 9] (xorBytes ((invShiftRows st).map invSbox) k)) (xorBytes blk k0)
    xorBytes ((invShiftRows mid).map invSbox) (ks.getLastD [])
  | [] => blk

/-! ## GCM -/

/-- Multiplication in GCM's field: bit 0 of the field is the most significant bit of the block. -/
def ghashMulAux : Nat → BitVec 128 → BitVec 128 → BitVec 128 → BitVec 128
  | 0, _, _, z => z
  | n + 1, x, v, z =>
    ghashMulAux n (x <<< 1)
      (if v.getLsbD 0 then (v >>> 1) ^^^ (0xE1#128 <<< 120) else v >>> 1)
      (if x.getLsbD 127 then z ^^^ v else z)

def ghashMul (x y : BitVec 128) : BitVec 128 := ghashMulAux 128 x y 0

/-- A list of bytes filled up with zeros to a multiple of n. -/
def padTo (n : Nat) (l : List Byte) : List Byte := l ++ List.replicate ((n - l.length % n) % n) 0

def ghash (h : BitVec 128) (data : List Byte) : BitVec 128 :=
  (pieces 16 data).foldl (fun y b => ghashMul (y ^^^ BitVec.ofNat 128 (ofBe b)) h) 0

/-- The counter-mode stream over a message from a 12-byte nonce and a first counter. -/
def gcmCtr (key nonce : List Byte) (c : Nat) (msg : List Byte) : List Byte :=
  ((pieces 16 msg).zipIdx.map (fun p => xorBytes p.1 (aesEnc key (nonce ++ beBytes 4 (c + p.2))))).flatten

/-- The tag of a ciphertext. -/
def gcmTag (key nonce aad ct : List Byte) : List Byte :=
  let h := BitVec.ofNat 128 (ofBe (aesEnc key (List.replicate 16 0)))
  let g := ghash h (padTo 16 aad ++ padTo 16 ct ++ beBytes 8 (8 * aad.length) ++ beBytes 8 (8 * ct.length))
  xorBytes (beBytes 16 g.toNat) (aesEnc key (nonce ++ beBytes 4 1))

/-- A message sealed: the ciphertext and the 16-byte tag. -/
def gcmSeal (key nonce aad msg : List Byte) : List Byte :=
  let ct := gcmCtr key nonce 2 msg
  ct ++ gcmTag key nonce aad ct

/-- A ciphertext that ends with its tag opened; none on a tag mismatch. -/
def gcmOpen (key nonce aad input : List Byte) : Option (List Byte) :=
  let ct := input.take (input.length - 16)
  if 16 ≤ input.length && input.drop (input.length - 16) == gcmTag key nonce aad ct then
    some (gcmCtr key nonce 2 ct)
  else none

/-! ## CMAC -/

def cmacDbl (x : BitVec 128) : BitVec 128 := if x.getLsbD 127 then (x <<< 1) ^^^ 0x87 else x <<< 1

def cmac (key msg : List Byte) : List Byte :=
  let l := BitVec.ofNat 128 (ofBe (aesEnc key (List.replicate 16 0)))
  let k1 := cmacDbl l
  let k2 := cmacDbl k1
  let n := if msg.isEmpty then 0 else (msg.length - 1) / 16 * 16
  let tail := msg.drop n
  let last := if tail.length = 16 then xorBytes tail (beBytes 16 k1.toNat)
    else xorBytes (padTo 16 (tail ++ [0x80])) (beBytes 16 k2.toNat)
  (pieces 16 (msg.take n) ++ [last]).foldl (fun x b => aesEnc key (xorBytes x b)) (List.replicate 16 0)

/-! ## Key wrap with padding -/

/-- One pass over the n semiblocks, wrapping: the round number counts on. -/
def wrapPass (key : List Byte) : Nat → List (List Byte) → List Byte → List (List Byte) → List Byte × List (List Byte)
  | _, [], a, out => (a, out.reverse)
  | t, r :: rs, a, out =>
    let b := aesEnc key (a ++ r)
    wrapPass key (t + 1) rs (xorBytes (b.take 8) (beBytes 8 t)) (b.drop 8 :: out)

def wrapRounds (key : List Byte) (n : Nat) : Nat → Nat → List Byte → List (List Byte) → List Byte
  | 0, _, a, rs => a ++ rs.flatten
  | k + 1, j, a, rs =>
    let (a, rs) := wrapPass key (n * j + 1) rs a []
    wrapRounds key n k (j + 1) a rs

/-- RFC 5649 wrapping. -/
def kwpWrap (key msg : List Byte) : List Byte :=
  let a := [0xA6, 0x59, 0x59, 0xA6] ++ beBytes 4 msg.length
  let p := padTo 8 msg
  if p.length = 8 then aesEnc key (a ++ p) else wrapRounds key (p.length / 8) 6 0 a (pieces 8 p)

/-- One pass unwrapping, over the semiblocks last first. -/
def unwrapPass (key : List Byte) : Nat → List (List Byte) → List Byte → List (List Byte) → List Byte × List (List Byte)
  | _, [], a, out => (a, out)
  | t, r :: rs, a, out =>
    let b := aesDec key (xorBytes a (beBytes 8 t) ++ r)
    unwrapPass key (t - 1) rs (b.take 8) (b.drop 8 :: out)

def unwrapRounds (key : List Byte) (n : Nat) : Nat → List Byte → List (List Byte) → List Byte
  | 0, a, rs => a ++ rs.flatten
  | j + 1, a, rs =>
    let (a, rs) := unwrapPass key (n * j + n) rs.reverse a []
    unwrapRounds key n j a rs

/-- RFC 5649 unwrapping; none on an integrity failure. -/
def kwpUnwrap (key ct : List Byte) : Option (List Byte) :=
  if ct.length % 8 = 0 && 16 ≤ ct.length then
    let pl := if ct.length = 16 then aesDec key ct
      else unwrapRounds key (ct.length / 8 - 1) 6 (ct.take 8) (pieces 8 (ct.drop 8))
    let len := ofBe ((pl.drop 4).take 4)
    let body := pl.drop 8
    if pl.take 4 == [0xA6, 0x59, 0x59, 0xA6] && len ≤ body.length && body.length < len + 8
      && (body.drop len).all (· == 0) then some (body.take len) else none
  else none

/-! ## SHA-384 -/

/-- The largest r below 2^n with r^k ≤ m, its bits found from the top. -/
def rootOf (k m : Nat) : Nat → Nat → Nat
  | 0, r => r
  | n + 1, r => rootOf k m n (if (r + 2 ^ n) ^ k ≤ m then r + 2 ^ n else r)

/-- The first 64 bits of the fractional part of the k-th root of p. -/
def rootFrac (k p : Nat) : Dword := BitVec.ofNat 64 (rootOf k (p <<< (64 * k)) 72 0)

/-- The first 80 primes: the numbers to 409 that no smaller number above 1 divides. -/
def shaPrimes : List Nat :=
  ((List.range 410).drop 2).filter (fun p => ((List.range 21).drop 2).all (fun d => p ≤ d || p % d != 0))

/-- A round constant for each of the 80 primes: the fractional part of its cube root (FIPS 180-4, 4.2.3). -/
def shaConsts : List Dword := shaPrimes.map (rootFrac 3)

/-- The eight words a to h that a round works on. -/
structure ShaRegs where
  a : Dword
  b : Dword
  c : Dword
  d : Dword
  e : Dword
  f : Dword
  g : Dword
  h : Dword

/-- The initial hash value of SHA-384: the ninth to the sixteenth prime under the square root (FIPS 180-4, 5.3.4). -/
def shaStart : ShaRegs :=
  { a := rootFrac 2 23, b := rootFrac 2 29, c := rootFrac 2 31, d := rootFrac 2 37,
    e := rootFrac 2 41, f := rootFrac 2 43, g := rootFrac 2 47, h := rootFrac 2 53 }

/-- A word turned right by each of the amounts named, all combined by exclusive or. -/
def turns (x : Dword) (ns : List Nat) : Dword := ns.foldl (fun y n => y ^^^ x.rotateRight n) 0

/-- Where the bits of x choose between y and z. -/
def choose (x y z : Dword) : Dword := z ^^^ (x &&& (y ^^^ z))

/-- What two of three bits agree on. -/
def majority (x y z : Dword) : Dword := (x &&& (y ||| z)) ||| (y &&& z)

/-- One round, with the sum of its constant and its message word. -/
def shaRound (r : ShaRegs) (kw : Dword) : ShaRegs :=
  let x := kw + r.h + choose r.e r.f r.g + turns r.e [14, 18, 41]
  { b := r.a, c := r.b, d := r.c, f := r.e, g := r.f, h := r.g,
    e := x + r.d, a := x + majority r.a r.b r.c + turns r.a [28, 34, 39] }

/-- The rounds of one block: the sixteen words of the window are the next message words, and each round pushes one more
in behind them. -/
def shaRounds : List Dword → List Dword → ShaRegs → ShaRegs
  | [], _, r => r
  | k :: ks, win, r =>
    let w (i : Nat) : Dword := win.getD i 0
    let next := w 9 + w 0 + (turns (w 1) [1, 8] ^^^ w 1 >>> 7) + (turns (w 14) [19, 61] ^^^ w 14 >>> 6)
    shaRounds ks (win.drop 1 ++ [next]) (shaRound r (k + w 0))

/-- One block taken into the hash. -/
def shaBlock (r : ShaRegs) (blk : List Byte) : ShaRegs :=
  let x := shaRounds shaConsts ((pieces 8 blk).map (fun b => BitVec.ofNat 64 (ofBe b))) r
  { a := x.a + r.a, b := x.b + r.b, c := x.c + r.c, d := x.d + r.d,
    e := x.e + r.e, f := x.f + r.f, g := x.g + r.g, h := x.h + r.h }

/-- SHA-384: 48 bytes. -/
def sha384 (msg : List Byte) : List Byte :=
  let n := msg.length
  let fill := List.replicate ((239 - n % 128) % 128) 0
  let r := (pieces 128 (msg ++ [0x80] ++ fill ++ beBytes 16 (8 * n))).foldl shaBlock shaStart
  [r.a, r.b, r.c, r.d, r.e, r.f].flatMap (fun w => beBytes 8 w.toNat)

/-! ## HMAC and HKDF -/

def hmac (key msg : List Byte) : List Byte :=
  let k := if 128 < key.length then sha384 key else key
  let k := k ++ List.replicate (128 - k.length) 0
  sha384 (k.map (· ^^^ 0x5C) ++ sha384 (k.map (· ^^^ 0x36) ++ msg))

/-- HKDF-Expand blocks. -/
def hkdfBlocks (prk info : List Byte) : Nat → Nat → List Byte → List Byte
  | 0, _, _ => []
  | n + 1, i, prev =>
    let t := hmac prk (prev ++ info ++ [BitVec.ofNat 8 i])
    t ++ hkdfBlocks prk info n (i + 1) t

/-- HKDF with an empty salt: n bytes. -/
def hkdf (ikm info : List Byte) (n : Nat) : List Byte :=
  (hkdfBlocks (hmac (List.replicate 48 0) ikm) info ((n + 47) / 48) 1 []).take n

/-! ## P-384 -/

def pP : Nat := 2 ^ 384 - 2 ^ 128 - 2 ^ 96 + 2 ^ 32 - 1
def pN : Nat := 0xffffffffffffffffffffffffffffffffffffffffffffffffc7634d81f4372ddf581a0db248b0a77aecec196accc52973
def pB : Nat := 0xb3312fa7e23ee7e4988e056be3f82d19181d9c6efe8141120314088f5013875ac656398d8a2ed19d2a85c8edd3ec2aef
def pGx : Nat := 0xaa87ca22be8b05378eb1c71ef320ad746e1d3b628ba79b9859f741e082542a385502f25dbf55296c3a545e3872760ab7
def pGy : Nat := 0x3617de4a96262c6f5d9e98bf9292dc29f8f41dbd289a147ce9da3113b5f0b8c00a60b1ce1d7e819d7a431d7c90ea0e5f

/-- b^e mod m over the low n bits of e. -/
def powModAux (m : Nat) : Nat → Nat → Nat → Nat → Nat
  | 0, _, _, acc => acc
  | n + 1, b, e, acc => powModAux m n (b * b % m) (e / 2) (if e % 2 = 1 then acc * b % m else acc)

def powMod (m b e : Nat) : Nat := powModAux m 384 (b % m) e 1

def invMod (m a : Nat) : Nat := powMod m a (m - 2)

/-- A point of the curve: none is the point at infinity. -/
abbrev Point := Option (Nat × Nat)

def ptAdd : Point → Point → Point
  | none, q => q
  | p, none => p
  | some (x1, y1), some (x2, y2) =>
    if x1 = x2 && (y1 + y2) % pP = 0 then none
    else
      let l := if x1 = x2 then 3 * (x1 * x1 + pP - 1) * invMod pP (2 * y1) % pP
        else (y2 + pP - y1) * invMod pP ((x2 + pP - x1) % pP) % pP
      let x3 := (l * l + 2 * pP - x1 - x2) % pP
      some (x3, (l * (x1 + pP - x3) + pP - y1) % pP)

def ptMulAux : Nat → Nat → Point → Point → Point
  | 0, _, _, acc => acc
  | n + 1, k, p, acc => ptMulAux n (k / 2) (ptAdd p p) (if k % 2 = 1 then ptAdd acc p else acc)

def ptMul (k : Nat) (p : Point) : Point := ptMulAux 384 k p none

def ptG : Point := some (pGx, pGy)

def onCurve (x y : Nat) : Bool := x < pP && y < pP && y * y % pP == (x * x * x + (pP - 3) * x + pB) % pP

/-- A public key in its 97-byte uncompressed form. -/
def pubOf (d : Nat) : List Byte :=
  match ptMul d ptG with
  | some (x, y) => [4] ++ beBytes 48 x ++ beBytes 48 y
  | none => List.replicate 97 0

/-- The point of a 97-byte public key, where it is one. -/
def pointOf (pub : List Byte) : Option (Nat × Nat) :=
  let x := ofBe ((pub.drop 1).take 48)
  let y := ofBe (pub.drop 49)
  if pub.length = 97 && pub.head? == some 4 && onCurve x y then some (x, y) else none

/-- The nonces of RFC 6979, tried in turn. -/
def rfcNonce : Nat → List Byte → List Byte → (Nat → Option (List Byte)) → Option (List Byte)
  | 0, _, _, _ => none
  | n + 1, k, v, use =>
    let v := hmac k v
    match use (ofBe v) with
    | some r => some r
    | none =>
      let k := hmac k (v ++ [0])
      rfcNonce n k (hmac k v) use

/-- An ECDSA signature with one nonce; none where the nonce does not serve. -/
def signWith (d z k : Nat) : Option (List Byte) :=
  if k = 0 || pN ≤ k then none
  else match ptMul k ptG with
    | none => none
    | some (x, _) =>
      let r := x % pN
      let sv := invMod pN k * (z + r * d) % pN
      if r = 0 || sv = 0 then none else some (beBytes 48 r ++ beBytes 48 sv)

/-- ECDSA of a 48-byte digest, nonce per RFC 6979: r and s. -/
def ecdsaSign (d : Nat) (digest : List Byte) : List Byte :=
  let z := ofBe digest
  let x := beBytes 48 d ++ beBytes 48 (z % pN)
  let v := List.replicate 48 (1 : Byte)
  let k := List.replicate 48 (0 : Byte)
  let k := hmac k (v ++ [0] ++ x)
  let v := hmac k v
  let k := hmac k (v ++ [1] ++ x)
  let v := hmac k v
  (rfcNonce 64 k v (signWith d z)).getD (List.replicate 96 0)

/-- Does a 96-byte signature of a digest hold under a public point? -/
def ecdsaVerify (q : Nat × Nat) (digest sig : List Byte) : Bool :=
  let r := ofBe (sig.take 48)
  let sv := ofBe (sig.drop 48)
  let z := ofBe digest
  if sig.length != 96 || r = 0 || sv = 0 || pN ≤ r || pN ≤ sv then false
  else
    let w := invMod pN sv
    match ptAdd (ptMul (z * w % pN) ptG) (ptMul (r * w % pN) (some q)) with
    | some (x, _) => x % pN == r
    | none => false

/-- The ECDH shared secret: the x coordinate. -/
def ecdhSecret (d : Nat) (q : Nat × Nat) : List Byte :=
  match ptMul d (some q) with
  | some (x, _) => beBytes 48 x
  | none => List.replicate 48 0

end Sys2Proof.Machine
end

