-- ==== Sys2Proof/Config.lean ====
section
/-!
DEFINITION. Sys2Proof/Config.lean: what one part fixes for good and what the spec leaves open. Every constant here
is opaque: no proof can see its value, so a claim holds for every value (log entries 1, 2 and 3).
-/

namespace Sys2Proof

/-- The fused variant: 0 PV-SC1-A, 1 PV-SC1-X (R4, SYS_VARIANT). -/
opaque Config.variant : Nat

/-- The security version count fused into the part (R431, ICF_SVN). -/
opaque Config.fusedSvn : Nat

/-- The MAC address fused for each Ethernet port (PORT_MAC_LO, PORT_MAC_HI). -/
opaque Config.fusedMac : Nat → Nat

/-- The port calibration of R191 fused for each chain port, in units of 0.125 ns. -/
opaque Config.portCal : Nat → Nat

/-- A value that the spec leaves free, by the number of the draw: the step reads the counter `free` of State and
advances it (log entry 1). -/
opaque Config.freeNat : Nat → Nat

/-- Whether a quotient whose rounding the spec does not state is rounded up, by the exact numerator and denominator
(log entry 2). -/
opaque Config.roundUp : Nat → Nat → Bool

/-- What a register of the RTC or of the alarms reads as under the lockout of R390 where nothing has read it before
(log entry 47). -/
opaque Config.rtcUnread : Nat → BitVec 32

/-- The addresses of Cirque's own SRAM, which the spec does not give (R177). -/
opaque Config.cirqueSram : Nat → Bool

/-- Where the boot ROM of Cirque is entered, which the spec does not give (R177). -/
opaque Config.bootEntry : Nat

/-- The size that a run of bytes has once Moraine has compressed it (R318): the LZ4 block format leaves the encoder its
choice. -/
opaque Config.packed : List Byte → Nat

/-- Stripes that a rebuild completes in some counter ticks at some REBUILD_PCT (R316; log entry 12). -/
opaque Config.rebuilt : Nat → Nat → Nat

/-- The pair protocol minor version and the floe protocol minor version that an image runs, by its VERSION (R334, R343);
EVI headers carry the majors. -/
opaque Config.pairMinor : Nat → Nat
opaque Config.floeMinor : Nat → Nat

/-- The id of a floe change, by the term and its count in the term (R349). -/
opaque Config.changeId : Nat → Nat → Nat

/-- Where between 20 % and 25 % the share of a difference lies that the IIR filter of 40 ms takes at each sample of 10 ms,
in steps of 0.1 % modulo 51: the spec gives the time constant and not the form (R49). -/
opaque Config.tempShare : Nat

/-- The clock of an island other than a lumen cluster as requested, MHz (R50). -/
opaque Config.islandClock : Nat → Nat

/-- The fused hashes of the four Nalsogo signing keys, and which keys are revoked (R423). -/
opaque Config.keyHash : Nat → List Byte
opaque Config.keyRevoked : Nat → Bool

/-- The part's serial number (R409, R416). -/
opaque Config.serial : Nat

/-- Where a module image is entered, by its header: the EVI header of R421 names no entry. -/
opaque Config.imageEntry : List Byte → Nat

/-- The word that names the cause of a mode change in its icecore record (R397): the spec gives no numbers for the causes,
which the model counts as Machine/Modes.lean lists them. -/
opaque Config.modeCause : Nat → Nat

/-- The bytes of a message or payload whose fields the spec names and whose layout it does not give, by the message's type
and the fields in the order in which the spec names them (log entry 22): 0x04 to 0x08, 0x31 and 0x32 MAC frames of R198,
0x103 the CONFIG frame of R184. -/
opaque Config.layout : Nat → List Nat → List Byte

/-- An IPv6 packet as RFC 6282 compresses it (R198): the RFC leaves the encoder its choice. -/
opaque Config.compressed : List Byte → List Byte

/-- The transmit power in dBm that Sastrugi asks of a head (R184), by the head; a head's PMAX bounds it. -/
opaque Config.txPower : Nat → Int

/-- The 95 taps of the FIR filter of R229, in units of which Config.firUnit make 1: the spec gives the passband and the
stopband, and not the taps. -/
opaque Config.firTap : Nat → Int
opaque Config.firUnit : Nat

/-- One sample through the DC-removal high-pass of R229, from what the filter remembers: the new memory and the result. The
spec gives the corner, and not the form. -/
opaque Config.dcRemove : Int → Int → Int × Int

/-- The 90° Hilbert filter of R235 at a sample of a run of voltage samples: the spec gives where it is flat, and not its
taps. -/
opaque Config.hilbert : List Int → Nat → Int

/-- The frequency in mHz that a run of voltage samples has (R238): the spec gives the accuracy, and not the method. -/
opaque Config.freqMeas : List Int → Nat

/-- Point i of the 2,048 to which the samples of a harmonic window are resampled (R240): the spec gives no interpolation. -/
opaque Config.resample : List Int → Nat → Int

/-- The header, from the EtherType to the end of UDP, of a PTP message on IP: by the annex (1 C, 2 D), the port, and the
message. The spec gives the module no IP address (R263). -/
opaque Config.ipHeader : Nat → Nat → List Byte → List Byte

/-- A byte whose value the spec calls not defined, by where it lies and a number that tells occasions apart. -/
opaque Config.undefByte : Nat → Nat → Byte

end Sys2Proof
end

