-- ==== Sys2Proof/Machine/RegMap.lean ====
section
/-!
DEFINITION. Sys2Proof/Machine/RegMap.lean: the register map of the sixteen blocks. Every register of the spec's
register tables has its address, its fields with their bit positions and access codes (R10), and its reset value
(R12). A field is named REGISTER.FIELD as the spec names it; a register with an index takes it as an argument.
The four mailbox register sets of agents 32 to 35 (R435) are named once, with the agent as an argument.
-/

namespace Sys2Proof.Machine

/-- A field of a register: the register's address, the field's lowest bit and its width. -/
structure Fld where
  a : Nat
  lo : Nat
  w : Nat
deriving DecidableEq, Repr

/-- The access codes of R10 that a defined field can carry. -/
inductive Acc where
  | ro | rw | w1c | w1s | wo | ros | rwl
deriving DecidableEq, Repr

/-- A row of a block's register table: first address, the index ranges with their strides (largest stride first),
the reset value, the indices whose reset value differs, and the fields (lowest bit, width, access). -/
structure RegDef where
  base : Nat
  dims : List (Nat × Nat)
  reset : Nat
  except : List (Nat × Nat)
  flds : List (Nat × Nat × Acc)
deriving DecidableEq, Repr

/-- The first address of the mailbox register set of agents 32 to 35 (R435): Cirque, the vault, Icefall and the
management host. -/
def mbxBase (agent : Nat) : Nat :=
  if agent = 32 then 0x40_0D00_0800 else if agent = 33 then 0x40_0C00_0800
  else if agent = 34 then 0x40_0F00_0800 else 0x40_0D00_0C00

/-- SYS_ID (R27). -/
def SYS_ID.addr : Nat := 0x4000000000
def SYS_ID.reg : Fld := ⟨SYS_ID.addr, 0, 32⟩
def SYS_ID.BLOCK : Fld := ⟨SYS_ID.addr, 16, 16⟩
def SYS_ID.MAJOR : Fld := ⟨SYS_ID.addr, 8, 8⟩
def SYS_ID.MINOR : Fld := ⟨SYS_ID.addr, 0, 8⟩
/-- SYS_EVT (R27). -/
def SYS_EVT.addr : Nat := 0x4000000004
def SYS_EVT.reg : Fld := ⟨SYS_EVT.addr, 0, 32⟩
def SYS_EVT.ECC_CE : Fld := ⟨SYS_EVT.addr, 0, 1⟩
def SYS_EVT.ECC_UE : Fld := ⟨SYS_EVT.addr, 1, 1⟩
def SYS_EVT.XING_THROTTLE : Fld := ⟨SYS_EVT.addr, 2, 1⟩
def SYS_EVT.XING_RESTORED : Fld := ⟨SYS_EVT.addr, 3, 1⟩
def SYS_EVT.MODE_CHANGED : Fld := ⟨SYS_EVT.addr, 4, 1⟩
def SYS_EVT.READY_CHANGED : Fld := ⟨SYS_EVT.addr, 5, 1⟩
def SYS_EVT.ACCESS_FAULT : Fld := ⟨SYS_EVT.addr, 6, 1⟩
/-- SYS_EVT_EN (R27). -/
def SYS_EVT_EN.addr : Nat := 0x4000000008
def SYS_EVT_EN.reg : Fld := ⟨SYS_EVT_EN.addr, 0, 32⟩
def SYS_EVT_EN.EN : Fld := ⟨SYS_EVT_EN.addr, 0, 32⟩
/-- SYS_EVT_ROUTE (R27). -/
def SYS_EVT_ROUTE.addr : Nat := 0x400000000c
def SYS_EVT_ROUTE.reg : Fld := ⟨SYS_EVT_ROUTE.addr, 0, 32⟩
def SYS_EVT_ROUTE.THREAD : Fld := ⟨SYS_EVT_ROUTE.addr, 0, 7⟩
def SYS_EVT_ROUTE.TO_LUMEN : Fld := ⟨SYS_EVT_ROUTE.addr, 7, 1⟩
def SYS_EVT_ROUTE.TO_CIRQUE : Fld := ⟨SYS_EVT_ROUTE.addr, 9, 1⟩
/-- LUM_ID (R27). -/
def LUM_ID.addr : Nat := 0x4001000000
def LUM_ID.reg : Fld := ⟨LUM_ID.addr, 0, 32⟩
def LUM_ID.BLOCK : Fld := ⟨LUM_ID.addr, 16, 16⟩
def LUM_ID.MAJOR : Fld := ⟨LUM_ID.addr, 8, 8⟩
def LUM_ID.MINOR : Fld := ⟨LUM_ID.addr, 0, 8⟩
/-- LUM_EVT (R27). -/
def LUM_EVT.addr : Nat := 0x4001000004
def LUM_EVT.reg : Fld := ⟨LUM_EVT.addr, 0, 32⟩
def LUM_EVT.CMD_DONE : Fld := ⟨LUM_EVT.addr, 0, 1⟩
def LUM_EVT.THREAD_FAULT : Fld := ⟨LUM_EVT.addr, 1, 1⟩
def LUM_EVT.THREAD_GIVEUP : Fld := ⟨LUM_EVT.addr, 2, 1⟩
def LUM_EVT.DVFS_DONE : Fld := ⟨LUM_EVT.addr, 3, 1⟩
/-- LUM_EVT_EN (R27). -/
def LUM_EVT_EN.addr : Nat := 0x4001000008
def LUM_EVT_EN.reg : Fld := ⟨LUM_EVT_EN.addr, 0, 32⟩
def LUM_EVT_EN.EN : Fld := ⟨LUM_EVT_EN.addr, 0, 32⟩
/-- LUM_EVT_ROUTE (R27). -/
def LUM_EVT_ROUTE.addr : Nat := 0x400100000c
def LUM_EVT_ROUTE.reg : Fld := ⟨LUM_EVT_ROUTE.addr, 0, 32⟩
def LUM_EVT_ROUTE.THREAD : Fld := ⟨LUM_EVT_ROUTE.addr, 0, 7⟩
def LUM_EVT_ROUTE.TO_LUMEN : Fld := ⟨LUM_EVT_ROUTE.addr, 7, 1⟩
def LUM_EVT_ROUTE.TO_CIRQUE : Fld := ⟨LUM_EVT_ROUTE.addr, 9, 1⟩
/-- FIRN_ID (R27). -/
def FIRN_ID.addr : Nat := 0x4002000000
def FIRN_ID.reg : Fld := ⟨FIRN_ID.addr, 0, 32⟩
def FIRN_ID.BLOCK : Fld := ⟨FIRN_ID.addr, 16, 16⟩
def FIRN_ID.MAJOR : Fld := ⟨FIRN_ID.addr, 8, 8⟩
def FIRN_ID.MINOR : Fld := ⟨FIRN_ID.addr, 0, 8⟩
/-- FIRN_EVT (R27). -/
def FIRN_EVT.addr : Nat := 0x4002000004
def FIRN_EVT.reg : Fld := ⟨FIRN_EVT.addr, 0, 32⟩
def FIRN_EVT.CMD_DONE : Fld := ⟨FIRN_EVT.addr, 0, 1⟩
def FIRN_EVT.COMMIT_SEALED : Fld := ⟨FIRN_EVT.addr, 1, 1⟩
def FIRN_EVT.EPOCH : Fld := ⟨FIRN_EVT.addr, 2, 1⟩
def FIRN_EVT.COPY_DONE : Fld := ⟨FIRN_EVT.addr, 3, 1⟩
def FIRN_EVT.DELIVERED : Fld := ⟨FIRN_EVT.addr, 4, 1⟩
def FIRN_EVT.LAG : Fld := ⟨FIRN_EVT.addr, 5, 1⟩
def FIRN_EVT.LATE_APPLY : Fld := ⟨FIRN_EVT.addr, 6, 1⟩
def FIRN_EVT.RESYNC : Fld := ⟨FIRN_EVT.addr, 7, 1⟩
def FIRN_EVT.ABORTED : Fld := ⟨FIRN_EVT.addr, 8, 1⟩
def FIRN_EVT.SKEWED : Fld := ⟨FIRN_EVT.addr, 9, 1⟩
def FIRN_EVT.DERATE : Fld := ⟨FIRN_EVT.addr, 10, 1⟩
def FIRN_EVT.CLAMP : Fld := ⟨FIRN_EVT.addr, 11, 1⟩
def FIRN_EVT.SURGE_DROP : Fld := ⟨FIRN_EVT.addr, 12, 1⟩
def FIRN_EVT.CFG_ERR : Fld := ⟨FIRN_EVT.addr, 13, 1⟩
def FIRN_EVT.LOG_DROP : Fld := ⟨FIRN_EVT.addr, 14, 1⟩
/-- FIRN_EVT_EN (R27). -/
def FIRN_EVT_EN.addr : Nat := 0x4002000008
def FIRN_EVT_EN.reg : Fld := ⟨FIRN_EVT_EN.addr, 0, 32⟩
def FIRN_EVT_EN.EN : Fld := ⟨FIRN_EVT_EN.addr, 0, 32⟩
/-- FIRN_EVT_ROUTE (R27). -/
def FIRN_EVT_ROUTE.addr : Nat := 0x400200000c
def FIRN_EVT_ROUTE.reg : Fld := ⟨FIRN_EVT_ROUTE.addr, 0, 32⟩
def FIRN_EVT_ROUTE.THREAD : Fld := ⟨FIRN_EVT_ROUTE.addr, 0, 7⟩
def FIRN_EVT_ROUTE.TO_LUMEN : Fld := ⟨FIRN_EVT_ROUTE.addr, 7, 1⟩
def FIRN_EVT_ROUTE.TO_CIRQUE : Fld := ⟨FIRN_EVT_ROUTE.addr, 9, 1⟩
/-- SAST_ID (R27). -/
def SAST_ID.addr : Nat := 0x4003000000
def SAST_ID.reg : Fld := ⟨SAST_ID.addr, 0, 32⟩
def SAST_ID.BLOCK : Fld := ⟨SAST_ID.addr, 16, 16⟩
def SAST_ID.MAJOR : Fld := ⟨SAST_ID.addr, 8, 8⟩
def SAST_ID.MINOR : Fld := ⟨SAST_ID.addr, 0, 8⟩
/-- SAST_EVT (R27). -/
def SAST_EVT.addr : Nat := 0x4003000004
def SAST_EVT.reg : Fld := ⟨SAST_EVT.addr, 0, 32⟩
def SAST_EVT.CMD_DONE : Fld := ⟨SAST_EVT.addr, 0, 1⟩
def SAST_EVT.CHAIN_BREAK : Fld := ⟨SAST_EVT.addr, 1, 1⟩
def SAST_EVT.CHAIN_WRAP : Fld := ⟨SAST_EVT.addr, 2, 1⟩
def SAST_EVT.HEAD_CHANGE : Fld := ⟨SAST_EVT.addr, 3, 1⟩
def SAST_EVT.PLAN_ACTIVE : Fld := ⟨SAST_EVT.addr, 4, 1⟩
def SAST_EVT.REVOKE : Fld := ⟨SAST_EVT.addr, 5, 1⟩
def SAST_EVT.COLLISION : Fld := ⟨SAST_EVT.addr, 6, 1⟩
def SAST_EVT.ASSOC : Fld := ⟨SAST_EVT.addr, 7, 1⟩
def SAST_EVT.LOST : Fld := ⟨SAST_EVT.addr, 8, 1⟩
def SAST_EVT.HANDOVER : Fld := ⟨SAST_EVT.addr, 9, 1⟩
def SAST_EVT.ADVERT : Fld := ⟨SAST_EVT.addr, 10, 1⟩
def SAST_EVT.TETHER_END : Fld := ⟨SAST_EVT.addr, 11, 1⟩
def SAST_EVT.HOLDOFF : Fld := ⟨SAST_EVT.addr, 12, 1⟩
def SAST_EVT.WINDOW : Fld := ⟨SAST_EVT.addr, 13, 1⟩
def SAST_EVT.CFG_ERR : Fld := ⟨SAST_EVT.addr, 14, 1⟩
/-- SAST_EVT_EN (R27). -/
def SAST_EVT_EN.addr : Nat := 0x4003000008
def SAST_EVT_EN.reg : Fld := ⟨SAST_EVT_EN.addr, 0, 32⟩
def SAST_EVT_EN.EN : Fld := ⟨SAST_EVT_EN.addr, 0, 32⟩
/-- SAST_EVT_ROUTE (R27). -/
def SAST_EVT_ROUTE.addr : Nat := 0x400300000c
def SAST_EVT_ROUTE.reg : Fld := ⟨SAST_EVT_ROUTE.addr, 0, 32⟩
def SAST_EVT_ROUTE.THREAD : Fld := ⟨SAST_EVT_ROUTE.addr, 0, 7⟩
def SAST_EVT_ROUTE.TO_LUMEN : Fld := ⟨SAST_EVT_ROUTE.addr, 7, 1⟩
def SAST_EVT_ROUTE.TO_CIRQUE : Fld := ⟨SAST_EVT_ROUTE.addr, 9, 1⟩
/-- MELT_ID (R27). -/
def MELT_ID.addr : Nat := 0x4004000000
def MELT_ID.reg : Fld := ⟨MELT_ID.addr, 0, 32⟩
def MELT_ID.BLOCK : Fld := ⟨MELT_ID.addr, 16, 16⟩
def MELT_ID.MAJOR : Fld := ⟨MELT_ID.addr, 8, 8⟩
def MELT_ID.MINOR : Fld := ⟨MELT_ID.addr, 0, 8⟩
/-- MELT_EVT (R27). -/
def MELT_EVT.addr : Nat := 0x4004000004
def MELT_EVT.reg : Fld := ⟨MELT_EVT.addr, 0, 32⟩
def MELT_EVT.CMD_DONE : Fld := ⟨MELT_EVT.addr, 0, 1⟩
def MELT_EVT.SECOND : Fld := ⟨MELT_EVT.addr, 1, 1⟩
def MELT_EVT.INTERVAL : Fld := ⟨MELT_EVT.addr, 2, 1⟩
def MELT_EVT.POD_LOST : Fld := ⟨MELT_EVT.addr, 3, 1⟩
def MELT_EVT.POD_FOUND : Fld := ⟨MELT_EVT.addr, 4, 1⟩
def MELT_EVT.CLIP : Fld := ⟨MELT_EVT.addr, 5, 1⟩
def MELT_EVT.XCAL_FAULT : Fld := ⟨MELT_EVT.addr, 6, 1⟩
def MELT_EVT.RECON_DONE : Fld := ⟨MELT_EVT.addr, 7, 1⟩
def MELT_EVT.ALARM : Fld := ⟨MELT_EVT.addr, 8, 1⟩
def MELT_EVT.PULSE_OVF : Fld := ⟨MELT_EVT.addr, 9, 1⟩
def MELT_EVT.SIG_DONE : Fld := ⟨MELT_EVT.addr, 10, 1⟩
def MELT_EVT.CFG_ERR : Fld := ⟨MELT_EVT.addr, 11, 1⟩
/-- MELT_EVT_EN (R27). -/
def MELT_EVT_EN.addr : Nat := 0x4004000008
def MELT_EVT_EN.reg : Fld := ⟨MELT_EVT_EN.addr, 0, 32⟩
def MELT_EVT_EN.EN : Fld := ⟨MELT_EVT_EN.addr, 0, 32⟩
/-- MELT_EVT_ROUTE (R27). -/
def MELT_EVT_ROUTE.addr : Nat := 0x400400000c
def MELT_EVT_ROUTE.reg : Fld := ⟨MELT_EVT_ROUTE.addr, 0, 32⟩
def MELT_EVT_ROUTE.THREAD : Fld := ⟨MELT_EVT_ROUTE.addr, 0, 7⟩
def MELT_EVT_ROUTE.TO_LUMEN : Fld := ⟨MELT_EVT_ROUTE.addr, 7, 1⟩
def MELT_EVT_ROUTE.TO_CIRQUE : Fld := ⟨MELT_EVT_ROUTE.addr, 9, 1⟩
/-- TIME_ID (R27). -/
def TIME_ID.addr : Nat := 0x4005000000
def TIME_ID.reg : Fld := ⟨TIME_ID.addr, 0, 32⟩
def TIME_ID.BLOCK : Fld := ⟨TIME_ID.addr, 16, 16⟩
def TIME_ID.MAJOR : Fld := ⟨TIME_ID.addr, 8, 8⟩
def TIME_ID.MINOR : Fld := ⟨TIME_ID.addr, 0, 8⟩
/-- TIME_EVT (R27). -/
def TIME_EVT.addr : Nat := 0x4005000004
def TIME_EVT.reg : Fld := ⟨TIME_EVT.addr, 0, 32⟩
def TIME_EVT.CMD_DONE : Fld := ⟨TIME_EVT.addr, 0, 1⟩
def TIME_EVT.STEPPED : Fld := ⟨TIME_EVT.addr, 1, 1⟩
def TIME_EVT.STEP_NEEDED : Fld := ⟨TIME_EVT.addr, 2, 1⟩
def TIME_EVT.LOCKED : Fld := ⟨TIME_EVT.addr, 3, 1⟩
def TIME_EVT.HOLDOVER : Fld := ⟨TIME_EVT.addr, 4, 1⟩
def TIME_EVT.LATE_DROP : Fld := ⟨TIME_EVT.addr, 5, 1⟩
def TIME_EVT.PPS_LOST : Fld := ⟨TIME_EVT.addr, 6, 1⟩
/-- TIME_EVT_EN (R27). -/
def TIME_EVT_EN.addr : Nat := 0x4005000008
def TIME_EVT_EN.reg : Fld := ⟨TIME_EVT_EN.addr, 0, 32⟩
def TIME_EVT_EN.EN : Fld := ⟨TIME_EVT_EN.addr, 0, 32⟩
/-- TIME_EVT_ROUTE (R27). -/
def TIME_EVT_ROUTE.addr : Nat := 0x400500000c
def TIME_EVT_ROUTE.reg : Fld := ⟨TIME_EVT_ROUTE.addr, 0, 32⟩
def TIME_EVT_ROUTE.THREAD : Fld := ⟨TIME_EVT_ROUTE.addr, 0, 7⟩
def TIME_EVT_ROUTE.TO_LUMEN : Fld := ⟨TIME_EVT_ROUTE.addr, 7, 1⟩
def TIME_EVT_ROUTE.TO_CIRQUE : Fld := ⟨TIME_EVT_ROUTE.addr, 9, 1⟩
/-- SRC_ID (R27). -/
def SRC_ID.addr : Nat := 0x4006000000
def SRC_ID.reg : Fld := ⟨SRC_ID.addr, 0, 32⟩
def SRC_ID.BLOCK : Fld := ⟨SRC_ID.addr, 16, 16⟩
def SRC_ID.MAJOR : Fld := ⟨SRC_ID.addr, 8, 8⟩
def SRC_ID.MINOR : Fld := ⟨SRC_ID.addr, 0, 8⟩
/-- SRC_EVT (R27). -/
def SRC_EVT.addr : Nat := 0x4006000004
def SRC_EVT.reg : Fld := ⟨SRC_EVT.addr, 0, 32⟩
def SRC_EVT.CMD_DONE : Fld := ⟨SRC_EVT.addr, 0, 1⟩
def SRC_EVT.PERR : Fld := ⟨SRC_EVT.addr, 1, 1⟩
def SRC_EVT.EVICT : Fld := ⟨SRC_EVT.addr, 2, 1⟩
def SRC_EVT.LEARN_FAIL : Fld := ⟨SRC_EVT.addr, 3, 1⟩
def SRC_EVT.MOVE : Fld := ⟨SRC_EVT.addr, 4, 1⟩
/-- SRC_EVT_EN (R27). -/
def SRC_EVT_EN.addr : Nat := 0x4006000008
def SRC_EVT_EN.reg : Fld := ⟨SRC_EVT_EN.addr, 0, 32⟩
def SRC_EVT_EN.EN : Fld := ⟨SRC_EVT_EN.addr, 0, 32⟩
/-- SRC_EVT_ROUTE (R27). -/
def SRC_EVT_ROUTE.addr : Nat := 0x400600000c
def SRC_EVT_ROUTE.reg : Fld := ⟨SRC_EVT_ROUTE.addr, 0, 32⟩
def SRC_EVT_ROUTE.THREAD : Fld := ⟨SRC_EVT_ROUTE.addr, 0, 7⟩
def SRC_EVT_ROUTE.TO_LUMEN : Fld := ⟨SRC_EVT_ROUTE.addr, 7, 1⟩
def SRC_EVT_ROUTE.TO_CIRQUE : Fld := ⟨SRC_EVT_ROUTE.addr, 9, 1⟩
/-- SNOW_ID (R27). -/
def SNOW_ID.addr : Nat := 0x4007000000
def SNOW_ID.reg : Fld := ⟨SNOW_ID.addr, 0, 32⟩
def SNOW_ID.BLOCK : Fld := ⟨SNOW_ID.addr, 16, 16⟩
def SNOW_ID.MAJOR : Fld := ⟨SNOW_ID.addr, 8, 8⟩
def SNOW_ID.MINOR : Fld := ⟨SNOW_ID.addr, 0, 8⟩
/-- SNOW_EVT (R27). -/
def SNOW_EVT.addr : Nat := 0x4007000004
def SNOW_EVT.reg : Fld := ⟨SNOW_EVT.addr, 0, 32⟩
def SNOW_EVT.CMD_DONE : Fld := ⟨SNOW_EVT.addr, 0, 1⟩
def SNOW_EVT.QUOTA_OVER : Fld := ⟨SNOW_EVT.addr, 1, 1⟩
def SNOW_EVT.QUOTA_CLEAR : Fld := ⟨SNOW_EVT.addr, 2, 1⟩
def SNOW_EVT.POOL_LOW : Fld := ⟨SNOW_EVT.addr, 3, 1⟩
def SNOW_EVT.UE : Fld := ⟨SNOW_EVT.addr, 4, 1⟩
/-- SNOW_EVT_EN (R27). -/
def SNOW_EVT_EN.addr : Nat := 0x4007000008
def SNOW_EVT_EN.reg : Fld := ⟨SNOW_EVT_EN.addr, 0, 32⟩
def SNOW_EVT_EN.EN : Fld := ⟨SNOW_EVT_EN.addr, 0, 32⟩
/-- SNOW_EVT_ROUTE (R27). -/
def SNOW_EVT_ROUTE.addr : Nat := 0x400700000c
def SNOW_EVT_ROUTE.reg : Fld := ⟨SNOW_EVT_ROUTE.addr, 0, 32⟩
def SNOW_EVT_ROUTE.THREAD : Fld := ⟨SNOW_EVT_ROUTE.addr, 0, 7⟩
def SNOW_EVT_ROUTE.TO_LUMEN : Fld := ⟨SNOW_EVT_ROUTE.addr, 7, 1⟩
def SNOW_EVT_ROUTE.TO_CIRQUE : Fld := ⟨SNOW_EVT_ROUTE.addr, 9, 1⟩
/-- PORT_ID (R27). -/
def PORT_ID.addr : Nat := 0x4008000000
def PORT_ID.reg : Fld := ⟨PORT_ID.addr, 0, 32⟩
def PORT_ID.BLOCK : Fld := ⟨PORT_ID.addr, 16, 16⟩
def PORT_ID.MAJOR : Fld := ⟨PORT_ID.addr, 8, 8⟩
def PORT_ID.MINOR : Fld := ⟨PORT_ID.addr, 0, 8⟩
/-- PORT_EVT (R27). -/
def PORT_EVT.addr : Nat := 0x4008000004
def PORT_EVT.reg : Fld := ⟨PORT_EVT.addr, 0, 32⟩
def PORT_EVT.CMD_DONE : Fld := ⟨PORT_EVT.addr, 0, 1⟩
def PORT_EVT.LINK : Fld := ⟨PORT_EVT.addr, 1, 1⟩
def PORT_EVT.SA_EXPIRING : Fld := ⟨PORT_EVT.addr, 2, 1⟩
def PORT_EVT.SA_LOST : Fld := ⟨PORT_EVT.addr, 3, 1⟩
def PORT_EVT.RXERR : Fld := ⟨PORT_EVT.addr, 4, 1⟩
/-- PORT_EVT_EN (R27). -/
def PORT_EVT_EN.addr : Nat := 0x4008000008
def PORT_EVT_EN.reg : Fld := ⟨PORT_EVT_EN.addr, 0, 32⟩
def PORT_EVT_EN.EN : Fld := ⟨PORT_EVT_EN.addr, 0, 32⟩
/-- PORT_EVT_ROUTE (R27). -/
def PORT_EVT_ROUTE.addr : Nat := 0x400800000c
def PORT_EVT_ROUTE.reg : Fld := ⟨PORT_EVT_ROUTE.addr, 0, 32⟩
def PORT_EVT_ROUTE.THREAD : Fld := ⟨PORT_EVT_ROUTE.addr, 0, 7⟩
def PORT_EVT_ROUTE.TO_LUMEN : Fld := ⟨PORT_EVT_ROUTE.addr, 7, 1⟩
def PORT_EVT_ROUTE.TO_CIRQUE : Fld := ⟨PORT_EVT_ROUTE.addr, 9, 1⟩
/-- MOR_ID (R27). -/
def MOR_ID.addr : Nat := 0x4009000000
def MOR_ID.reg : Fld := ⟨MOR_ID.addr, 0, 32⟩
def MOR_ID.BLOCK : Fld := ⟨MOR_ID.addr, 16, 16⟩
def MOR_ID.MAJOR : Fld := ⟨MOR_ID.addr, 8, 8⟩
def MOR_ID.MINOR : Fld := ⟨MOR_ID.addr, 0, 8⟩
/-- MOR_EVT (R27). -/
def MOR_EVT.addr : Nat := 0x4009000004
def MOR_EVT.reg : Fld := ⟨MOR_EVT.addr, 0, 32⟩
def MOR_EVT.CMD_DONE : Fld := ⟨MOR_EVT.addr, 0, 1⟩
def MOR_EVT.DRIVE_FOUND : Fld := ⟨MOR_EVT.addr, 1, 1⟩
def MOR_EVT.DRIVE_LOST : Fld := ⟨MOR_EVT.addr, 2, 1⟩
def MOR_EVT.REBUILT : Fld := ⟨MOR_EVT.addr, 3, 1⟩
def MOR_EVT.GROUP_FAIL : Fld := ⟨MOR_EVT.addr, 4, 1⟩
def MOR_EVT.QUOTA_OVER : Fld := ⟨MOR_EVT.addr, 5, 1⟩
def MOR_EVT.STAGE_HIGH : Fld := ⟨MOR_EVT.addr, 6, 1⟩
def MOR_EVT.CFG_ERR : Fld := ⟨MOR_EVT.addr, 7, 1⟩
/-- MOR_EVT_EN (R27). -/
def MOR_EVT_EN.addr : Nat := 0x4009000008
def MOR_EVT_EN.reg : Fld := ⟨MOR_EVT_EN.addr, 0, 32⟩
def MOR_EVT_EN.EN : Fld := ⟨MOR_EVT_EN.addr, 0, 32⟩
/-- MOR_EVT_ROUTE (R27). -/
def MOR_EVT_ROUTE.addr : Nat := 0x400900000c
def MOR_EVT_ROUTE.reg : Fld := ⟨MOR_EVT_ROUTE.addr, 0, 32⟩
def MOR_EVT_ROUTE.THREAD : Fld := ⟨MOR_EVT_ROUTE.addr, 0, 7⟩
def MOR_EVT_ROUTE.TO_LUMEN : Fld := ⟨MOR_EVT_ROUTE.addr, 7, 1⟩
def MOR_EVT_ROUTE.TO_CIRQUE : Fld := ⟨MOR_EVT_ROUTE.addr, 9, 1⟩
/-- PAIR_ID (R27). -/
def PAIR_ID.addr : Nat := 0x400a000000
def PAIR_ID.reg : Fld := ⟨PAIR_ID.addr, 0, 32⟩
def PAIR_ID.BLOCK : Fld := ⟨PAIR_ID.addr, 16, 16⟩
def PAIR_ID.MAJOR : Fld := ⟨PAIR_ID.addr, 8, 8⟩
def PAIR_ID.MINOR : Fld := ⟨PAIR_ID.addr, 0, 8⟩
/-- PAIR_EVT (R27). -/
def PAIR_EVT.addr : Nat := 0x400a000004
def PAIR_EVT.reg : Fld := ⟨PAIR_EVT.addr, 0, 32⟩
def PAIR_EVT.CMD_DONE : Fld := ⟨PAIR_EVT.addr, 0, 1⟩
def PAIR_EVT.TAKEOVER : Fld := ⟨PAIR_EVT.addr, 1, 1⟩
def PAIR_EVT.RELEASED : Fld := ⟨PAIR_EVT.addr, 2, 1⟩
def PAIR_EVT.PEER_LOST : Fld := ⟨PAIR_EVT.addr, 3, 1⟩
def PAIR_EVT.PEER_FOUND : Fld := ⟨PAIR_EVT.addr, 4, 1⟩
def PAIR_EVT.MIRROR_SYNC : Fld := ⟨PAIR_EVT.addr, 5, 1⟩
def PAIR_EVT.MIRROR_LOST : Fld := ⟨PAIR_EVT.addr, 6, 1⟩
def PAIR_EVT.HANDOVER : Fld := ⟨PAIR_EVT.addr, 7, 1⟩
def PAIR_EVT.DRILL_DONE : Fld := ⟨PAIR_EVT.addr, 8, 1⟩
def PAIR_EVT.DRILL_FAIL : Fld := ⟨PAIR_EVT.addr, 9, 1⟩
def PAIR_EVT.ROLE_CLASH : Fld := ⟨PAIR_EVT.addr, 10, 1⟩
def PAIR_EVT.SPAN_BREAK : Fld := ⟨PAIR_EVT.addr, 11, 1⟩
def PAIR_EVT.SPAN_RESTORED : Fld := ⟨PAIR_EVT.addr, 12, 1⟩
def PAIR_EVT.LEAD_CHANGE : Fld := ⟨PAIR_EVT.addr, 13, 1⟩
def PAIR_EVT.PREPARE : Fld := ⟨PAIR_EVT.addr, 14, 1⟩
def PAIR_EVT.CHANGE_DONE : Fld := ⟨PAIR_EVT.addr, 15, 1⟩
def PAIR_EVT.SKEW : Fld := ⟨PAIR_EVT.addr, 16, 1⟩
def PAIR_EVT.INDEX_CLASH : Fld := ⟨PAIR_EVT.addr, 17, 1⟩
/-- PAIR_EVT_EN (R27). -/
def PAIR_EVT_EN.addr : Nat := 0x400a000008
def PAIR_EVT_EN.reg : Fld := ⟨PAIR_EVT_EN.addr, 0, 32⟩
def PAIR_EVT_EN.EN : Fld := ⟨PAIR_EVT_EN.addr, 0, 32⟩
/-- PAIR_EVT_ROUTE (R27). -/
def PAIR_EVT_ROUTE.addr : Nat := 0x400a00000c
def PAIR_EVT_ROUTE.reg : Fld := ⟨PAIR_EVT_ROUTE.addr, 0, 32⟩
def PAIR_EVT_ROUTE.THREAD : Fld := ⟨PAIR_EVT_ROUTE.addr, 0, 7⟩
def PAIR_EVT_ROUTE.TO_LUMEN : Fld := ⟨PAIR_EVT_ROUTE.addr, 7, 1⟩
def PAIR_EVT_ROUTE.TO_CIRQUE : Fld := ⟨PAIR_EVT_ROUTE.addr, 9, 1⟩
/-- CAN_ID (R27). -/
def CAN_ID.addr : Nat := 0x400b000000
def CAN_ID.reg : Fld := ⟨CAN_ID.addr, 0, 32⟩
def CAN_ID.BLOCK : Fld := ⟨CAN_ID.addr, 16, 16⟩
def CAN_ID.MAJOR : Fld := ⟨CAN_ID.addr, 8, 8⟩
def CAN_ID.MINOR : Fld := ⟨CAN_ID.addr, 0, 8⟩
/-- CAN_EVT (R27). -/
def CAN_EVT.addr : Nat := 0x400b000004
def CAN_EVT.reg : Fld := ⟨CAN_EVT.addr, 0, 32⟩
def CAN_EVT.CMD_DONE : Fld := ⟨CAN_EVT.addr, 0, 1⟩
def CAN_EVT.RX : Fld := ⟨CAN_EVT.addr, 1, 4⟩
def CAN_EVT.TX_FAIL : Fld := ⟨CAN_EVT.addr, 5, 4⟩
def CAN_EVT.STATE : Fld := ⟨CAN_EVT.addr, 9, 4⟩
def CAN_EVT.RX_OVF : Fld := ⟨CAN_EVT.addr, 13, 4⟩
def CAN_EVT.CFG_ERR : Fld := ⟨CAN_EVT.addr, 17, 4⟩
/-- CAN_EVT_EN (R27). -/
def CAN_EVT_EN.addr : Nat := 0x400b000008
def CAN_EVT_EN.reg : Fld := ⟨CAN_EVT_EN.addr, 0, 32⟩
def CAN_EVT_EN.EN : Fld := ⟨CAN_EVT_EN.addr, 0, 32⟩
/-- CAN_EVT_ROUTE (R27). -/
def CAN_EVT_ROUTE.addr : Nat := 0x400b00000c
def CAN_EVT_ROUTE.reg : Fld := ⟨CAN_EVT_ROUTE.addr, 0, 32⟩
def CAN_EVT_ROUTE.THREAD : Fld := ⟨CAN_EVT_ROUTE.addr, 0, 7⟩
def CAN_EVT_ROUTE.TO_LUMEN : Fld := ⟨CAN_EVT_ROUTE.addr, 7, 1⟩
def CAN_EVT_ROUTE.TO_CIRQUE : Fld := ⟨CAN_EVT_ROUTE.addr, 9, 1⟩
/-- VLT_ID (R27). -/
def VLT_ID.addr : Nat := 0x400c000000
def VLT_ID.reg : Fld := ⟨VLT_ID.addr, 0, 32⟩
def VLT_ID.BLOCK : Fld := ⟨VLT_ID.addr, 16, 16⟩
def VLT_ID.MAJOR : Fld := ⟨VLT_ID.addr, 8, 8⟩
def VLT_ID.MINOR : Fld := ⟨VLT_ID.addr, 0, 8⟩
/-- VLT_EVT (R27). -/
def VLT_EVT.addr : Nat := 0x400c000004
def VLT_EVT.reg : Fld := ⟨VLT_EVT.addr, 0, 32⟩
def VLT_EVT.CMD_DONE : Fld := ⟨VLT_EVT.addr, 0, 1⟩
def VLT_EVT.ZEROISED : Fld := ⟨VLT_EVT.addr, 1, 1⟩
def VLT_EVT.C1_CLEARED : Fld := ⟨VLT_EVT.addr, 2, 1⟩
def VLT_EVT.SLOT_CHANGED : Fld := ⟨VLT_EVT.addr, 3, 1⟩
def VLT_EVT.PROVISIONED : Fld := ⟨VLT_EVT.addr, 4, 1⟩
def VLT_EVT.MBX_DB : Fld := ⟨VLT_EVT.addr, 5, 1⟩
def VLT_EVT.MBX_EMPTY : Fld := ⟨VLT_EVT.addr, 6, 1⟩
/-- VLT_EVT_EN (R27). -/
def VLT_EVT_EN.addr : Nat := 0x400c000008
def VLT_EVT_EN.reg : Fld := ⟨VLT_EVT_EN.addr, 0, 32⟩
def VLT_EVT_EN.EN : Fld := ⟨VLT_EVT_EN.addr, 0, 32⟩
/-- VLT_EVT_ROUTE (R27). -/
def VLT_EVT_ROUTE.addr : Nat := 0x400c00000c
def VLT_EVT_ROUTE.reg : Fld := ⟨VLT_EVT_ROUTE.addr, 0, 32⟩
def VLT_EVT_ROUTE.THREAD : Fld := ⟨VLT_EVT_ROUTE.addr, 0, 7⟩
def VLT_EVT_ROUTE.TO_LUMEN : Fld := ⟨VLT_EVT_ROUTE.addr, 7, 1⟩
def VLT_EVT_ROUTE.TO_CIRQUE : Fld := ⟨VLT_EVT_ROUTE.addr, 9, 1⟩
/-- CRQ_ID (R27). -/
def CRQ_ID.addr : Nat := 0x400d000000
def CRQ_ID.reg : Fld := ⟨CRQ_ID.addr, 0, 32⟩
def CRQ_ID.BLOCK : Fld := ⟨CRQ_ID.addr, 16, 16⟩
def CRQ_ID.MAJOR : Fld := ⟨CRQ_ID.addr, 8, 8⟩
def CRQ_ID.MINOR : Fld := ⟨CRQ_ID.addr, 0, 8⟩
/-- CRQ_EVT (R27). -/
def CRQ_EVT.addr : Nat := 0x400d000004
def CRQ_EVT.reg : Fld := ⟨CRQ_EVT.addr, 0, 32⟩
def CRQ_EVT.THROTTLE : Fld := ⟨CRQ_EVT.addr, 0, 1⟩
def CRQ_EVT.THROTTLE_CLR : Fld := ⟨CRQ_EVT.addr, 1, 1⟩
def CRQ_EVT.VDD_FAULT : Fld := ⟨CRQ_EVT.addr, 2, 1⟩
def CRQ_EVT.MGMT : Fld := ⟨CRQ_EVT.addr, 3, 1⟩
def CRQ_EVT.MBX_DB : Fld := ⟨CRQ_EVT.addr, 4, 1⟩
def CRQ_EVT.MBX_EMPTY : Fld := ⟨CRQ_EVT.addr, 5, 1⟩
/-- CRQ_EVT_EN (R27). -/
def CRQ_EVT_EN.addr : Nat := 0x400d000008
def CRQ_EVT_EN.reg : Fld := ⟨CRQ_EVT_EN.addr, 0, 32⟩
def CRQ_EVT_EN.EN : Fld := ⟨CRQ_EVT_EN.addr, 0, 32⟩
/-- CRQ_EVT_ROUTE (R27). -/
def CRQ_EVT_ROUTE.addr : Nat := 0x400d00000c
def CRQ_EVT_ROUTE.reg : Fld := ⟨CRQ_EVT_ROUTE.addr, 0, 32⟩
def CRQ_EVT_ROUTE.THREAD : Fld := ⟨CRQ_EVT_ROUTE.addr, 0, 7⟩
def CRQ_EVT_ROUTE.TO_LUMEN : Fld := ⟨CRQ_EVT_ROUTE.addr, 7, 1⟩
def CRQ_EVT_ROUTE.TO_CIRQUE : Fld := ⟨CRQ_EVT_ROUTE.addr, 9, 1⟩
/-- RIME_ID (R27). -/
def RIME_ID.addr : Nat := 0x400e000000
def RIME_ID.reg : Fld := ⟨RIME_ID.addr, 0, 32⟩
def RIME_ID.BLOCK : Fld := ⟨RIME_ID.addr, 16, 16⟩
def RIME_ID.MAJOR : Fld := ⟨RIME_ID.addr, 8, 8⟩
def RIME_ID.MINOR : Fld := ⟨RIME_ID.addr, 0, 8⟩
/-- RIME_EVT (R27). -/
def RIME_EVT.addr : Nat := 0x400e000004
def RIME_EVT.reg : Fld := ⟨RIME_EVT.addr, 0, 32⟩
def RIME_EVT.CMD_DONE : Fld := ⟨RIME_EVT.addr, 0, 1⟩
def RIME_EVT.PFW : Fld := ⟨RIME_EVT.addr, 1, 1⟩
def RIME_EVT.PFW_CLEAR : Fld := ⟨RIME_EVT.addr, 2, 1⟩
def RIME_EVT.RULE : Fld := ⟨RIME_EVT.addr, 3, 1⟩
def RIME_EVT.ALM0 : Fld := ⟨RIME_EVT.addr, 4, 1⟩
def RIME_EVT.ALM1 : Fld := ⟨RIME_EVT.addr, 5, 1⟩
def RIME_EVT.TAMPER1 : Fld := ⟨RIME_EVT.addr, 6, 1⟩
def RIME_EVT.TAMPER2 : Fld := ⟨RIME_EVT.addr, 7, 1⟩
def RIME_EVT.ICE_FLUSHED : Fld := ⟨RIME_EVT.addr, 8, 1⟩
def RIME_EVT.BASE_FULL : Fld := ⟨RIME_EVT.addr, 9, 1⟩
def RIME_EVT.ICE_LOST : Fld := ⟨RIME_EVT.addr, 10, 1⟩
def RIME_EVT.SCAP_LOW : Fld := ⟨RIME_EVT.addr, 11, 1⟩
def RIME_EVT.COIN_LOW : Fld := ⟨RIME_EVT.addr, 12, 1⟩
def RIME_EVT.CFG_ERR : Fld := ⟨RIME_EVT.addr, 13, 1⟩
def RIME_EVT.WAKE : Fld := ⟨RIME_EVT.addr, 14, 1⟩
/-- RIME_EVT_EN (R27). -/
def RIME_EVT_EN.addr : Nat := 0x400e000008
def RIME_EVT_EN.reg : Fld := ⟨RIME_EVT_EN.addr, 0, 32⟩
def RIME_EVT_EN.EN : Fld := ⟨RIME_EVT_EN.addr, 0, 32⟩
/-- RIME_EVT_ROUTE (R27). -/
def RIME_EVT_ROUTE.addr : Nat := 0x400e00000c
def RIME_EVT_ROUTE.reg : Fld := ⟨RIME_EVT_ROUTE.addr, 0, 32⟩
def RIME_EVT_ROUTE.THREAD : Fld := ⟨RIME_EVT_ROUTE.addr, 0, 7⟩
def RIME_EVT_ROUTE.TO_LUMEN : Fld := ⟨RIME_EVT_ROUTE.addr, 7, 1⟩
def RIME_EVT_ROUTE.TO_CIRQUE : Fld := ⟨RIME_EVT_ROUTE.addr, 9, 1⟩
/-- ICF_ID (R27). -/
def ICF_ID.addr : Nat := 0x400f000000
def ICF_ID.reg : Fld := ⟨ICF_ID.addr, 0, 32⟩
def ICF_ID.BLOCK : Fld := ⟨ICF_ID.addr, 16, 16⟩
def ICF_ID.MAJOR : Fld := ⟨ICF_ID.addr, 8, 8⟩
def ICF_ID.MINOR : Fld := ⟨ICF_ID.addr, 0, 8⟩
/-- ICF_EVT (R27). -/
def ICF_EVT.addr : Nat := 0x400f000004
def ICF_EVT.reg : Fld := ⟨ICF_EVT.addr, 0, 32⟩
def ICF_EVT.CMD_DONE : Fld := ⟨ICF_EVT.addr, 0, 1⟩
def ICF_EVT.HDR_OK : Fld := ⟨ICF_EVT.addr, 1, 1⟩
def ICF_EVT.IMG_DONE : Fld := ⟨ICF_EVT.addr, 2, 1⟩
def ICF_EVT.CHUNK_FAIL : Fld := ⟨ICF_EVT.addr, 3, 1⟩
def ICF_EVT.ACT_PENDING : Fld := ⟨ICF_EVT.addr, 4, 1⟩
def ICF_EVT.ACT_FAIL : Fld := ⟨ICF_EVT.addr, 5, 1⟩
def ICF_EVT.REVERTED : Fld := ⟨ICF_EVT.addr, 6, 1⟩
def ICF_EVT.CONFIRMED : Fld := ⟨ICF_EVT.addr, 7, 1⟩
def ICF_EVT.MBX_DB : Fld := ⟨ICF_EVT.addr, 8, 1⟩
def ICF_EVT.MBX_EMPTY : Fld := ⟨ICF_EVT.addr, 9, 1⟩
/-- ICF_EVT_EN (R27). -/
def ICF_EVT_EN.addr : Nat := 0x400f000008
def ICF_EVT_EN.reg : Fld := ⟨ICF_EVT_EN.addr, 0, 32⟩
def ICF_EVT_EN.EN : Fld := ⟨ICF_EVT_EN.addr, 0, 32⟩
/-- ICF_EVT_ROUTE (R27). -/
def ICF_EVT_ROUTE.addr : Nat := 0x400f00000c
def ICF_EVT_ROUTE.reg : Fld := ⟨ICF_EVT_ROUTE.addr, 0, 32⟩
def ICF_EVT_ROUTE.THREAD : Fld := ⟨ICF_EVT_ROUTE.addr, 0, 7⟩
def ICF_EVT_ROUTE.TO_LUMEN : Fld := ⟨ICF_EVT_ROUTE.addr, 7, 1⟩
def ICF_EVT_ROUTE.TO_CIRQUE : Fld := ⟨ICF_EVT_ROUTE.addr, 9, 1⟩
/-- SYS_VARIANT (R24-R51). -/
def SYS_VARIANT.addr : Nat := 0x4000000100
def SYS_VARIANT.reg : Fld := ⟨SYS_VARIANT.addr, 0, 32⟩
def SYS_VARIANT.VARIANT : Fld := ⟨SYS_VARIANT.addr, 0, 1⟩
/-- SYS_MODE (R24-R51). -/
def SYS_MODE.addr : Nat := 0x4000000104
def SYS_MODE.reg : Fld := ⟨SYS_MODE.addr, 0, 32⟩
def SYS_MODE.MODE : Fld := ⟨SYS_MODE.addr, 0, 3⟩
/-- SYS_READY (R24-R51). -/
def SYS_READY.addr : Nat := 0x4000000108
def SYS_READY.reg : Fld := ⟨SYS_READY.addr, 0, 32⟩
def SYS_READY.RIME : Fld := ⟨SYS_READY.addr, 0, 1⟩
def SYS_READY.RTC : Fld := ⟨SYS_READY.addr, 1, 1⟩
def SYS_READY.CIRQUE : Fld := ⟨SYS_READY.addr, 2, 1⟩
def SYS_READY.VAULT : Fld := ⟨SYS_READY.addr, 3, 1⟩
def SYS_READY.TIME : Fld := ⟨SYS_READY.addr, 4, 1⟩
def SYS_READY.DRAM : Fld := ⟨SYS_READY.addr, 5, 1⟩
def SYS_READY.SERAC : Fld := ⟨SYS_READY.addr, 6, 1⟩
def SYS_READY.SNOW : Fld := ⟨SYS_READY.addr, 7, 1⟩
def SYS_READY.PORTS : Fld := ⟨SYS_READY.addr, 8, 1⟩
def SYS_READY.LUMEN : Fld := ⟨SYS_READY.addr, 9, 1⟩
def SYS_READY.L : Fld := ⟨SYS_READY.addr, 10, 8⟩
def SYS_READY.FIRN : Fld := ⟨SYS_READY.addr, 18, 1⟩
def SYS_READY.SAST : Fld := ⟨SYS_READY.addr, 19, 1⟩
def SYS_READY.MELT : Fld := ⟨SYS_READY.addr, 20, 1⟩
def SYS_READY.MORAINE : Fld := ⟨SYS_READY.addr, 21, 1⟩
def SYS_READY.CAN : Fld := ⟨SYS_READY.addr, 22, 1⟩
def SYS_READY.PAIR : Fld := ⟨SYS_READY.addr, 23, 1⟩
def SYS_READY.FLOE : Fld := ⟨SYS_READY.addr, 24, 1⟩
def SYS_READY.ICEFALL : Fld := ⟨SYS_READY.addr, 25, 1⟩
/-- SYS_ECC_CE (R24-R51). -/
def SYS_ECC_CE.addr : Nat := 0x4000000110
def SYS_ECC_CE.reg : Fld := ⟨SYS_ECC_CE.addr, 0, 32⟩
def SYS_ECC_CE.COUNT : Fld := ⟨SYS_ECC_CE.addr, 0, 31⟩
def SYS_ECC_CE.CLR : Fld := ⟨SYS_ECC_CE.addr, 31, 1⟩
/-- SYS_ECC_UE_LO (R24-R51). -/
def SYS_ECC_UE_LO.addr : Nat := 0x4000000114
def SYS_ECC_UE_LO.reg : Fld := ⟨SYS_ECC_UE_LO.addr, 0, 32⟩
def SYS_ECC_UE_LO.ADDR_LO : Fld := ⟨SYS_ECC_UE_LO.addr, 0, 32⟩
/-- SYS_ECC_UE_HI (R24-R51). -/
def SYS_ECC_UE_HI.addr : Nat := 0x4000000118
def SYS_ECC_UE_HI.reg : Fld := ⟨SYS_ECC_UE_HI.addr, 0, 32⟩
def SYS_ECC_UE_HI.ADDR_HI : Fld := ⟨SYS_ECC_UE_HI.addr, 0, 8⟩
def SYS_ECC_UE_HI.SOURCE : Fld := ⟨SYS_ECC_UE_HI.addr, 8, 4⟩
def SYS_ECC_UE_HI.OVERFLOW : Fld := ⟨SYS_ECC_UE_HI.addr, 30, 1⟩
def SYS_ECC_UE_HI.VALID : Fld := ⟨SYS_ECC_UE_HI.addr, 31, 1⟩
/-- SYS_ISL (R24-R51): n below 21. -/
def SYS_ISL.addr (n : Nat) : Nat := 0x4000000200 + 4 * n
def SYS_ISL.reg (n : Nat) : Fld := ⟨(SYS_ISL.addr n), 0, 32⟩
def SYS_ISL.TEMP (n : Nat) : Fld := ⟨(SYS_ISL.addr n), 0, 12⟩
def SYS_ISL.VDD (n : Nat) : Fld := ⟨(SYS_ISL.addr n), 16, 12⟩
def SYS_ISL.THROTTLED (n : Nat) : Fld := ⟨(SYS_ISL.addr n), 28, 1⟩
def SYS_ISL.FIXED_CLK (n : Nat) : Fld := ⟨(SYS_ISL.addr n), 29, 1⟩
/-- FIRN_CTRL (R103). -/
def FIRN_CTRL.addr : Nat := 0x4002000100
def FIRN_CTRL.reg : Fld := ⟨FIRN_CTRL.addr, 0, 32⟩
def FIRN_CTRL.EN : Fld := ⟨FIRN_CTRL.addr, 0, 1⟩
def FIRN_CTRL.SURGE_EN : Fld := ⟨FIRN_CTRL.addr, 1, 1⟩
def FIRN_CTRL.DERATE_EN : Fld := ⟨FIRN_CTRL.addr, 2, 1⟩
def FIRN_CTRL.RESYNC_AUTO : Fld := ⟨FIRN_CTRL.addr, 3, 1⟩
def FIRN_CTRL.SURGE_REPEAT : Fld := ⟨FIRN_CTRL.addr, 8, 2⟩
/-- FIRN_REGION_LO (R103). -/
def FIRN_REGION_LO.addr : Nat := 0x4002000104
def FIRN_REGION_LO.reg : Fld := ⟨FIRN_REGION_LO.addr, 0, 32⟩
def FIRN_REGION_LO.BASE_LO : Fld := ⟨FIRN_REGION_LO.addr, 29, 3⟩
/-- FIRN_REGION_HI (R103). -/
def FIRN_REGION_HI.addr : Nat := 0x4002000108
def FIRN_REGION_HI.reg : Fld := ⟨FIRN_REGION_HI.addr, 0, 32⟩
def FIRN_REGION_HI.BASE_HI : Fld := ⟨FIRN_REGION_HI.addr, 0, 8⟩
/-- FIRN_ACTIVE_LO (R103). -/
def FIRN_ACTIVE_LO.addr : Nat := 0x4002000110
def FIRN_ACTIVE_LO.reg : Fld := ⟨FIRN_ACTIVE_LO.addr, 0, 32⟩
def FIRN_ACTIVE_LO.NUM_LO : Fld := ⟨FIRN_ACTIVE_LO.addr, 0, 32⟩
/-- FIRN_ACTIVE_HI (R103). -/
def FIRN_ACTIVE_HI.addr : Nat := 0x4002000114
def FIRN_ACTIVE_HI.reg : Fld := ⟨FIRN_ACTIVE_HI.addr, 0, 32⟩
def FIRN_ACTIVE_HI.NUM_HI : Fld := ⟨FIRN_ACTIVE_HI.addr, 0, 32⟩
/-- FIRN_BUF (R103). -/
def FIRN_BUF.addr : Nat := 0x4002000118
def FIRN_BUF.reg : Fld := ⟨FIRN_BUF.addr, 0, 32⟩
def FIRN_BUF.ACTIVE_BUF : Fld := ⟨FIRN_BUF.addr, 0, 1⟩
def FIRN_BUF.COPYING : Fld := ⟨FIRN_BUF.addr, 1, 1⟩
/-- FIRN_COMMIT_STAT (R103). -/
def FIRN_COMMIT_STAT.addr : Nat := 0x4002000120
def FIRN_COMMIT_STAT.reg : Fld := ⟨FIRN_COMMIT_STAT.addr, 0, 32⟩
def FIRN_COMMIT_STAT.STATE : Fld := ⟨FIRN_COMMIT_STAT.addr, 0, 3⟩
def FIRN_COMMIT_STAT.FLOE : Fld := ⟨FIRN_COMMIT_STAT.addr, 3, 1⟩
def FIRN_COMMIT_STAT.ABORTED : Fld := ⟨FIRN_COMMIT_STAT.addr, 4, 1⟩
def FIRN_COMMIT_STAT.SKEWED : Fld := ⟨FIRN_COMMIT_STAT.addr, 5, 1⟩
def FIRN_COMMIT_STAT.LAST_CC : Fld := ⟨FIRN_COMMIT_STAT.addr, 8, 8⟩
/-- FIRN_EPOCH_LO (R103). -/
def FIRN_EPOCH_LO.addr : Nat := 0x4002000124
def FIRN_EPOCH_LO.reg : Fld := ⟨FIRN_EPOCH_LO.addr, 0, 32⟩
def FIRN_EPOCH_LO.S_LO : Fld := ⟨FIRN_EPOCH_LO.addr, 0, 32⟩
/-- FIRN_EPOCH_HI (R103). -/
def FIRN_EPOCH_HI.addr : Nat := 0x4002000128
def FIRN_EPOCH_HI.reg : Fld := ⟨FIRN_EPOCH_HI.addr, 0, 32⟩
def FIRN_EPOCH_HI.S_HI : Fld := ⟨FIRN_EPOCH_HI.addr, 0, 16⟩
/-- FIRN_EARLIEST_LO (R103). -/
def FIRN_EARLIEST_LO.addr : Nat := 0x400200012c
def FIRN_EARLIEST_LO.reg : Fld := ⟨FIRN_EARLIEST_LO.addr, 0, 32⟩
def FIRN_EARLIEST_LO.S_LO : Fld := ⟨FIRN_EARLIEST_LO.addr, 0, 32⟩
/-- FIRN_EARLIEST_HI (R103). -/
def FIRN_EARLIEST_HI.addr : Nat := 0x4002000130
def FIRN_EARLIEST_HI.reg : Fld := ⟨FIRN_EARLIEST_HI.addr, 0, 32⟩
def FIRN_EARLIEST_HI.S_HI : Fld := ⟨FIRN_EARLIEST_HI.addr, 0, 16⟩
/-- FIRN_CHANGED (R103). -/
def FIRN_CHANGED.addr : Nat := 0x4002000134
def FIRN_CHANGED.reg : Fld := ⟨FIRN_CHANGED.addr, 0, 32⟩
def FIRN_CHANGED.ENTRIES : Fld := ⟨FIRN_CHANGED.addr, 0, 21⟩
/-- FIRN_NODES (R103). -/
def FIRN_NODES.addr : Nat := 0x4002000138
def FIRN_NODES.reg : Fld := ⟨FIRN_NODES.addr, 0, 32⟩
def FIRN_NODES.NODES : Fld := ⟨FIRN_NODES.addr, 0, 19⟩
/-- FIRN_ACKED (R103). -/
def FIRN_ACKED.addr : Nat := 0x400200013c
def FIRN_ACKED.reg : Fld := ⟨FIRN_ACKED.addr, 0, 32⟩
def FIRN_ACKED.NODES : Fld := ⟨FIRN_ACKED.addr, 0, 19⟩
/-- FIRN_LAG (R103). -/
def FIRN_LAG.addr : Nat := 0x4002000140
def FIRN_LAG.reg : Fld := ⟨FIRN_LAG.addr, 0, 32⟩
def FIRN_LAG.NODES : Fld := ⟨FIRN_LAG.addr, 0, 19⟩
/-- FIRN_LATE_CNT (R103). -/
def FIRN_LATE_CNT.addr : Nat := 0x4002000144
def FIRN_LATE_CNT.reg : Fld := ⟨FIRN_LATE_CNT.addr, 0, 32⟩
def FIRN_LATE_CNT.COUNT : Fld := ⟨FIRN_LATE_CNT.addr, 0, 32⟩
/-- FIRN_RESYNC_CNT (R103). -/
def FIRN_RESYNC_CNT.addr : Nat := 0x4002000148
def FIRN_RESYNC_CNT.reg : Fld := ⟨FIRN_RESYNC_CNT.addr, 0, 32⟩
def FIRN_RESYNC_CNT.COUNT : Fld := ⟨FIRN_RESYNC_CNT.addr, 0, 32⟩
/-- FIRN_DELTA_CFG (R103). -/
def FIRN_DELTA_CFG.addr : Nat := 0x4002000150
def FIRN_DELTA_CFG.reg : Fld := ⟨FIRN_DELTA_CFG.addr, 0, 32⟩
def FIRN_DELTA_CFG.SHARE : Fld := ⟨FIRN_DELTA_CFG.addr, 0, 7⟩
def FIRN_DELTA_CFG.MARGIN : Fld := ⟨FIRN_DELTA_CFG.addr, 8, 7⟩
/-- FIRN_DERATE_CFG (R103). -/
def FIRN_DERATE_CFG.addr : Nat := 0x4002000154
def FIRN_DERATE_CFG.reg : Fld := ⟨FIRN_DERATE_CFG.addr, 0, 32⟩
def FIRN_DERATE_CFG.DWELL : Fld := ⟨FIRN_DERATE_CFG.addr, 0, 8⟩
def FIRN_DERATE_CFG.HYST : Fld := ⟨FIRN_DERATE_CFG.addr, 8, 4⟩
def FIRN_DERATE_CFG.DEADBAND : Fld := ⟨FIRN_DERATE_CFG.addr, 16, 12⟩
/-- FIRN_KEY (R103). -/
def FIRN_KEY.addr : Nat := 0x4002000200
def FIRN_KEY.reg : Fld := ⟨FIRN_KEY.addr, 0, 32⟩
def FIRN_KEY.VALUE : Fld := ⟨FIRN_KEY.addr, 0, 32⟩
/-- FIRN_DATA0 (R103). -/
def FIRN_DATA0.addr : Nat := 0x4002000204
def FIRN_DATA0.reg : Fld := ⟨FIRN_DATA0.addr, 0, 32⟩
def FIRN_DATA0.VALUE : Fld := ⟨FIRN_DATA0.addr, 0, 32⟩
/-- FIRN_DATA1 (R103). -/
def FIRN_DATA1.addr : Nat := 0x4002000208
def FIRN_DATA1.reg : Fld := ⟨FIRN_DATA1.addr, 0, 32⟩
def FIRN_DATA1.VALUE : Fld := ⟨FIRN_DATA1.addr, 0, 32⟩
/-- FIRN_DATA2 (R103). -/
def FIRN_DATA2.addr : Nat := 0x400200020c
def FIRN_DATA2.reg : Fld := ⟨FIRN_DATA2.addr, 0, 32⟩
def FIRN_DATA2.VALUE : Fld := ⟨FIRN_DATA2.addr, 0, 32⟩
/-- FIRN_DATA3 (R103). -/
def FIRN_DATA3.addr : Nat := 0x4002000210
def FIRN_DATA3.reg : Fld := ⟨FIRN_DATA3.addr, 0, 32⟩
def FIRN_DATA3.VALUE : Fld := ⟨FIRN_DATA3.addr, 0, 32⟩
/-- FIRN_CMD (R103). -/
def FIRN_CMD.addr : Nat := 0x4002000214
def FIRN_CMD.reg : Fld := ⟨FIRN_CMD.addr, 0, 32⟩
def FIRN_CMD.OPCODE : Fld := ⟨FIRN_CMD.addr, 0, 8⟩
/-- FIRN_STAT (R103). -/
def FIRN_STAT.addr : Nat := 0x4002000218
def FIRN_STAT.reg : Fld := ⟨FIRN_STAT.addr, 0, 32⟩
def FIRN_STAT.CC : Fld := ⟨FIRN_STAT.addr, 0, 8⟩
def FIRN_STAT.DONE : Fld := ⟨FIRN_STAT.addr, 8, 21⟩
def FIRN_STAT.OVERRUN : Fld := ⟨FIRN_STAT.addr, 30, 1⟩
def FIRN_STAT.BUSY : Fld := ⟨FIRN_STAT.addr, 31, 1⟩
/-- FIRN_DERATE (R103): n below 256. -/
def FIRN_DERATE.addr (n : Nat) : Nat := 0x4002001000 + 4 * n
def FIRN_DERATE.reg (n : Nat) : Fld := ⟨(FIRN_DERATE.addr n), 0, 32⟩
def FIRN_DERATE.KNEE (n : Nat) : Fld := ⟨(FIRN_DERATE.addr n), 0, 8⟩
def FIRN_DERATE.SLOPE (n : Nat) : Fld := ⟨(FIRN_DERATE.addr n), 8, 8⟩
def FIRN_DERATE.FLOOR (n : Nat) : Fld := ⟨(FIRN_DERATE.addr n), 16, 7⟩
/-- LUM_FAULT (R137). -/
def LUM_FAULT.addr : Nat := 0x4001000100
def LUM_FAULT.reg : Fld := ⟨LUM_FAULT.addr, 0, 32⟩
def LUM_FAULT.TID : Fld := ⟨LUM_FAULT.addr, 0, 7⟩
def LUM_FAULT.VALID : Fld := ⟨LUM_FAULT.addr, 31, 1⟩
/-- LUM_CL (R137): c below 8. -/
def LUM_CL.addr (c : Nat) : Nat := 0x4001000200 + 4 * c
def LUM_CL.reg (c : Nat) : Fld := ⟨(LUM_CL.addr c), 0, 32⟩
def LUM_CL.FREQ_REQ (c : Nat) : Fld := ⟨(LUM_CL.addr c), 0, 5⟩
def LUM_CL.FREQ_EFF (c : Nat) : Fld := ⟨(LUM_CL.addr c), 8, 5⟩
def LUM_CL.LIMITED (c : Nat) : Fld := ⟨(LUM_CL.addr c), 13, 1⟩
def LUM_CL.CHANGING (c : Nat) : Fld := ⟨(LUM_CL.addr c), 14, 1⟩
/-- LUM_KEY (R137). -/
def LUM_KEY.addr : Nat := 0x4001000400
def LUM_KEY.reg : Fld := ⟨LUM_KEY.addr, 0, 32⟩
def LUM_KEY.VALUE : Fld := ⟨LUM_KEY.addr, 0, 32⟩
/-- LUM_DATA0 (R137). -/
def LUM_DATA0.addr : Nat := 0x4001000404
def LUM_DATA0.reg : Fld := ⟨LUM_DATA0.addr, 0, 32⟩
def LUM_DATA0.VALUE : Fld := ⟨LUM_DATA0.addr, 0, 32⟩
/-- LUM_DATA1 (R137). -/
def LUM_DATA1.addr : Nat := 0x4001000408
def LUM_DATA1.reg : Fld := ⟨LUM_DATA1.addr, 0, 32⟩
def LUM_DATA1.VALUE : Fld := ⟨LUM_DATA1.addr, 0, 32⟩
/-- LUM_CMD (R137). -/
def LUM_CMD.addr : Nat := 0x400100040c
def LUM_CMD.reg : Fld := ⟨LUM_CMD.addr, 0, 32⟩
def LUM_CMD.OPCODE : Fld := ⟨LUM_CMD.addr, 0, 8⟩
/-- LUM_STAT (R137). -/
def LUM_STAT.addr : Nat := 0x4001000410
def LUM_STAT.reg : Fld := ⟨LUM_STAT.addr, 0, 32⟩
def LUM_STAT.CC : Fld := ⟨LUM_STAT.addr, 0, 8⟩
def LUM_STAT.OVERRUN : Fld := ⟨LUM_STAT.addr, 30, 1⟩
def LUM_STAT.BUSY : Fld := ⟨LUM_STAT.addr, 31, 1⟩
/-- LUM_WIN_SEL (R137). -/
def LUM_WIN_SEL.addr : Nat := 0x4001000500
def LUM_WIN_SEL.reg : Fld := ⟨LUM_WIN_SEL.addr, 0, 32⟩
def LUM_WIN_SEL.CORE : Fld := ⟨LUM_WIN_SEL.addr, 0, 5⟩
def LUM_WIN_SEL.SPACE : Fld := ⟨LUM_WIN_SEL.addr, 8, 1⟩
/-- LUM_DB (R137): a below 32. -/
def LUM_DB.addr (a : Nat) : Nat := 0x4001000600 + 4 * a
def LUM_DB.reg (a : Nat) : Fld := ⟨(LUM_DB.addr a), 0, 32⟩
def LUM_DB.PEND (a : Nat) : Fld := ⟨(LUM_DB.addr a), 0, 32⟩
/-- LUM_DB_SET (R137): a below 32. -/
def LUM_DB_SET.addr (a : Nat) : Nat := 0x4001000680 + 4 * a
def LUM_DB_SET.reg (a : Nat) : Fld := ⟨(LUM_DB_SET.addr a), 0, 32⟩
def LUM_DB_SET.SET (a : Nat) : Fld := ⟨(LUM_DB_SET.addr a), 0, 32⟩
/-- LUM_MBX_FULL_LO (R137): r below 32. -/
def LUM_MBX_FULL_LO.addr (r : Nat) : Nat := 0x4001000700 + 8 * r
def LUM_MBX_FULL_LO.reg (r : Nat) : Fld := ⟨(LUM_MBX_FULL_LO.addr r), 0, 32⟩
def LUM_MBX_FULL_LO.FULL (r : Nat) : Fld := ⟨(LUM_MBX_FULL_LO.addr r), 0, 32⟩
/-- LUM_MBX_FULL_HI (R137): r below 32. -/
def LUM_MBX_FULL_HI.addr (r : Nat) : Nat := 0x4001000704 + 8 * r
def LUM_MBX_FULL_HI.reg (r : Nat) : Fld := ⟨(LUM_MBX_FULL_HI.addr r), 0, 32⟩
def LUM_MBX_FULL_HI.FULL (r : Nat) : Fld := ⟨(LUM_MBX_FULL_HI.addr r), 0, 4⟩
/-- LUM_MBX_DB (R137): r below 32, s below 36. -/
def LUM_MBX_DB.addr (r s : Nat) : Nat := 0x4001001000 + 256 * r + 4 * s
def LUM_MBX_DB.reg (r s : Nat) : Fld := ⟨(LUM_MBX_DB.addr r s), 0, 32⟩
def LUM_MBX_DB.BIT (r s : Nat) : Fld := ⟨(LUM_MBX_DB.addr r s), 0, 5⟩
def LUM_MBX_DB.EN (r s : Nat) : Fld := ⟨(LUM_MBX_DB.addr r s), 8, 1⟩
/-- LUM_T_STATE (R137): t below 128. -/
def LUM_T_STATE.addr (t : Nat) : Nat := 0x4001020000 + 64 * t
def LUM_T_STATE.reg (t : Nat) : Fld := ⟨(LUM_T_STATE.addr t), 0, 32⟩
def LUM_T_STATE.STATE (t : Nat) : Fld := ⟨(LUM_T_STATE.addr t), 0, 3⟩
def LUM_T_STATE.PRIO (t : Nat) : Fld := ⟨(LUM_T_STATE.addr t), 3, 1⟩
def LUM_T_STATE.RESTART (t : Nat) : Fld := ⟨(LUM_T_STATE.addr t), 4, 1⟩
def LUM_T_STATE.RESTARTS (t : Nat) : Fld := ⟨(LUM_T_STATE.addr t), 8, 2⟩
/-- LUM_T_START_LO (R137): t below 128. -/
def LUM_T_START_LO.addr (t : Nat) : Nat := 0x4001020004 + 64 * t
def LUM_T_START_LO.reg (t : Nat) : Fld := ⟨(LUM_T_START_LO.addr t), 0, 32⟩
def LUM_T_START_LO.ADDR_LO (t : Nat) : Fld := ⟨(LUM_T_START_LO.addr t), 0, 32⟩
/-- LUM_T_START_HI (R137): t below 128. -/
def LUM_T_START_HI.addr (t : Nat) : Nat := 0x4001020008 + 64 * t
def LUM_T_START_HI.reg (t : Nat) : Fld := ⟨(LUM_T_START_HI.addr t), 0, 32⟩
def LUM_T_START_HI.ADDR_HI (t : Nat) : Fld := ⟨(LUM_T_START_HI.addr t), 0, 8⟩
/-- LUM_T_VEC_LO (R137): t below 128. -/
def LUM_T_VEC_LO.addr (t : Nat) : Nat := 0x400102000c + 64 * t
def LUM_T_VEC_LO.reg (t : Nat) : Fld := ⟨(LUM_T_VEC_LO.addr t), 0, 32⟩
def LUM_T_VEC_LO.VEC_LO (t : Nat) : Fld := ⟨(LUM_T_VEC_LO.addr t), 2, 30⟩
/-- LUM_T_VEC_HI (R137): t below 128. -/
def LUM_T_VEC_HI.addr (t : Nat) : Nat := 0x4001020010 + 64 * t
def LUM_T_VEC_HI.reg (t : Nat) : Fld := ⟨(LUM_T_VEC_HI.addr t), 0, 32⟩
def LUM_T_VEC_HI.VEC_HI (t : Nat) : Fld := ⟨(LUM_T_VEC_HI.addr t), 0, 8⟩
/-- LUM_T_TEV (R137): t below 128. -/
def LUM_T_TEV.addr (t : Nat) : Nat := 0x4001020014 + 64 * t
def LUM_T_TEV.reg (t : Nat) : Fld := ⟨(LUM_T_TEV.addr t), 0, 32⟩
def LUM_T_TEV.DOORBELL (t : Nat) : Fld := ⟨(LUM_T_TEV.addr t), 0, 1⟩
def LUM_T_TEV.EMPTY (t : Nat) : Fld := ⟨(LUM_T_TEV.addr t), 1, 1⟩
def LUM_T_TEV.TIMER0 (t : Nat) : Fld := ⟨(LUM_T_TEV.addr t), 2, 1⟩
def LUM_T_TEV.TIMER1 (t : Nat) : Fld := ⟨(LUM_T_TEV.addr t), 3, 1⟩
def LUM_T_TEV.QNOTICE (t : Nat) : Fld := ⟨(LUM_T_TEV.addr t), 4, 1⟩
def LUM_T_TEV.SOFT (t : Nat) : Fld := ⟨(LUM_T_TEV.addr t), 5, 1⟩
def LUM_T_TEV.BLK (t : Nat) : Fld := ⟨(LUM_T_TEV.addr t), 8, 16⟩
/-- LUM_T_EVMASK (R137): t below 128. -/
def LUM_T_EVMASK.addr (t : Nat) : Nat := 0x4001020018 + 64 * t
def LUM_T_EVMASK.reg (t : Nat) : Fld := ⟨(LUM_T_EVMASK.addr t), 0, 32⟩
def LUM_T_EVMASK.MASK (t : Nat) : Fld := ⟨(LUM_T_EVMASK.addr t), 0, 6⟩
def LUM_T_EVMASK.BLK_MASK (t : Nat) : Fld := ⟨(LUM_T_EVMASK.addr t), 8, 16⟩
/-- LUM_T_DBMASK (R137): t below 128. -/
def LUM_T_DBMASK.addr (t : Nat) : Nat := 0x400102001c + 64 * t
def LUM_T_DBMASK.reg (t : Nat) : Fld := ⟨(LUM_T_DBMASK.addr t), 0, 32⟩
def LUM_T_DBMASK.MASK (t : Nat) : Fld := ⟨(LUM_T_DBMASK.addr t), 0, 32⟩
/-- LUM_T_TMR_LO (R137): t below 128, n below 2. -/
def LUM_T_TMR_LO.addr (t n : Nat) : Nat := 0x4001020020 + 64 * t + 12 * n
def LUM_T_TMR_LO.reg (t n : Nat) : Fld := ⟨(LUM_T_TMR_LO.addr t n), 0, 32⟩
def LUM_T_TMR_LO.CMP_LO (t n : Nat) : Fld := ⟨(LUM_T_TMR_LO.addr t n), 0, 32⟩
/-- LUM_T_TMR_HI (R137): t below 128, n below 2. -/
def LUM_T_TMR_HI.addr (t n : Nat) : Nat := 0x4001020024 + 64 * t + 12 * n
def LUM_T_TMR_HI.reg (t n : Nat) : Fld := ⟨(LUM_T_TMR_HI.addr t n), 0, 32⟩
def LUM_T_TMR_HI.CMP_HI (t n : Nat) : Fld := ⟨(LUM_T_TMR_HI.addr t n), 0, 32⟩
/-- LUM_T_TMR_PER (R137): t below 128, n below 2. -/
def LUM_T_TMR_PER.addr (t n : Nat) : Nat := 0x4001020028 + 64 * t + 12 * n
def LUM_T_TMR_PER.reg (t n : Nat) : Fld := ⟨(LUM_T_TMR_PER.addr t n), 0, 32⟩
def LUM_T_TMR_PER.PER (t n : Nat) : Fld := ⟨(LUM_T_TMR_PER.addr t n), 0, 32⟩
/-- LUM_T_EXC (R137): t below 128. -/
def LUM_T_EXC.addr (t : Nat) : Nat := 0x4001020038 + 64 * t
def LUM_T_EXC.reg (t : Nat) : Fld := ⟨(LUM_T_EXC.addr t), 0, 32⟩
def LUM_T_EXC.CAUSE (t : Nat) : Fld := ⟨(LUM_T_EXC.addr t), 0, 8⟩
def LUM_T_EXC.VALID (t : Nat) : Fld := ⟨(LUM_T_EXC.addr t), 31, 1⟩
/-- LUM_T_SOFT (R137): t below 128. -/
def LUM_T_SOFT.addr (t : Nat) : Nat := 0x400102003c + 64 * t
def LUM_T_SOFT.reg (t : Nat) : Fld := ⟨(LUM_T_SOFT.addr t), 0, 32⟩
def LUM_T_SOFT.SET (t : Nat) : Fld := ⟨(LUM_T_SOFT.addr t), 0, 1⟩
/-- SAST_CTRL (R224). -/
def SAST_CTRL.addr : Nat := 0x4003000100
def SAST_CTRL.reg : Fld := ⟨SAST_CTRL.addr, 0, 32⟩
def SAST_CTRL.EN : Fld := ⟨SAST_CTRL.addr, 0, 1⟩
def SAST_CTRL.BAND : Fld := ⟨SAST_CTRL.addr, 1, 1⟩
def SAST_CTRL.ASSOC_OPEN : Fld := ⟨SAST_CTRL.addr, 2, 1⟩
def SAST_CTRL.HANDOVER_AUTO : Fld := ⟨SAST_CTRL.addr, 3, 1⟩
def SAST_CTRL.TETHER_SCAN : Fld := ⟨SAST_CTRL.addr, 4, 1⟩
def SAST_CTRL.WRAP_EN : Fld := ⟨SAST_CTRL.addr, 5, 1⟩
/-- SAST_SUPERVISION (R224). -/
def SAST_SUPERVISION.addr : Nat := 0x4003000104
def SAST_SUPERVISION.reg : Fld := ⟨SAST_SUPERVISION.addr, 0, 32⟩
def SAST_SUPERVISION.TIMEOUT : Fld := ⟨SAST_SUPERVISION.addr, 0, 10⟩
/-- SAST_CONFLICT_CFG (R224). -/
def SAST_CONFLICT_CFG.addr : Nat := 0x4003000108
def SAST_CONFLICT_CFG.reg : Fld := ⟨SAST_CONFLICT_CFG.addr, 0, 32⟩
def SAST_CONFLICT_CFG.RSSI_MIN : Fld := ⟨SAST_CONFLICT_CFG.addr, 0, 8⟩
def SAST_CONFLICT_CFG.WINDOW : Fld := ⟨SAST_CONFLICT_CFG.addr, 8, 16⟩
def SAST_CONFLICT_CFG.CONFLICT_MIN : Fld := ⟨SAST_CONFLICT_CFG.addr, 24, 8⟩
/-- SAST_HANDOVER_CFG (R224). -/
def SAST_HANDOVER_CFG.addr : Nat := 0x400300010c
def SAST_HANDOVER_CFG.reg : Fld := ⟨SAST_HANDOVER_CFG.addr, 0, 32⟩
def SAST_HANDOVER_CFG.MARGIN : Fld := ⟨SAST_HANDOVER_CFG.addr, 0, 8⟩
def SAST_HANDOVER_CFG.COUNT : Fld := ⟨SAST_HANDOVER_CFG.addr, 8, 4⟩
/-- SAST_PLAN_LO (R224). -/
def SAST_PLAN_LO.addr : Nat := 0x4003000110
def SAST_PLAN_LO.reg : Fld := ⟨SAST_PLAN_LO.addr, 0, 32⟩
def SAST_PLAN_LO.BASE_LO : Fld := ⟨SAST_PLAN_LO.addr, 10, 22⟩
/-- SAST_PLAN_HI (R224). -/
def SAST_PLAN_HI.addr : Nat := 0x4003000114
def SAST_PLAN_HI.reg : Fld := ⟨SAST_PLAN_HI.addr, 0, 32⟩
def SAST_PLAN_HI.BASE_HI : Fld := ⟨SAST_PLAN_HI.addr, 0, 8⟩
/-- SAST_PLAN_STAT (R224). -/
def SAST_PLAN_STAT.addr : Nat := 0x4003000118
def SAST_PLAN_STAT.reg : Fld := ⟨SAST_PLAN_STAT.addr, 0, 32⟩
def SAST_PLAN_STAT.VERSION : Fld := ⟨SAST_PLAN_STAT.addr, 0, 16⟩
def SAST_PLAN_STAT.ACTIVE : Fld := ⟨SAST_PLAN_STAT.addr, 16, 1⟩
def SAST_PLAN_STAT.PENDING : Fld := ⟨SAST_PLAN_STAT.addr, 17, 1⟩
/-- SAST_ADV_CH (R224). -/
def SAST_ADV_CH.addr : Nat := 0x400300011c
def SAST_ADV_CH.reg : Fld := ⟨SAST_ADV_CH.addr, 0, 32⟩
def SAST_ADV_CH.ADV0 : Fld := ⟨SAST_ADV_CH.addr, 0, 8⟩
def SAST_ADV_CH.ADV1 : Fld := ⟨SAST_ADV_CH.addr, 8, 8⟩
def SAST_ADV_CH.ADV2 : Fld := ⟨SAST_ADV_CH.addr, 16, 8⟩
/-- SAST_KEY (R224). -/
def SAST_KEY.addr : Nat := 0x4003000200
def SAST_KEY.reg : Fld := ⟨SAST_KEY.addr, 0, 32⟩
def SAST_KEY.VALUE : Fld := ⟨SAST_KEY.addr, 0, 32⟩
/-- SAST_DATA0 (R224). -/
def SAST_DATA0.addr : Nat := 0x4003000204
def SAST_DATA0.reg : Fld := ⟨SAST_DATA0.addr, 0, 32⟩
def SAST_DATA0.VALUE : Fld := ⟨SAST_DATA0.addr, 0, 32⟩
/-- SAST_DATA1 (R224). -/
def SAST_DATA1.addr : Nat := 0x4003000208
def SAST_DATA1.reg : Fld := ⟨SAST_DATA1.addr, 0, 32⟩
def SAST_DATA1.VALUE : Fld := ⟨SAST_DATA1.addr, 0, 32⟩
/-- SAST_DATA2 (R224). -/
def SAST_DATA2.addr : Nat := 0x400300020c
def SAST_DATA2.reg : Fld := ⟨SAST_DATA2.addr, 0, 32⟩
def SAST_DATA2.VALUE : Fld := ⟨SAST_DATA2.addr, 0, 32⟩
/-- SAST_DATA3 (R224). -/
def SAST_DATA3.addr : Nat := 0x4003000210
def SAST_DATA3.reg : Fld := ⟨SAST_DATA3.addr, 0, 32⟩
def SAST_DATA3.VALUE : Fld := ⟨SAST_DATA3.addr, 0, 32⟩
/-- SAST_CMD (R224). -/
def SAST_CMD.addr : Nat := 0x4003000214
def SAST_CMD.reg : Fld := ⟨SAST_CMD.addr, 0, 32⟩
def SAST_CMD.OPCODE : Fld := ⟨SAST_CMD.addr, 0, 8⟩
/-- SAST_STAT (R224). -/
def SAST_STAT.addr : Nat := 0x4003000218
def SAST_STAT.reg : Fld := ⟨SAST_STAT.addr, 0, 32⟩
def SAST_STAT.CC : Fld := ⟨SAST_STAT.addr, 0, 8⟩
def SAST_STAT.OVERRUN : Fld := ⟨SAST_STAT.addr, 30, 1⟩
def SAST_STAT.BUSY : Fld := ⟨SAST_STAT.addr, 31, 1⟩
/-- SAST_CHAIN (R224): n below 8. -/
def SAST_CHAIN.addr (n : Nat) : Nat := 0x4003000300 + 4 * n
def SAST_CHAIN.reg (n : Nat) : Fld := ⟨(SAST_CHAIN.addr n), 0, 32⟩
def SAST_CHAIN.LOCK (n : Nat) : Fld := ⟨(SAST_CHAIN.addr n), 0, 1⟩
def SAST_CHAIN.HEADS (n : Nat) : Fld := ⟨(SAST_CHAIN.addr n), 4, 4⟩
def SAST_CHAIN.BREAK_POS (n : Nat) : Fld := ⟨(SAST_CHAIN.addr n), 8, 3⟩
def SAST_CHAIN.BROKEN (n : Nat) : Fld := ⟨(SAST_CHAIN.addr n), 11, 1⟩
def SAST_CHAIN.WRAPPED (n : Nat) : Fld := ⟨(SAST_CHAIN.addr n), 12, 1⟩
/-- SAST_HEAD (R224): h below 64. -/
def SAST_HEAD.addr (h : Nat) : Nat := 0x4003000400 + 4 * h
def SAST_HEAD.reg (h : Nat) : Fld := ⟨(SAST_HEAD.addr h), 0, 32⟩
def SAST_HEAD.PRESENT (h : Nat) : Fld := ⟨(SAST_HEAD.addr h), 0, 1⟩
def SAST_HEAD.COMPAT (h : Nat) : Fld := ⟨(SAST_HEAD.addr h), 1, 1⟩
def SAST_HEAD.HOLDOFF (h : Nat) : Fld := ⟨(SAST_HEAD.addr h), 2, 1⟩
def SAST_HEAD.SYNC_LOST (h : Nat) : Fld := ⟨(SAST_HEAD.addr h), 3, 1⟩
def SAST_HEAD.PHY (h : Nat) : Fld := ⟨(SAST_HEAD.addr h), 4, 4⟩
def SAST_HEAD.VIA_PARTNER (h : Nat) : Fld := ⟨(SAST_HEAD.addr h), 8, 1⟩
def SAST_HEAD.NODES (h : Nat) : Fld := ⟨(SAST_HEAD.addr h), 16, 13⟩
/-- SAST_HOP_DLY (R224): h below 64. -/
def SAST_HOP_DLY.addr (h : Nat) : Nat := 0x4003000500 + 4 * h
def SAST_HOP_DLY.reg (h : Nat) : Fld := ⟨(SAST_HOP_DLY.addr h), 0, 32⟩
def SAST_HOP_DLY.DELAY (h : Nat) : Fld := ⟨(SAST_HOP_DLY.addr h), 0, 22⟩
def SAST_HOP_DLY.VALID (h : Nat) : Fld := ⟨(SAST_HOP_DLY.addr h), 31, 1⟩
/-- SAST_HOP_LEN (R224): h below 64. -/
def SAST_HOP_LEN.addr (h : Nat) : Nat := 0x4003000600 + 4 * h
def SAST_HOP_LEN.reg (h : Nat) : Fld := ⟨(SAST_HOP_LEN.addr h), 0, 32⟩
def SAST_HOP_LEN.LENGTH (h : Nat) : Fld := ⟨(SAST_HOP_LEN.addr h), 0, 17⟩
def SAST_HOP_LEN.VALID (h : Nat) : Fld := ⟨(SAST_HOP_LEN.addr h), 31, 1⟩
/-- SAST_BUDGET (R224): c below 64. -/
def SAST_BUDGET.addr (c : Nat) : Nat := 0x4003000700 + 4 * c
def SAST_BUDGET.reg (c : Nat) : Fld := ⟨(SAST_BUDGET.addr c), 0, 32⟩
def SAST_BUDGET.UNITS (c : Nat) : Fld := ⟨(SAST_BUDGET.addr c), 0, 17⟩
/-- SAST_USED (R224): c below 64. -/
def SAST_USED.addr (c : Nat) : Nat := 0x4003000800 + 4 * c
def SAST_USED.reg (c : Nat) : Fld := ⟨(SAST_USED.addr c), 0, 32⟩
def SAST_USED.UNITS (c : Nat) : Fld := ⟨(SAST_USED.addr c), 0, 17⟩
/-- SAST_COLL (R224): c below 64. -/
def SAST_COLL.addr (c : Nat) : Nat := 0x4003000900 + 4 * c
def SAST_COLL.reg (c : Nat) : Fld := ⟨(SAST_COLL.addr c), 0, 32⟩
def SAST_COLL.COUNT (c : Nat) : Fld := ⟨(SAST_COLL.addr c), 0, 32⟩
/-- SAST_CONFLICT (R224): i below 64, k below 32. -/
def SAST_CONFLICT.addr (i k : Nat) : Nat := 0x4003004000 + 128 * i + 4 * k
def SAST_CONFLICT.reg (i k : Nat) : Fld := ⟨(SAST_CONFLICT.addr i k), 0, 32⟩
def SAST_CONFLICT.EVEN (i k : Nat) : Fld := ⟨(SAST_CONFLICT.addr i k), 0, 16⟩
def SAST_CONFLICT.ODD (i k : Nat) : Fld := ⟨(SAST_CONFLICT.addr i k), 16, 16⟩
/-- MELT_CTRL (R253). -/
def MELT_CTRL.addr : Nat := 0x4004000100
def MELT_CTRL.reg : Fld := ⟨MELT_CTRL.addr, 0, 32⟩
def MELT_CTRL.EN : Fld := ⟨MELT_CTRL.addr, 0, 1⟩
def MELT_CTRL.NOMF : Fld := ⟨MELT_CTRL.addr, 1, 1⟩
def MELT_CTRL.HARM_MODE : Fld := ⟨MELT_CTRL.addr, 2, 2⟩
def MELT_CTRL.RECON_EN : Fld := ⟨MELT_CTRL.addr, 4, 1⟩
def MELT_CTRL.ALLOC_MODE : Fld := ⟨MELT_CTRL.addr, 5, 1⟩
def MELT_CTRL.INTERVAL : Fld := ⟨MELT_CTRL.addr, 8, 6⟩
/-- MELT_REGION_LO (R253). -/
def MELT_REGION_LO.addr : Nat := 0x4004000104
def MELT_REGION_LO.reg : Fld := ⟨MELT_REGION_LO.addr, 0, 32⟩
def MELT_REGION_LO.BASE_LO : Fld := ⟨MELT_REGION_LO.addr, 23, 9⟩
/-- MELT_REGION_HI (R253). -/
def MELT_REGION_HI.addr : Nat := 0x4004000108
def MELT_REGION_HI.reg : Fld := ⟨MELT_REGION_HI.addr, 0, 32⟩
def MELT_REGION_HI.BASE_HI : Fld := ⟨MELT_REGION_HI.addr, 0, 8⟩
/-- MELT_KEY (R253). -/
def MELT_KEY.addr : Nat := 0x4004000400
def MELT_KEY.reg : Fld := ⟨MELT_KEY.addr, 0, 32⟩
def MELT_KEY.VALUE : Fld := ⟨MELT_KEY.addr, 0, 32⟩
/-- MELT_DATA0 (R253). -/
def MELT_DATA0.addr : Nat := 0x4004000404
def MELT_DATA0.reg : Fld := ⟨MELT_DATA0.addr, 0, 32⟩
def MELT_DATA0.VALUE : Fld := ⟨MELT_DATA0.addr, 0, 32⟩
/-- MELT_DATA1 (R253). -/
def MELT_DATA1.addr : Nat := 0x4004000408
def MELT_DATA1.reg : Fld := ⟨MELT_DATA1.addr, 0, 32⟩
def MELT_DATA1.VALUE : Fld := ⟨MELT_DATA1.addr, 0, 32⟩
/-- MELT_CMD (R253). -/
def MELT_CMD.addr : Nat := 0x400400040c
def MELT_CMD.reg : Fld := ⟨MELT_CMD.addr, 0, 32⟩
def MELT_CMD.OPCODE : Fld := ⟨MELT_CMD.addr, 0, 8⟩
/-- MELT_STAT (R253). -/
def MELT_STAT.addr : Nat := 0x4004000410
def MELT_STAT.reg : Fld := ⟨MELT_STAT.addr, 0, 32⟩
def MELT_STAT.CC : Fld := ⟨MELT_STAT.addr, 0, 8⟩
def MELT_STAT.OVERRUN : Fld := ⟨MELT_STAT.addr, 30, 1⟩
def MELT_STAT.BUSY : Fld := ⟨MELT_STAT.addr, 31, 1⟩
/-- MELT_POD (R253): f below 16. -/
def MELT_POD.addr (f : Nat) : Nat := 0x4004000500 + 4 * f
def MELT_POD.reg (f : Nat) : Fld := ⟨(MELT_POD.addr f), 0, 32⟩
def MELT_POD.PRESENT (f : Nat) : Fld := ⟨(MELT_POD.addr f), 0, 1⟩
def MELT_POD.PORT_B (f : Nat) : Fld := ⟨(MELT_POD.addr f), 1, 1⟩
def MELT_POD.LOW (f : Nat) : Fld := ⟨(MELT_POD.addr f), 2, 3⟩
def MELT_POD.CLIP (f : Nat) : Fld := ⟨(MELT_POD.addr f), 5, 1⟩
def MELT_POD.PERR (f : Nat) : Fld := ⟨(MELT_POD.addr f), 16, 16⟩
/-- MELT_GAIN (R253): f below 16, k below 10. -/
def MELT_GAIN.addr (f k : Nat) : Nat := 0x4004001000 + 64 * f + 4 * k
def MELT_GAIN.reg (f k : Nat) : Fld := ⟨(MELT_GAIN.addr f k), 0, 32⟩
def MELT_GAIN.GAIN (f k : Nat) : Fld := ⟨(MELT_GAIN.addr f k), 0, 24⟩
def MELT_GAIN.PHASE (f k : Nat) : Fld := ⟨(MELT_GAIN.addr f k), 24, 8⟩
/-- MELT_FS_V (R253): f below 16. -/
def MELT_FS_V.addr (f : Nat) : Nat := 0x4004001400 + 8 * f
def MELT_FS_V.reg (f : Nat) : Fld := ⟨(MELT_FS_V.addr f), 0, 32⟩
def MELT_FS_V.FS (f : Nat) : Fld := ⟨(MELT_FS_V.addr f), 0, 32⟩
/-- MELT_FS_I (R253): f below 16. -/
def MELT_FS_I.addr (f : Nat) : Nat := 0x4004001404 + 8 * f
def MELT_FS_I.reg (f : Nat) : Fld := ⟨(MELT_FS_I.addr f), 0, 32⟩
def MELT_FS_I.FS (f : Nat) : Fld := ⟨(MELT_FS_I.addr f), 0, 32⟩
/-- MELT_XCAL (R253): f below 16, ph below 3. -/
def MELT_XCAL.addr (f ph : Nat) : Nat := 0x4004001500 + 12 * f + 4 * ph
def MELT_XCAL.reg (f ph : Nat) : Fld := ⟨(MELT_XCAL.addr f ph), 0, 32⟩
def MELT_XCAL.XGAIN (f ph : Nat) : Fld := ⟨(MELT_XCAL.addr f ph), 0, 24⟩
def MELT_XCAL.FAULT (f ph : Nat) : Fld := ⟨(MELT_XCAL.addr f ph), 31, 1⟩
/-- MELT_E_LO (R253): f below 16, p below 4, q below 8. -/
def MELT_E_LO.addr (f p q : Nat) : Nat := 0x4004002000 + 256 * f + 64 * p + 8 * q
def MELT_E_LO.reg (f p q : Nat) : Fld := ⟨(MELT_E_LO.addr f p q), 0, 32⟩
def MELT_E_LO.VALUE (f p q : Nat) : Fld := ⟨(MELT_E_LO.addr f p q), 0, 32⟩
/-- MELT_E_HI (R253): f below 16, p below 4, q below 8. -/
def MELT_E_HI.addr (f p q : Nat) : Nat := 0x4004002004 + 256 * f + 64 * p + 8 * q
def MELT_E_HI.reg (f p q : Nat) : Fld := ⟨(MELT_E_HI.addr f p q), 0, 32⟩
def MELT_E_HI.VALUE (f p q : Nat) : Fld := ⟨(MELT_E_HI.addr f p q), 0, 32⟩
/-- MELT_SEC0 (R253): f below 16, p below 4. -/
def MELT_SEC0.addr (f p : Nat) : Nat := 0x4004003000 + 64 * f + 16 * p
def MELT_SEC0.reg (f p : Nat) : Fld := ⟨(MELT_SEC0.addr f p), 0, 32⟩
def MELT_SEC0.VRMS (f p : Nat) : Fld := ⟨(MELT_SEC0.addr f p), 0, 32⟩
/-- MELT_SEC1 (R253): f below 16, p below 4. -/
def MELT_SEC1.addr (f p : Nat) : Nat := 0x4004003004 + 64 * f + 16 * p
def MELT_SEC1.reg (f p : Nat) : Fld := ⟨(MELT_SEC1.addr f p), 0, 32⟩
def MELT_SEC1.IRMS (f p : Nat) : Fld := ⟨(MELT_SEC1.addr f p), 0, 32⟩
/-- MELT_SEC2 (R253): f below 16, p below 4. -/
def MELT_SEC2.addr (f p : Nat) : Nat := 0x4004003008 + 64 * f + 16 * p
def MELT_SEC2.reg (f p : Nat) : Fld := ⟨(MELT_SEC2.addr f p), 0, 32⟩
def MELT_SEC2.P (f p : Nat) : Fld := ⟨(MELT_SEC2.addr f p), 0, 32⟩
/-- MELT_SEC3 (R253): f below 16, p below 4. -/
def MELT_SEC3.addr (f p : Nat) : Nat := 0x400400300c + 64 * f + 16 * p
def MELT_SEC3.reg (f p : Nat) : Fld := ⟨(MELT_SEC3.addr f p), 0, 32⟩
def MELT_SEC3.Q (f p : Nat) : Fld := ⟨(MELT_SEC3.addr f p), 0, 32⟩
/-- MELT_FREQ (R253): f below 16. -/
def MELT_FREQ.addr (f : Nat) : Nat := 0x4004003400 + 4 * f
def MELT_FREQ.reg (f : Nat) : Fld := ⟨(MELT_FREQ.addr f), 0, 32⟩
def MELT_FREQ.FREQ (f : Nat) : Fld := ⟨(MELT_FREQ.addr f), 0, 17⟩
/-- MELT_INT_LO (R253): f below 16, q below 8. -/
def MELT_INT_LO.addr (f q : Nat) : Nat := 0x4004003800 + 64 * f + 8 * q
def MELT_INT_LO.reg (f q : Nat) : Fld := ⟨(MELT_INT_LO.addr f q), 0, 32⟩
def MELT_INT_LO.VALUE (f q : Nat) : Fld := ⟨(MELT_INT_LO.addr f q), 0, 32⟩
/-- MELT_INT_HI (R253): f below 16, q below 8. -/
def MELT_INT_HI.addr (f q : Nat) : Nat := 0x4004003804 + 64 * f + 8 * q
def MELT_INT_HI.reg (f q : Nat) : Fld := ⟨(MELT_INT_HI.addr f q), 0, 32⟩
def MELT_INT_HI.VALUE (f q : Nat) : Fld := ⟨(MELT_INT_HI.addr f q), 0, 32⟩
/-- MELT_INT_START_LO (R253). -/
def MELT_INT_START_LO.addr : Nat := 0x4004003c00
def MELT_INT_START_LO.reg : Fld := ⟨MELT_INT_START_LO.addr, 0, 32⟩
def MELT_INT_START_LO.S_LO : Fld := ⟨MELT_INT_START_LO.addr, 0, 32⟩
/-- MELT_INT_START_HI (R253). -/
def MELT_INT_START_HI.addr : Nat := 0x4004003c04
def MELT_INT_START_HI.reg : Fld := ⟨MELT_INT_START_HI.addr, 0, 32⟩
def MELT_INT_START_HI.S_HI : Fld := ⟨MELT_INT_START_HI.addr, 0, 16⟩
/-- MELT_INT_FLAGS (R253). -/
def MELT_INT_FLAGS.addr : Nat := 0x4004003c08
def MELT_INT_FLAGS.reg : Fld := ⟨MELT_INT_FLAGS.addr, 0, 32⟩
def MELT_INT_FLAGS.SHORT : Fld := ⟨MELT_INT_FLAGS.addr, 0, 1⟩
def MELT_INT_FLAGS.INCOMPLETE : Fld := ⟨MELT_INT_FLAGS.addr, 16, 16⟩
/-- MELT_PULSE (R253): n below 16. -/
def MELT_PULSE.addr (n : Nat) : Nat := 0x4004004000 + 8 * n
def MELT_PULSE.reg (n : Nat) : Fld := ⟨(MELT_PULSE.addr n), 0, 32⟩
def MELT_PULSE.FEEDER (n : Nat) : Fld := ⟨(MELT_PULSE.addr n), 0, 4⟩
def MELT_PULSE.PHASE (n : Nat) : Fld := ⟨(MELT_PULSE.addr n), 4, 2⟩
def MELT_PULSE.QTY (n : Nat) : Fld := ⟨(MELT_PULSE.addr n), 6, 4⟩
def MELT_PULSE.EN (n : Nat) : Fld := ⟨(MELT_PULSE.addr n), 10, 1⟩
def MELT_PULSE.WIDTH (n : Nat) : Fld := ⟨(MELT_PULSE.addr n), 16, 8⟩
def MELT_PULSE.OVF (n : Nat) : Fld := ⟨(MELT_PULSE.addr n), 31, 1⟩
/-- MELT_PULSE_K (R253): n below 16. -/
def MELT_PULSE_K.addr (n : Nat) : Nat := 0x4004004004 + 8 * n
def MELT_PULSE_K.reg (n : Nat) : Fld := ⟨(MELT_PULSE_K.addr n), 0, 32⟩
def MELT_PULSE_K.K (n : Nat) : Fld := ⟨(MELT_PULSE_K.addr n), 0, 32⟩
/-- MELT_RECON0 (R253): f below 16. -/
def MELT_RECON0.addr (f : Nat) : Nat := 0x4004004100 + 16 * f
def MELT_RECON0.reg (f : Nat) : Fld := ⟨(MELT_RECON0.addr f), 0, 32⟩
def MELT_RECON0.ALLOW (f : Nat) : Fld := ⟨(MELT_RECON0.addr f), 0, 16⟩
def MELT_RECON0.FIXED (f : Nat) : Fld := ⟨(MELT_RECON0.addr f), 16, 16⟩
/-- MELT_RECON1 (R253): f below 16. -/
def MELT_RECON1.addr (f : Nat) : Nat := 0x4004004104 + 16 * f
def MELT_RECON1.reg (f : Nat) : Fld := ⟨(MELT_RECON1.addr f), 0, 32⟩
def MELT_RECON1.TRIP (f : Nat) : Fld := ⟨(MELT_RECON1.addr f), 0, 16⟩
def MELT_RECON1.RELEASE (f : Nat) : Fld := ⟨(MELT_RECON1.addr f), 16, 16⟩
/-- MELT_RECON2 (R253): f below 16. -/
def MELT_RECON2.addr (f : Nat) : Nat := 0x4004004108 + 16 * f
def MELT_RECON2.reg (f : Nat) : Fld := ⟨(MELT_RECON2.addr f), 0, 32⟩
def MELT_RECON2.DWELL (f : Nat) : Fld := ⟨(MELT_RECON2.addr f), 0, 8⟩
def MELT_RECON2.MIN_WH (f : Nat) : Fld := ⟨(MELT_RECON2.addr f), 16, 16⟩
/-- MELT_RECON_STAT (R253): f below 16. -/
def MELT_RECON_STAT.addr (f : Nat) : Nat := 0x400400410c + 16 * f
def MELT_RECON_STAT.reg (f : Nat) : Fld := ⟨(MELT_RECON_STAT.addr f), 0, 32⟩
def MELT_RECON_STAT.UNACC (f : Nat) : Fld := ⟨(MELT_RECON_STAT.addr f), 0, 1⟩
def MELT_RECON_STAT.NEG (f : Nat) : Fld := ⟨(MELT_RECON_STAT.addr f), 1, 1⟩
def MELT_RECON_STAT.COUNT (f : Nat) : Fld := ⟨(MELT_RECON_STAT.addr f), 8, 8⟩
def MELT_RECON_STAT.UPCT (f : Nat) : Fld := ⟨(MELT_RECON_STAT.addr f), 16, 16⟩
/-- MELT_RESID_LO (R253): f below 16. -/
def MELT_RESID_LO.addr (f : Nat) : Nat := 0x4004004200 + 8 * f
def MELT_RESID_LO.reg (f : Nat) : Fld := ⟨(MELT_RESID_LO.addr f), 0, 32⟩
def MELT_RESID_LO.VALUE (f : Nat) : Fld := ⟨(MELT_RESID_LO.addr f), 0, 32⟩
/-- MELT_RESID_HI (R253): f below 16. -/
def MELT_RESID_HI.addr (f : Nat) : Nat := 0x4004004204 + 8 * f
def MELT_RESID_HI.reg (f : Nat) : Fld := ⟨(MELT_RESID_HI.addr f), 0, 32⟩
def MELT_RESID_HI.VALUE (f : Nat) : Fld := ⟨(MELT_RESID_HI.addr f), 0, 32⟩
/-- MELT_REP_LO (R253): f below 16. -/
def MELT_REP_LO.addr (f : Nat) : Nat := 0x4004004280 + 8 * f
def MELT_REP_LO.reg (f : Nat) : Fld := ⟨(MELT_REP_LO.addr f), 0, 32⟩
def MELT_REP_LO.VALUE (f : Nat) : Fld := ⟨(MELT_REP_LO.addr f), 0, 32⟩
/-- MELT_REP_HI (R253): f below 16. -/
def MELT_REP_HI.addr (f : Nat) : Nat := 0x4004004284 + 8 * f
def MELT_REP_HI.reg (f : Nat) : Fld := ⟨(MELT_REP_HI.addr f), 0, 32⟩
def MELT_REP_HI.VALUE (f : Nat) : Fld := ⟨(MELT_REP_HI.addr f), 0, 32⟩
/-- MELT_SIG0 (R253): f below 16. -/
def MELT_SIG0.addr (f : Nat) : Nat := 0x4004004300 + 16 * f
def MELT_SIG0.reg (f : Nat) : Fld := ⟨(MELT_SIG0.addr f), 0, 32⟩
def MELT_SIG0.P_LAMP (f : Nat) : Fld := ⟨(MELT_SIG0.addr f), 0, 16⟩
def MELT_SIG0.P_BASE (f : Nat) : Fld := ⟨(MELT_SIG0.addr f), 16, 16⟩
/-- MELT_SIG1 (R253): f below 16. -/
def MELT_SIG1.addr (f : Nat) : Nat := 0x4004004304 + 16 * f
def MELT_SIG1.reg (f : Nat) : Fld := ⟨(MELT_SIG1.addr f), 0, 32⟩
def MELT_SIG1.EXPECTED (f : Nat) : Fld := ⟨(MELT_SIG1.addr f), 0, 20⟩
def MELT_SIG1.CTR (f : Nat) : Fld := ⟨(MELT_SIG1.addr f), 20, 4⟩
def MELT_SIG1.SETTLE (f : Nat) : Fld := ⟨(MELT_SIG1.addr f), 24, 8⟩
/-- MELT_SIG2 (R253): f below 16. -/
def MELT_SIG2.addr (f : Nat) : Nat := 0x4004004308 + 16 * f
def MELT_SIG2.reg (f : Nat) : Fld := ⟨(MELT_SIG2.addr f), 0, 32⟩
def MELT_SIG2.EST (f : Nat) : Fld := ⟨(MELT_SIG2.addr f), 0, 20⟩
def MELT_SIG2.VALID (f : Nat) : Fld := ⟨(MELT_SIG2.addr f), 20, 1⟩
/-- MELT_SIG3 (R253): f below 16. -/
def MELT_SIG3.addr (f : Nat) : Nat := 0x400400430c + 16 * f
def MELT_SIG3.reg (f : Nat) : Fld := ⟨(MELT_SIG3.addr f), 0, 32⟩
def MELT_SIG3.FAILED (f : Nat) : Fld := ⟨(MELT_SIG3.addr f), 0, 20⟩
/-- TIME_CTRL (R276). -/
def TIME_CTRL.addr : Nat := 0x4005000100
def TIME_CTRL.reg : Fld := ⟨TIME_CTRL.addr, 0, 32⟩
def TIME_CTRL.SERVO : Fld := ⟨TIME_CTRL.addr, 0, 1⟩
def TIME_CTRL.PPS_EN : Fld := ⟨TIME_CTRL.addr, 1, 1⟩
def TIME_CTRL.PPS_OUT_EN : Fld := ⟨TIME_CTRL.addr, 2, 1⟩
def TIME_CTRL.ONE_STEP : Fld := ⟨TIME_CTRL.addr, 3, 1⟩
def TIME_CTRL.DOMAIN : Fld := ⟨TIME_CTRL.addr, 4, 7⟩
def TIME_CTRL.STEP_MIN : Fld := ⟨TIME_CTRL.addr, 16, 8⟩
/-- TIME_SYNC (R276). -/
def TIME_SYNC.addr : Nat := 0x4005000104
def TIME_SYNC.reg : Fld := ⟨TIME_SYNC.addr, 0, 32⟩
def TIME_SYNC.STATE : Fld := ⟨TIME_SYNC.addr, 0, 3⟩
def TIME_SYNC.SOURCE : Fld := ⟨TIME_SYNC.addr, 4, 3⟩
def TIME_SYNC.STEP_ARMED : Fld := ⟨TIME_SYNC.addr, 7, 1⟩
def TIME_SYNC.WARM : Fld := ⟨TIME_SYNC.addr, 8, 1⟩
def TIME_SYNC.HOLD_MIN : Fld := ⟨TIME_SYNC.addr, 16, 16⟩
/-- TIME_OFS (R276). -/
def TIME_OFS.addr : Nat := 0x4005000108
def TIME_OFS.reg : Fld := ⟨TIME_OFS.addr, 0, 32⟩
def TIME_OFS.OFS : Fld := ⟨TIME_OFS.addr, 0, 32⟩
/-- TIME_RATE (R276). -/
def TIME_RATE.addr : Nat := 0x400500010c
def TIME_RATE.reg : Fld := ⟨TIME_RATE.addr, 0, 32⟩
def TIME_RATE.RATE : Fld := ⟨TIME_RATE.addr, 0, 32⟩
/-- TIME_NOW_S_LO (R276). -/
def TIME_NOW_S_LO.addr : Nat := 0x4005000110
def TIME_NOW_S_LO.reg : Fld := ⟨TIME_NOW_S_LO.addr, 0, 32⟩
def TIME_NOW_S_LO.S_LO : Fld := ⟨TIME_NOW_S_LO.addr, 0, 32⟩
/-- TIME_NOW_S_HI (R276). -/
def TIME_NOW_S_HI.addr : Nat := 0x4005000114
def TIME_NOW_S_HI.reg : Fld := ⟨TIME_NOW_S_HI.addr, 0, 32⟩
def TIME_NOW_S_HI.S_HI : Fld := ⟨TIME_NOW_S_HI.addr, 0, 16⟩
/-- TIME_NOW_NS (R276). -/
def TIME_NOW_NS.addr : Nat := 0x4005000118
def TIME_NOW_NS.reg : Fld := ⟨TIME_NOW_NS.addr, 0, 32⟩
def TIME_NOW_NS.NS : Fld := ⟨TIME_NOW_NS.addr, 0, 30⟩
/-- TIME_NOW_CNT_LO (R276). -/
def TIME_NOW_CNT_LO.addr : Nat := 0x400500011c
def TIME_NOW_CNT_LO.reg : Fld := ⟨TIME_NOW_CNT_LO.addr, 0, 32⟩
def TIME_NOW_CNT_LO.CNT : Fld := ⟨TIME_NOW_CNT_LO.addr, 0, 32⟩
/-- TIME_NOW_CNT_HI (R276). -/
def TIME_NOW_CNT_HI.addr : Nat := 0x4005000120
def TIME_NOW_CNT_HI.reg : Fld := ⟨TIME_NOW_CNT_HI.addr, 0, 32⟩
def TIME_NOW_CNT_HI.CNT : Fld := ⟨TIME_NOW_CNT_HI.addr, 0, 32⟩
/-- TIME_PPS_DLY (R276). -/
def TIME_PPS_DLY.addr : Nat := 0x4005000124
def TIME_PPS_DLY.reg : Fld := ⟨TIME_PPS_DLY.addr, 0, 32⟩
def TIME_PPS_DLY.DLY : Fld := ⟨TIME_PPS_DLY.addr, 0, 16⟩
/-- TIME_LATE_TICKET (R276). -/
def TIME_LATE_TICKET.addr : Nat := 0x4005000128
def TIME_LATE_TICKET.reg : Fld := ⟨TIME_LATE_TICKET.addr, 0, 32⟩
def TIME_LATE_TICKET.TICKET : Fld := ⟨TIME_LATE_TICKET.addr, 0, 32⟩
/-- TIME_KEY (R276). -/
def TIME_KEY.addr : Nat := 0x4005000200
def TIME_KEY.reg : Fld := ⟨TIME_KEY.addr, 0, 32⟩
def TIME_KEY.VALUE : Fld := ⟨TIME_KEY.addr, 0, 32⟩
/-- TIME_DATA0 (R276). -/
def TIME_DATA0.addr : Nat := 0x4005000204
def TIME_DATA0.reg : Fld := ⟨TIME_DATA0.addr, 0, 32⟩
def TIME_DATA0.VALUE : Fld := ⟨TIME_DATA0.addr, 0, 32⟩
/-- TIME_DATA1 (R276). -/
def TIME_DATA1.addr : Nat := 0x4005000208
def TIME_DATA1.reg : Fld := ⟨TIME_DATA1.addr, 0, 32⟩
def TIME_DATA1.VALUE : Fld := ⟨TIME_DATA1.addr, 0, 32⟩
/-- TIME_DATA2 (R276). -/
def TIME_DATA2.addr : Nat := 0x400500020c
def TIME_DATA2.reg : Fld := ⟨TIME_DATA2.addr, 0, 32⟩
def TIME_DATA2.VALUE : Fld := ⟨TIME_DATA2.addr, 0, 32⟩
/-- TIME_CMD (R276). -/
def TIME_CMD.addr : Nat := 0x4005000210
def TIME_CMD.reg : Fld := ⟨TIME_CMD.addr, 0, 32⟩
def TIME_CMD.OPCODE : Fld := ⟨TIME_CMD.addr, 0, 8⟩
/-- TIME_STAT (R276). -/
def TIME_STAT.addr : Nat := 0x4005000214
def TIME_STAT.reg : Fld := ⟨TIME_STAT.addr, 0, 32⟩
def TIME_STAT.CC : Fld := ⟨TIME_STAT.addr, 0, 8⟩
def TIME_STAT.OVERRUN : Fld := ⟨TIME_STAT.addr, 30, 1⟩
def TIME_STAT.BUSY : Fld := ⟨TIME_STAT.addr, 31, 1⟩
/-- TIME_PORT (R276): n below 5. -/
def TIME_PORT.addr (n : Nat) : Nat := 0x4005000300 + 4 * n
def TIME_PORT.reg (n : Nat) : Fld := ⟨(TIME_PORT.addr n), 0, 32⟩
def TIME_PORT.PSTATE (n : Nat) : Fld := ⟨(TIME_PORT.addr n), 0, 2⟩
def TIME_PORT.LINK_DLY (n : Nat) : Fld := ⟨(TIME_PORT.addr n), 16, 16⟩
/-- TIME_ASYM (R276): n below 5. -/
def TIME_ASYM.addr (n : Nat) : Nat := 0x4005000320 + 4 * n
def TIME_ASYM.reg (n : Nat) : Fld := ⟨(TIME_ASYM.addr n), 0, 32⟩
def TIME_ASYM.ASYM (n : Nat) : Fld := ⟨(TIME_ASYM.addr n), 0, 16⟩
/-- TIME_LQ (R276): q below 20. -/
def TIME_LQ.addr (q : Nat) : Nat := 0x4005000400 + 8 * q
def TIME_LQ.reg (q : Nat) : Fld := ⟨(TIME_LQ.addr q), 0, 32⟩
def TIME_LQ.LATE_DROP (q : Nat) : Fld := ⟨(TIME_LQ.addr q), 0, 16⟩
def TIME_LQ.LATE_SENT (q : Nat) : Fld := ⟨(TIME_LQ.addr q), 16, 16⟩
/-- TIME_LQ_FILL (R276): q below 20. -/
def TIME_LQ_FILL.addr (q : Nat) : Nat := 0x4005000404 + 8 * q
def TIME_LQ_FILL.reg (q : Nat) : Fld := ⟨(TIME_LQ_FILL.addr q), 0, 32⟩
def TIME_LQ_FILL.QUEUED (q : Nat) : Fld := ⟨(TIME_LQ_FILL.addr q), 0, 9⟩
/-- SRC_TBL (R307-R309): t below 3. -/
def SRC_TBL.addr (t : Nat) : Nat := 0x4006000100 + 4 * t
def SRC_TBL.reg (t : Nat) : Fld := ⟨(SRC_TBL.addr t), 0, 32⟩
def SRC_TBL.POLICY (t : Nat) : Fld := ⟨(SRC_TBL.addr t), 0, 1⟩
def SRC_TBL.LEARN (t : Nat) : Fld := ⟨(SRC_TBL.addr t), 1, 1⟩
def SRC_TBL.DEFQ (t : Nat) : Fld := ⟨(SRC_TBL.addr t), 4, 12⟩
def SRC_TBL.AGE (t : Nat) : Fld := ⟨(SRC_TBL.addr t), 16, 16⟩
/-- SRC_USED (R307-R309): t below 3. -/
def SRC_USED.addr (t : Nat) : Nat := 0x4006000110 + 4 * t
def SRC_USED.reg (t : Nat) : Fld := ⟨(SRC_USED.addr t), 0, 32⟩
def SRC_USED.ENTRIES (t : Nat) : Fld := ⟨(SRC_USED.addr t), 0, 19⟩
/-- SRC_PERR (R307-R309). -/
def SRC_PERR.addr : Nat := 0x4006000120
def SRC_PERR.reg : Fld := ⟨SRC_PERR.addr, 0, 32⟩
def SRC_PERR.INDEX : Fld := ⟨SRC_PERR.addr, 0, 18⟩
def SRC_PERR.TABLE : Fld := ⟨SRC_PERR.addr, 18, 2⟩
def SRC_PERR.COUNT : Fld := ⟨SRC_PERR.addr, 20, 10⟩
def SRC_PERR.VALID : Fld := ⟨SRC_PERR.addr, 31, 1⟩
/-- SRC_EVICT (R307-R309). -/
def SRC_EVICT.addr : Nat := 0x4006000124
def SRC_EVICT.reg : Fld := ⟨SRC_EVICT.addr, 0, 32⟩
def SRC_EVICT.INDEX : Fld := ⟨SRC_EVICT.addr, 0, 18⟩
def SRC_EVICT.TABLE : Fld := ⟨SRC_EVICT.addr, 18, 2⟩
def SRC_EVICT.COUNT : Fld := ⟨SRC_EVICT.addr, 20, 10⟩
def SRC_EVICT.VALID : Fld := ⟨SRC_EVICT.addr, 31, 1⟩
/-- SRC_KEY0 (R307-R309). -/
def SRC_KEY0.addr : Nat := 0x4006000200
def SRC_KEY0.reg : Fld := ⟨SRC_KEY0.addr, 0, 32⟩
def SRC_KEY0.VALUE : Fld := ⟨SRC_KEY0.addr, 0, 32⟩
/-- SRC_KEY1 (R307-R309). -/
def SRC_KEY1.addr : Nat := 0x4006000204
def SRC_KEY1.reg : Fld := ⟨SRC_KEY1.addr, 0, 32⟩
def SRC_KEY1.VALUE : Fld := ⟨SRC_KEY1.addr, 0, 32⟩
/-- SRC_KEY2 (R307-R309). -/
def SRC_KEY2.addr : Nat := 0x4006000208
def SRC_KEY2.reg : Fld := ⟨SRC_KEY2.addr, 0, 32⟩
def SRC_KEY2.VALUE : Fld := ⟨SRC_KEY2.addr, 0, 32⟩
/-- SRC_KEY3 (R307-R309). -/
def SRC_KEY3.addr : Nat := 0x400600020c
def SRC_KEY3.reg : Fld := ⟨SRC_KEY3.addr, 0, 32⟩
def SRC_KEY3.VALUE : Fld := ⟨SRC_KEY3.addr, 0, 32⟩
/-- SRC_KEY4 (R307-R309). -/
def SRC_KEY4.addr : Nat := 0x4006000210
def SRC_KEY4.reg : Fld := ⟨SRC_KEY4.addr, 0, 32⟩
def SRC_KEY4.VALUE : Fld := ⟨SRC_KEY4.addr, 0, 32⟩
/-- SRC_KEY5 (R307-R309). -/
def SRC_KEY5.addr : Nat := 0x4006000214
def SRC_KEY5.reg : Fld := ⟨SRC_KEY5.addr, 0, 32⟩
def SRC_KEY5.VALUE : Fld := ⟨SRC_KEY5.addr, 0, 32⟩
/-- SRC_DATA0 (R307-R309). -/
def SRC_DATA0.addr : Nat := 0x4006000218
def SRC_DATA0.reg : Fld := ⟨SRC_DATA0.addr, 0, 32⟩
def SRC_DATA0.VALUE : Fld := ⟨SRC_DATA0.addr, 0, 32⟩
/-- SRC_DATA1 (R307-R309). -/
def SRC_DATA1.addr : Nat := 0x400600021c
def SRC_DATA1.reg : Fld := ⟨SRC_DATA1.addr, 0, 32⟩
def SRC_DATA1.VALUE : Fld := ⟨SRC_DATA1.addr, 0, 32⟩
/-- SRC_DATA2 (R307-R309). -/
def SRC_DATA2.addr : Nat := 0x4006000220
def SRC_DATA2.reg : Fld := ⟨SRC_DATA2.addr, 0, 32⟩
def SRC_DATA2.VALUE : Fld := ⟨SRC_DATA2.addr, 0, 32⟩
/-- SRC_DATA3 (R307-R309). -/
def SRC_DATA3.addr : Nat := 0x4006000224
def SRC_DATA3.reg : Fld := ⟨SRC_DATA3.addr, 0, 32⟩
def SRC_DATA3.VALUE : Fld := ⟨SRC_DATA3.addr, 0, 32⟩
/-- SRC_CMD (R307-R309). -/
def SRC_CMD.addr : Nat := 0x4006000228
def SRC_CMD.reg : Fld := ⟨SRC_CMD.addr, 0, 32⟩
def SRC_CMD.OPCODE : Fld := ⟨SRC_CMD.addr, 0, 8⟩
/-- SRC_STAT (R307-R309). -/
def SRC_STAT.addr : Nat := 0x400600022c
def SRC_STAT.reg : Fld := ⟨SRC_STAT.addr, 0, 32⟩
def SRC_STAT.CC : Fld := ⟨SRC_STAT.addr, 0, 8⟩
def SRC_STAT.INDEX : Fld := ⟨SRC_STAT.addr, 8, 18⟩
def SRC_STAT.OVERRUN : Fld := ⟨SRC_STAT.addr, 30, 1⟩
def SRC_STAT.BUSY : Fld := ⟨SRC_STAT.addr, 31, 1⟩
/-- SNOW_POOL (R307-R309). -/
def SNOW_POOL.addr : Nat := 0x4007000100
def SNOW_POOL.reg : Fld := ⟨SNOW_POOL.addr, 0, 32⟩
def SNOW_POOL.FREE : Fld := ⟨SNOW_POOL.addr, 0, 18⟩
/-- SNOW_SHARED (R307-R309). -/
def SNOW_SHARED.addr : Nat := 0x4007000104
def SNOW_SHARED.reg : Fld := ⟨SNOW_SHARED.addr, 0, 32⟩
def SNOW_SHARED.SHARED : Fld := ⟨SNOW_SHARED.addr, 0, 18⟩
/-- SNOW_MAXPKT (R307-R309). -/
def SNOW_MAXPKT.addr : Nat := 0x4007000108
def SNOW_MAXPKT.reg : Fld := ⟨SNOW_MAXPKT.addr, 0, 32⟩
def SNOW_MAXPKT.LEN : Fld := ⟨SNOW_MAXPKT.addr, 0, 14⟩
/-- SNOW_LOW (R307-R309). -/
def SNOW_LOW.addr : Nat := 0x400700010c
def SNOW_LOW.reg : Fld := ⟨SNOW_LOW.addr, 0, 32⟩
def SNOW_LOW.LOW : Fld := ⟨SNOW_LOW.addr, 0, 18⟩
/-- SNOW_KEY (R307-R309). -/
def SNOW_KEY.addr : Nat := 0x4007000200
def SNOW_KEY.reg : Fld := ⟨SNOW_KEY.addr, 0, 32⟩
def SNOW_KEY.VALUE : Fld := ⟨SNOW_KEY.addr, 0, 32⟩
/-- SNOW_DATA0 (R307-R309). -/
def SNOW_DATA0.addr : Nat := 0x4007000204
def SNOW_DATA0.reg : Fld := ⟨SNOW_DATA0.addr, 0, 32⟩
def SNOW_DATA0.VALUE : Fld := ⟨SNOW_DATA0.addr, 0, 32⟩
/-- SNOW_DATA1 (R307-R309). -/
def SNOW_DATA1.addr : Nat := 0x4007000208
def SNOW_DATA1.reg : Fld := ⟨SNOW_DATA1.addr, 0, 32⟩
def SNOW_DATA1.VALUE : Fld := ⟨SNOW_DATA1.addr, 0, 32⟩
/-- SNOW_DATA2 (R307-R309). -/
def SNOW_DATA2.addr : Nat := 0x400700020c
def SNOW_DATA2.reg : Fld := ⟨SNOW_DATA2.addr, 0, 32⟩
def SNOW_DATA2.VALUE : Fld := ⟨SNOW_DATA2.addr, 0, 32⟩
/-- SNOW_DATA3 (R307-R309). -/
def SNOW_DATA3.addr : Nat := 0x4007000210
def SNOW_DATA3.reg : Fld := ⟨SNOW_DATA3.addr, 0, 32⟩
def SNOW_DATA3.VALUE : Fld := ⟨SNOW_DATA3.addr, 0, 32⟩
/-- SNOW_CMD (R307-R309). -/
def SNOW_CMD.addr : Nat := 0x4007000214
def SNOW_CMD.reg : Fld := ⟨SNOW_CMD.addr, 0, 32⟩
def SNOW_CMD.OPCODE : Fld := ⟨SNOW_CMD.addr, 0, 8⟩
/-- SNOW_STAT (R307-R309). -/
def SNOW_STAT.addr : Nat := 0x4007000218
def SNOW_STAT.reg : Fld := ⟨SNOW_STAT.addr, 0, 32⟩
def SNOW_STAT.CC : Fld := ⟨SNOW_STAT.addr, 0, 8⟩
def SNOW_STAT.OVERRUN : Fld := ⟨SNOW_STAT.addr, 30, 1⟩
def SNOW_STAT.BUSY : Fld := ⟨SNOW_STAT.addr, 31, 1⟩
/-- SNOW_RXBUF_LO (R307-R309): r below 129. -/
def SNOW_RXBUF_LO.addr (r : Nat) : Nat := 0x4007001000 + 8 * r
def SNOW_RXBUF_LO.reg (r : Nat) : Fld := ⟨(SNOW_RXBUF_LO.addr r), 0, 32⟩
def SNOW_RXBUF_LO.ADDR_LO (r : Nat) : Fld := ⟨(SNOW_RXBUF_LO.addr r), 6, 26⟩
/-- SNOW_RXBUF_HI (R307-R309): r below 129. -/
def SNOW_RXBUF_HI.addr (r : Nat) : Nat := 0x4007001004 + 8 * r
def SNOW_RXBUF_HI.reg (r : Nat) : Fld := ⟨(SNOW_RXBUF_HI.addr r), 0, 32⟩
def SNOW_RXBUF_HI.ADDR_HI (r : Nat) : Fld := ⟨(SNOW_RXBUF_HI.addr r), 0, 8⟩
/-- SNOW_Q_CFG (R307-R309): q below 4096. -/
def SNOW_Q_CFG.addr (q : Nat) : Nat := 0x4007010000 + 16 * q
def SNOW_Q_CFG.reg (q : Nat) : Fld := ⟨(SNOW_Q_CFG.addr q), 0, 32⟩
def SNOW_Q_CFG.QUOTA (q : Nat) : Fld := ⟨(SNOW_Q_CFG.addr q), 0, 18⟩
def SNOW_Q_CFG.KIND (q : Nat) : Fld := ⟨(SNOW_Q_CFG.addr q), 18, 2⟩
def SNOW_Q_CFG.TID (q : Nat) : Fld := ⟨(SNOW_Q_CFG.addr q), 20, 7⟩
/-- SNOW_Q_RES (R307-R309): q below 4096. -/
def SNOW_Q_RES.addr (q : Nat) : Nat := 0x4007010004 + 16 * q
def SNOW_Q_RES.reg (q : Nat) : Fld := ⟨(SNOW_Q_RES.addr q), 0, 32⟩
def SNOW_Q_RES.RESERVE (q : Nat) : Fld := ⟨(SNOW_Q_RES.addr q), 0, 18⟩
/-- SNOW_Q_OCC (R307-R309): q below 4096. -/
def SNOW_Q_OCC.addr (q : Nat) : Nat := 0x4007010008 + 16 * q
def SNOW_Q_OCC.reg (q : Nat) : Fld := ⟨(SNOW_Q_OCC.addr q), 0, 32⟩
def SNOW_Q_OCC.OCC (q : Nat) : Fld := ⟨(SNOW_Q_OCC.addr q), 0, 18⟩
def SNOW_Q_OCC.QUOTA_OVER (q : Nat) : Fld := ⟨(SNOW_Q_OCC.addr q), 18, 1⟩
def SNOW_Q_OCC.GAP_OPEN (q : Nat) : Fld := ⟨(SNOW_Q_OCC.addr q), 19, 1⟩
/-- SNOW_Q_DROP (R307-R309): q below 4096. -/
def SNOW_Q_DROP.addr (q : Nat) : Nat := 0x400701000c + 16 * q
def SNOW_Q_DROP.reg (q : Nat) : Fld := ⟨(SNOW_Q_DROP.addr q), 0, 32⟩
def SNOW_Q_DROP.DROPS (q : Nat) : Fld := ⟨(SNOW_Q_DROP.addr q), 0, 32⟩
/-- PORT_CTRL (R307-R309): n below 6. -/
def PORT_CTRL.addr (n : Nat) : Nat := 0x4008000100 + 64 * n
def PORT_CTRL.reg (n : Nat) : Fld := ⟨(PORT_CTRL.addr n), 0, 32⟩
def PORT_CTRL.EN (n : Nat) : Fld := ⟨(PORT_CTRL.addr n), 0, 1⟩
def PORT_CTRL.PAUSE_RX (n : Nat) : Fld := ⟨(PORT_CTRL.addr n), 1, 1⟩
def PORT_CTRL.PAUSE_TX (n : Nat) : Fld := ⟨(PORT_CTRL.addr n), 2, 1⟩
def PORT_CTRL.PFC_EN (n : Nat) : Fld := ⟨(PORT_CTRL.addr n), 3, 1⟩
def PORT_CTRL.PFC_TX_MASK (n : Nat) : Fld := ⟨(PORT_CTRL.addr n), 4, 8⟩
def PORT_CTRL.DEFPRI (n : Nat) : Fld := ⟨(PORT_CTRL.addr n), 12, 3⟩
def PORT_CTRL.LEARN (n : Nat) : Fld := ⟨(PORT_CTRL.addr n), 15, 1⟩
def PORT_CTRL.MACSEC_EN (n : Nat) : Fld := ⟨(PORT_CTRL.addr n), 16, 1⟩
def PORT_CTRL.MACSEC_STRICT (n : Nat) : Fld := ⟨(PORT_CTRL.addr n), 17, 1⟩
/-- PORT_LINK (R307-R309): n below 6. -/
def PORT_LINK.addr (n : Nat) : Nat := 0x4008000104 + 64 * n
def PORT_LINK.reg (n : Nat) : Fld := ⟨(PORT_LINK.addr n), 0, 32⟩
def PORT_LINK.UP (n : Nat) : Fld := ⟨(PORT_LINK.addr n), 0, 1⟩
def PORT_LINK.SPEED (n : Nat) : Fld := ⟨(PORT_LINK.addr n), 1, 2⟩
def PORT_LINK.PAUSED (n : Nat) : Fld := ⟨(PORT_LINK.addr n), 3, 8⟩
/-- PORT_FC (R307-R309): n below 6. -/
def PORT_FC.addr (n : Nat) : Nat := 0x4008000108 + 64 * n
def PORT_FC.reg (n : Nat) : Fld := ⟨(PORT_FC.addr n), 0, 32⟩
def PORT_FC.XOFF (n : Nat) : Fld := ⟨(PORT_FC.addr n), 0, 16⟩
def PORT_FC.XON (n : Nat) : Fld := ⟨(PORT_FC.addr n), 16, 16⟩
/-- PORT_MISSQ (R307-R309): n below 6. -/
def PORT_MISSQ.addr (n : Nat) : Nat := 0x400800010c + 64 * n
def PORT_MISSQ.reg (n : Nat) : Fld := ⟨(PORT_MISSQ.addr n), 0, 32⟩
def PORT_MISSQ.QUEUE (n : Nat) : Fld := ⟨(PORT_MISSQ.addr n), 0, 12⟩
/-- PORT_RXERR (R307-R309): n below 6. -/
def PORT_RXERR.addr (n : Nat) : Nat := 0x4008000110 + 64 * n
def PORT_RXERR.reg (n : Nat) : Fld := ⟨(PORT_RXERR.addr n), 0, 32⟩
def PORT_RXERR.LEN (n : Nat) : Fld := ⟨(PORT_RXERR.addr n), 0, 12⟩
def PORT_RXERR.FCS (n : Nat) : Fld := ⟨(PORT_RXERR.addr n), 12, 12⟩
def PORT_RXERR.CTRL (n : Nat) : Fld := ⟨(PORT_RXERR.addr n), 24, 8⟩
/-- PORT_MAC_LO (R307-R309): n below 6. -/
def PORT_MAC_LO.addr (n : Nat) : Nat := 0x4008000114 + 64 * n
def PORT_MAC_LO.reg (n : Nat) : Fld := ⟨(PORT_MAC_LO.addr n), 0, 32⟩
def PORT_MAC_LO.MAC_LO (n : Nat) : Fld := ⟨(PORT_MAC_LO.addr n), 0, 32⟩
/-- PORT_MAC_HI (R307-R309): n below 6. -/
def PORT_MAC_HI.addr (n : Nat) : Nat := 0x4008000118 + 64 * n
def PORT_MAC_HI.reg (n : Nat) : Fld := ⟨(PORT_MAC_HI.addr n), 0, 32⟩
def PORT_MAC_HI.MAC_HI (n : Nat) : Fld := ⟨(PORT_MAC_HI.addr n), 0, 16⟩
/-- PORT_SA (R307-R309): n below 6, i below 10. -/
def PORT_SA.addr (n i : Nat) : Nat := 0x4008001000 + 64 * n + 4 * i
def PORT_SA.reg (n i : Nat) : Fld := ⟨(PORT_SA.addr n i), 0, 32⟩
def PORT_SA.VALID (n i : Nat) : Fld := ⟨(PORT_SA.addr n i), 0, 1⟩
def PORT_SA.ACTIVE (n i : Nat) : Fld := ⟨(PORT_SA.addr n i), 1, 1⟩
def PORT_SA.AN (n i : Nat) : Fld := ⟨(PORT_SA.addr n i), 2, 2⟩
def PORT_SA.SLOT (n i : Nat) : Fld := ⟨(PORT_SA.addr n i), 4, 6⟩
def PORT_SA.XPN (n i : Nat) : Fld := ⟨(PORT_SA.addr n i), 10, 1⟩
def PORT_SA.PN_HIGH (n i : Nat) : Fld := ⟨(PORT_SA.addr n i), 11, 1⟩
/-- PORT_KEY (R307-R309). -/
def PORT_KEY.addr : Nat := 0x4008000800
def PORT_KEY.reg : Fld := ⟨PORT_KEY.addr, 0, 32⟩
def PORT_KEY.VALUE : Fld := ⟨PORT_KEY.addr, 0, 32⟩
/-- PORT_DATA0 (R307-R309). -/
def PORT_DATA0.addr : Nat := 0x4008000804
def PORT_DATA0.reg : Fld := ⟨PORT_DATA0.addr, 0, 32⟩
def PORT_DATA0.VALUE : Fld := ⟨PORT_DATA0.addr, 0, 32⟩
/-- PORT_DATA1 (R307-R309). -/
def PORT_DATA1.addr : Nat := 0x4008000808
def PORT_DATA1.reg : Fld := ⟨PORT_DATA1.addr, 0, 32⟩
def PORT_DATA1.VALUE : Fld := ⟨PORT_DATA1.addr, 0, 32⟩
/-- PORT_DATA2 (R307-R309). -/
def PORT_DATA2.addr : Nat := 0x400800080c
def PORT_DATA2.reg : Fld := ⟨PORT_DATA2.addr, 0, 32⟩
def PORT_DATA2.VALUE : Fld := ⟨PORT_DATA2.addr, 0, 32⟩
/-- PORT_DATA3 (R307-R309). -/
def PORT_DATA3.addr : Nat := 0x4008000810
def PORT_DATA3.reg : Fld := ⟨PORT_DATA3.addr, 0, 32⟩
def PORT_DATA3.VALUE : Fld := ⟨PORT_DATA3.addr, 0, 32⟩
/-- PORT_CMD (R307-R309). -/
def PORT_CMD.addr : Nat := 0x4008000814
def PORT_CMD.reg : Fld := ⟨PORT_CMD.addr, 0, 32⟩
def PORT_CMD.OPCODE : Fld := ⟨PORT_CMD.addr, 0, 8⟩
/-- PORT_STAT (R307-R309). -/
def PORT_STAT.addr : Nat := 0x4008000818
def PORT_STAT.reg : Fld := ⟨PORT_STAT.addr, 0, 32⟩
def PORT_STAT.CC : Fld := ⟨PORT_STAT.addr, 0, 8⟩
def PORT_STAT.OVERRUN : Fld := ⟨PORT_STAT.addr, 30, 1⟩
def PORT_STAT.BUSY : Fld := ⟨PORT_STAT.addr, 31, 1⟩
/-- MOR_CTRL (R329). -/
def MOR_CTRL.addr : Nat := 0x4009000100
def MOR_CTRL.reg : Fld := ⟨MOR_CTRL.addr, 0, 32⟩
def MOR_CTRL.EN : Fld := ⟨MOR_CTRL.addr, 0, 1⟩
def MOR_CTRL.AUTO_REBUILD : Fld := ⟨MOR_CTRL.addr, 1, 1⟩
def MOR_CTRL.REBUILD_PCT : Fld := ⟨MOR_CTRL.addr, 8, 8⟩
/-- MOR_STAGE (R329). -/
def MOR_STAGE.addr : Nat := 0x4009000104
def MOR_STAGE.reg : Fld := ⟨MOR_STAGE.addr, 0, 32⟩
def MOR_STAGE.USED : Fld := ⟨MOR_STAGE.addr, 0, 15⟩
/-- MOR_REGION_LO (R329). -/
def MOR_REGION_LO.addr : Nat := 0x4009000108
def MOR_REGION_LO.reg : Fld := ⟨MOR_REGION_LO.addr, 0, 32⟩
def MOR_REGION_LO.BASE_LO : Fld := ⟨MOR_REGION_LO.addr, 31, 1⟩
/-- MOR_REGION_HI (R329). -/
def MOR_REGION_HI.addr : Nat := 0x400900010c
def MOR_REGION_HI.reg : Fld := ⟨MOR_REGION_HI.addr, 0, 32⟩
def MOR_REGION_HI.BASE_HI : Fld := ⟨MOR_REGION_HI.addr, 0, 8⟩
/-- MOR_DRIVE (R329): d below 16. -/
def MOR_DRIVE.addr (d : Nat) : Nat := 0x4009000200 + 4 * d
def MOR_DRIVE.reg (d : Nat) : Fld := ⟨(MOR_DRIVE.addr d), 0, 32⟩
def MOR_DRIVE.PRESENT (d : Nat) : Fld := ⟨(MOR_DRIVE.addr d), 0, 1⟩
def MOR_DRIVE.OWNED (d : Nat) : Fld := ⟨(MOR_DRIVE.addr d), 1, 1⟩
def MOR_DRIVE.FAILED (d : Nat) : Fld := ⟨(MOR_DRIVE.addr d), 2, 1⟩
def MOR_DRIVE.REBUILDING (d : Nat) : Fld := ⟨(MOR_DRIVE.addr d), 3, 1⟩
def MOR_DRIVE.WEAR (d : Nat) : Fld := ⟨(MOR_DRIVE.addr d), 8, 8⟩
def MOR_DRIVE.CAP (d : Nat) : Fld := ⟨(MOR_DRIVE.addr d), 16, 16⟩
/-- MOR_GROUP (R329): g below 2. -/
def MOR_GROUP.addr (g : Nat) : Nat := 0x4009000300 + 4 * g
def MOR_GROUP.reg (g : Nat) : Fld := ⟨(MOR_GROUP.addr g), 0, 32⟩
def MOR_GROUP.DRIVES (g : Nat) : Fld := ⟨(MOR_GROUP.addr g), 0, 4⟩
def MOR_GROUP.LOST (g : Nat) : Fld := ⟨(MOR_GROUP.addr g), 4, 4⟩
def MOR_GROUP.FORMED (g : Nat) : Fld := ⟨(MOR_GROUP.addr g), 8, 1⟩
def MOR_GROUP.DEGRADED (g : Nat) : Fld := ⟨(MOR_GROUP.addr g), 9, 1⟩
def MOR_GROUP.FAILED (g : Nat) : Fld := ⟨(MOR_GROUP.addr g), 10, 1⟩
def MOR_GROUP.FREE (g : Nat) : Fld := ⟨(MOR_GROUP.addr g), 16, 16⟩
/-- MOR_DURABLE (R329): s below 256. -/
def MOR_DURABLE.addr (s : Nat) : Nat := 0x4009001000 + 4 * s
def MOR_DURABLE.reg (s : Nat) : Fld := ⟨(MOR_DURABLE.addr s), 0, 32⟩
def MOR_DURABLE.SEQ (s : Nat) : Fld := ⟨(MOR_DURABLE.addr s), 0, 32⟩
/-- MOR_KEY (R329). -/
def MOR_KEY.addr : Nat := 0x4009000400
def MOR_KEY.reg : Fld := ⟨MOR_KEY.addr, 0, 32⟩
def MOR_KEY.VALUE : Fld := ⟨MOR_KEY.addr, 0, 32⟩
/-- MOR_DATA0 (R329). -/
def MOR_DATA0.addr : Nat := 0x4009000404
def MOR_DATA0.reg : Fld := ⟨MOR_DATA0.addr, 0, 32⟩
def MOR_DATA0.VALUE : Fld := ⟨MOR_DATA0.addr, 0, 32⟩
/-- MOR_DATA1 (R329). -/
def MOR_DATA1.addr : Nat := 0x4009000408
def MOR_DATA1.reg : Fld := ⟨MOR_DATA1.addr, 0, 32⟩
def MOR_DATA1.VALUE : Fld := ⟨MOR_DATA1.addr, 0, 32⟩
/-- MOR_DATA2 (R329). -/
def MOR_DATA2.addr : Nat := 0x400900040c
def MOR_DATA2.reg : Fld := ⟨MOR_DATA2.addr, 0, 32⟩
def MOR_DATA2.VALUE : Fld := ⟨MOR_DATA2.addr, 0, 32⟩
/-- MOR_DATA3 (R329). -/
def MOR_DATA3.addr : Nat := 0x4009000410
def MOR_DATA3.reg : Fld := ⟨MOR_DATA3.addr, 0, 32⟩
def MOR_DATA3.VALUE : Fld := ⟨MOR_DATA3.addr, 0, 32⟩
/-- MOR_CMD (R329). -/
def MOR_CMD.addr : Nat := 0x4009000414
def MOR_CMD.reg : Fld := ⟨MOR_CMD.addr, 0, 32⟩
def MOR_CMD.OPCODE : Fld := ⟨MOR_CMD.addr, 0, 8⟩
/-- MOR_STAT (R329). -/
def MOR_STAT.addr : Nat := 0x4009000418
def MOR_STAT.reg : Fld := ⟨MOR_STAT.addr, 0, 32⟩
def MOR_STAT.CC : Fld := ⟨MOR_STAT.addr, 0, 8⟩
def MOR_STAT.DONE : Fld := ⟨MOR_STAT.addr, 8, 20⟩
def MOR_STAT.TRIMMED : Fld := ⟨MOR_STAT.addr, 28, 1⟩
def MOR_STAT.OVERRUN : Fld := ⟨MOR_STAT.addr, 30, 1⟩
def MOR_STAT.BUSY : Fld := ⟨MOR_STAT.addr, 31, 1⟩
/-- PAIR_CTRL (R354). -/
def PAIR_CTRL.addr : Nat := 0x400a000100
def PAIR_CTRL.reg : Fld := ⟨PAIR_CTRL.addr, 0, 32⟩
def PAIR_CTRL.TAKEOVER_EN : Fld := ⟨PAIR_CTRL.addr, 0, 1⟩
def PAIR_CTRL.REVERT_EN : Fld := ⟨PAIR_CTRL.addr, 1, 1⟩
/-- PAIR_STATUS (R354). -/
def PAIR_STATUS.addr : Nat := 0x400a000104
def PAIR_STATUS.reg : Fld := ⟨PAIR_STATUS.addr, 0, 32⟩
def PAIR_STATUS.PAIRED : Fld := ⟨PAIR_STATUS.addr, 0, 1⟩
def PAIR_STATUS.ROLE : Fld := ⟨PAIR_STATUS.addr, 1, 1⟩
def PAIR_STATUS.HOLD : Fld := ⟨PAIR_STATUS.addr, 2, 1⟩
def PAIR_STATUS.HOLD_IN : Fld := ⟨PAIR_STATUS.addr, 3, 1⟩
def PAIR_STATUS.PEER_ALIVE : Fld := ⟨PAIR_STATUS.addr, 4, 1⟩
def PAIR_STATUS.MIRROR_SYNC : Fld := ⟨PAIR_STATUS.addr, 5, 1⟩
def PAIR_STATUS.COMPAT : Fld := ⟨PAIR_STATUS.addr, 6, 1⟩
def PAIR_STATUS.ROLE_CLASH : Fld := ⟨PAIR_STATUS.addr, 7, 1⟩
def PAIR_STATUS.ILK_OPEN : Fld := ⟨PAIR_STATUS.addr, 8, 1⟩
def PAIR_STATUS.DRILL : Fld := ⟨PAIR_STATUS.addr, 9, 1⟩
def PAIR_STATUS.REVERT_PENDING : Fld := ⟨PAIR_STATUS.addr, 10, 1⟩
/-- PAIR_WDOG (R354). -/
def PAIR_WDOG.addr : Nat := 0x400a000108
def PAIR_WDOG.reg : Fld := ⟨PAIR_WDOG.addr, 0, 32⟩
def PAIR_WDOG.TIMEOUT : Fld := ⟨PAIR_WDOG.addr, 0, 4⟩
def PAIR_WDOG.KICK : Fld := ⟨PAIR_WDOG.addr, 31, 1⟩
/-- PAIR_REVERT (R354). -/
def PAIR_REVERT.addr : Nat := 0x400a00010c
def PAIR_REVERT.reg : Fld := ⟨PAIR_REVERT.addr, 0, 32⟩
def PAIR_REVERT.DELAY : Fld := ⟨PAIR_REVERT.addr, 0, 17⟩
/-- PAIR_DRILL_CFG (R354). -/
def PAIR_DRILL_CFG.addr : Nat := 0x400a000110
def PAIR_DRILL_CFG.reg : Fld := ⟨PAIR_DRILL_CFG.addr, 0, 32⟩
def PAIR_DRILL_CFG.PERIOD : Fld := ⟨PAIR_DRILL_CFG.addr, 0, 9⟩
def PAIR_DRILL_CFG.MINUTE : Fld := ⟨PAIR_DRILL_CFG.addr, 9, 11⟩
def PAIR_DRILL_CFG.DURATION : Fld := ⟨PAIR_DRILL_CFG.addr, 20, 12⟩
/-- PAIR_DRILL_STAT (R354). -/
def PAIR_DRILL_STAT.addr : Nat := 0x400a000114
def PAIR_DRILL_STAT.reg : Fld := ⟨PAIR_DRILL_STAT.addr, 0, 32⟩
def PAIR_DRILL_STAT.FAIL : Fld := ⟨PAIR_DRILL_STAT.addr, 0, 4⟩
def PAIR_DRILL_STAT.PASS : Fld := ⟨PAIR_DRILL_STAT.addr, 4, 1⟩
def PAIR_DRILL_STAT.AGE : Fld := ⟨PAIR_DRILL_STAT.addr, 16, 16⟩
/-- PAIR_MIRROR_LAG (R354). -/
def PAIR_MIRROR_LAG.addr : Nat := 0x400a000118
def PAIR_MIRROR_LAG.reg : Fld := ⟨PAIR_MIRROR_LAG.addr, 0, 32⟩
def PAIR_MIRROR_LAG.LAG : Fld := ⟨PAIR_MIRROR_LAG.addr, 0, 16⟩
/-- PAIR_MREG_LO (R354): r below 16. -/
def PAIR_MREG_LO.addr (r : Nat) : Nat := 0x400a000200 + 16 * r
def PAIR_MREG_LO.reg (r : Nat) : Fld := ⟨(PAIR_MREG_LO.addr r), 0, 32⟩
def PAIR_MREG_LO.BASE_LO (r : Nat) : Fld := ⟨(PAIR_MREG_LO.addr r), 12, 20⟩
/-- PAIR_MREG_HI (R354): r below 16. -/
def PAIR_MREG_HI.addr (r : Nat) : Nat := 0x400a000204 + 16 * r
def PAIR_MREG_HI.reg (r : Nat) : Fld := ⟨(PAIR_MREG_HI.addr r), 0, 32⟩
def PAIR_MREG_HI.BASE_HI (r : Nat) : Fld := ⟨(PAIR_MREG_HI.addr r), 0, 8⟩
/-- PAIR_MREG_SIZE (R354): r below 16. -/
def PAIR_MREG_SIZE.addr (r : Nat) : Nat := 0x400a000208 + 16 * r
def PAIR_MREG_SIZE.reg (r : Nat) : Fld := ⟨(PAIR_MREG_SIZE.addr r), 0, 32⟩
def PAIR_MREG_SIZE.PAGES (r : Nat) : Fld := ⟨(PAIR_MREG_SIZE.addr r), 0, 20⟩
/-- FLOE_CFG (R354). -/
def FLOE_CFG.addr : Nat := 0x400a000180
def FLOE_CFG.reg : Fld := ⟨FLOE_CFG.addr, 0, 32⟩
def FLOE_CFG.INDEX : Fld := ⟨FLOE_CFG.addr, 0, 10⟩
def FLOE_CFG.LEAD_EL : Fld := ⟨FLOE_CFG.addr, 10, 1⟩
/-- FLOE_STATUS (R354). -/
def FLOE_STATUS.addr : Nat := 0x400a000184
def FLOE_STATUS.reg : Fld := ⟨FLOE_STATUS.addr, 0, 32⟩
def FLOE_STATUS.MEMBER : Fld := ⟨FLOE_STATUS.addr, 0, 1⟩
def FLOE_STATUS.LEAD : Fld := ⟨FLOE_STATUS.addr, 1, 1⟩
def FLOE_STATUS.BACKUP : Fld := ⟨FLOE_STATUS.addr, 2, 1⟩
def FLOE_STATUS.SKEW : Fld := ⟨FLOE_STATUS.addr, 3, 1⟩
def FLOE_STATUS.FRAME_SKEW : Fld := ⟨FLOE_STATUS.addr, 4, 1⟩
def FLOE_STATUS.WRAPPED_E : Fld := ⟨FLOE_STATUS.addr, 5, 1⟩
def FLOE_STATUS.WRAPPED_W : Fld := ⟨FLOE_STATUS.addr, 6, 1⟩
def FLOE_STATUS.INDEX_CLASH : Fld := ⟨FLOE_STATUS.addr, 7, 1⟩
def FLOE_STATUS.MEMBERS : Fld := ⟨FLOE_STATUS.addr, 16, 11⟩
/-- FLOE_LEAD (R354). -/
def FLOE_LEAD.addr : Nat := 0x400a000188
def FLOE_LEAD.reg : Fld := ⟨FLOE_LEAD.addr, 0, 32⟩
def FLOE_LEAD.LEAD : Fld := ⟨FLOE_LEAD.addr, 0, 10⟩
def FLOE_LEAD.LEAD_VALID : Fld := ⟨FLOE_LEAD.addr, 10, 1⟩
def FLOE_LEAD.BACKUP : Fld := ⟨FLOE_LEAD.addr, 16, 10⟩
def FLOE_LEAD.BACKUP_VALID : Fld := ⟨FLOE_LEAD.addr, 26, 1⟩
/-- FLOE_TERM (R354). -/
def FLOE_TERM.addr : Nat := 0x400a00018c
def FLOE_TERM.reg : Fld := ⟨FLOE_TERM.addr, 0, 32⟩
def FLOE_TERM.TERM : Fld := ⟨FLOE_TERM.addr, 0, 32⟩
/-- FLOE_CHANGE_ID (R354). -/
def FLOE_CHANGE_ID.addr : Nat := 0x400a000190
def FLOE_CHANGE_ID.reg : Fld := ⟨FLOE_CHANGE_ID.addr, 0, 32⟩
def FLOE_CHANGE_ID.ID : Fld := ⟨FLOE_CHANGE_ID.addr, 0, 32⟩
/-- FLOE_CHANGE (R354). -/
def FLOE_CHANGE.addr : Nat := 0x400a000194
def FLOE_CHANGE.reg : Fld := ⟨FLOE_CHANGE.addr, 0, 32⟩
def FLOE_CHANGE.KIND : Fld := ⟨FLOE_CHANGE.addr, 0, 2⟩
def FLOE_CHANGE.MODE : Fld := ⟨FLOE_CHANGE.addr, 2, 3⟩
def FLOE_CHANGE.STATE : Fld := ⟨FLOE_CHANGE.addr, 8, 3⟩
def FLOE_CHANGE.FRAME : Fld := ⟨FLOE_CHANGE.addr, 16, 16⟩
/-- FLOE_CHANGE_EP_LO (R354). -/
def FLOE_CHANGE_EP_LO.addr : Nat := 0x400a000198
def FLOE_CHANGE_EP_LO.reg : Fld := ⟨FLOE_CHANGE_EP_LO.addr, 0, 32⟩
def FLOE_CHANGE_EP_LO.S_LO : Fld := ⟨FLOE_CHANGE_EP_LO.addr, 0, 32⟩
/-- FLOE_CHANGE_EP_HI (R354). -/
def FLOE_CHANGE_EP_HI.addr : Nat := 0x400a00019c
def FLOE_CHANGE_EP_HI.reg : Fld := ⟨FLOE_CHANGE_EP_HI.addr, 0, 32⟩
def FLOE_CHANGE_EP_HI.S_HI : Fld := ⟨FLOE_CHANGE_EP_HI.addr, 0, 16⟩
/-- FLOE_CHANGE_EP_NS (R354). -/
def FLOE_CHANGE_EP_NS.addr : Nat := 0x400a0001a0
def FLOE_CHANGE_EP_NS.reg : Fld := ⟨FLOE_CHANGE_EP_NS.addr, 0, 32⟩
def FLOE_CHANGE_EP_NS.NS : Fld := ⟨FLOE_CHANGE_EP_NS.addr, 0, 30⟩
/-- FLOE_SKEW_DROP (R354). -/
def FLOE_SKEW_DROP.addr : Nat := 0x400a0001a4
def FLOE_SKEW_DROP.reg : Fld := ⟨FLOE_SKEW_DROP.addr, 0, 32⟩
def FLOE_SKEW_DROP.COUNT : Fld := ⟨FLOE_SKEW_DROP.addr, 0, 32⟩
/-- FLOE_MEMBER (R354): i below 1024. -/
def FLOE_MEMBER.addr (i : Nat) : Nat := 0x400a001000 + 4 * i
def FLOE_MEMBER.reg (i : Nat) : Fld := ⟨(FLOE_MEMBER.addr i), 0, 32⟩
def FLOE_MEMBER.PRESENT (i : Nat) : Fld := ⟨(FLOE_MEMBER.addr i), 0, 1⟩
def FLOE_MEMBER.ACTIVE (i : Nat) : Fld := ⟨(FLOE_MEMBER.addr i), 1, 1⟩
def FLOE_MEMBER.LEAD_EL (i : Nat) : Fld := ⟨(FLOE_MEMBER.addr i), 2, 1⟩
def FLOE_MEMBER.MODE (i : Nat) : Fld := ⟨(FLOE_MEMBER.addr i), 3, 3⟩
def FLOE_MEMBER.HEALTHY (i : Nat) : Fld := ⟨(FLOE_MEMBER.addr i), 6, 1⟩
def FLOE_MEMBER.SKEW (i : Nat) : Fld := ⟨(FLOE_MEMBER.addr i), 7, 1⟩
def FLOE_MEMBER.VIA_W (i : Nat) : Fld := ⟨(FLOE_MEMBER.addr i), 8, 1⟩
def FLOE_MEMBER.HOPS (i : Nat) : Fld := ⟨(FLOE_MEMBER.addr i), 9, 10⟩
/-- PAIR_KEY (R354). -/
def PAIR_KEY.addr : Nat := 0x400a000400
def PAIR_KEY.reg : Fld := ⟨PAIR_KEY.addr, 0, 32⟩
def PAIR_KEY.VALUE : Fld := ⟨PAIR_KEY.addr, 0, 32⟩
/-- PAIR_DATA0 (R354). -/
def PAIR_DATA0.addr : Nat := 0x400a000404
def PAIR_DATA0.reg : Fld := ⟨PAIR_DATA0.addr, 0, 32⟩
def PAIR_DATA0.VALUE : Fld := ⟨PAIR_DATA0.addr, 0, 32⟩
/-- PAIR_DATA1 (R354). -/
def PAIR_DATA1.addr : Nat := 0x400a000408
def PAIR_DATA1.reg : Fld := ⟨PAIR_DATA1.addr, 0, 32⟩
def PAIR_DATA1.VALUE : Fld := ⟨PAIR_DATA1.addr, 0, 32⟩
/-- PAIR_DATA2 (R354). -/
def PAIR_DATA2.addr : Nat := 0x400a00040c
def PAIR_DATA2.reg : Fld := ⟨PAIR_DATA2.addr, 0, 32⟩
def PAIR_DATA2.VALUE : Fld := ⟨PAIR_DATA2.addr, 0, 32⟩
/-- PAIR_CMD (R354). -/
def PAIR_CMD.addr : Nat := 0x400a000410
def PAIR_CMD.reg : Fld := ⟨PAIR_CMD.addr, 0, 32⟩
def PAIR_CMD.OPCODE : Fld := ⟨PAIR_CMD.addr, 0, 8⟩
/-- PAIR_STAT (R354). -/
def PAIR_STAT.addr : Nat := 0x400a000414
def PAIR_STAT.reg : Fld := ⟨PAIR_STAT.addr, 0, 32⟩
def PAIR_STAT.CC : Fld := ⟨PAIR_STAT.addr, 0, 8⟩
def PAIR_STAT.OVERRUN : Fld := ⟨PAIR_STAT.addr, 30, 1⟩
def PAIR_STAT.BUSY : Fld := ⟨PAIR_STAT.addr, 31, 1⟩
/-- SYS_MODE_REQ (R355-R373). -/
def SYS_MODE_REQ.addr : Nat := 0x4000000140
def SYS_MODE_REQ.reg : Fld := ⟨SYS_MODE_REQ.addr, 0, 32⟩
def SYS_MODE_REQ.TARGET : Fld := ⟨SYS_MODE_REQ.addr, 0, 3⟩
def SYS_MODE_REQ.NO_OUT : Fld := ⟨SYS_MODE_REQ.addr, 3, 1⟩
/-- SYS_MODE_RES (R355-R373). -/
def SYS_MODE_RES.addr : Nat := 0x4000000144
def SYS_MODE_RES.reg : Fld := ⟨SYS_MODE_RES.addr, 0, 32⟩
def SYS_MODE_RES.CC : Fld := ⟨SYS_MODE_RES.addr, 0, 8⟩
def SYS_MODE_RES.RESULT : Fld := ⟨SYS_MODE_RES.addr, 8, 3⟩
def SYS_MODE_RES.AUTO : Fld := ⟨SYS_MODE_RES.addr, 11, 1⟩
def SYS_MODE_RES.NO_OUT : Fld := ⟨SYS_MODE_RES.addr, 12, 1⟩
def SYS_MODE_RES.OVERRUN : Fld := ⟨SYS_MODE_RES.addr, 30, 1⟩
def SYS_MODE_RES.BUSY : Fld := ⟨SYS_MODE_RES.addr, 31, 1⟩
/-- SYS_OUT_PERMIT (R355-R373). -/
def SYS_OUT_PERMIT.addr : Nat := 0x4000000148
def SYS_OUT_PERMIT.reg : Fld := ⟨SYS_OUT_PERMIT.addr, 0, 32⟩
def SYS_OUT_PERMIT.NODE : Fld := ⟨SYS_OUT_PERMIT.addr, 0, 1⟩
def SYS_OUT_PERMIT.CTR : Fld := ⟨SYS_OUT_PERMIT.addr, 1, 1⟩
def SYS_OUT_PERMIT.PULSE : Fld := ⟨SYS_OUT_PERMIT.addr, 2, 1⟩
def SYS_OUT_PERMIT.CAN : Fld := ⟨SYS_OUT_PERMIT.addr, 3, 1⟩
/-- SYS_BOOT (R355-R373). -/
def SYS_BOOT.addr : Nat := 0x400000014c
def SYS_BOOT.reg : Fld := ⟨SYS_BOOT.addr, 0, 32⟩
def SYS_BOOT.TARGET : Fld := ⟨SYS_BOOT.addr, 0, 3⟩
def SYS_BOOT.RECOVERY : Fld := ⟨SYS_BOOT.addr, 3, 1⟩
/-- SYS_ISL_CFG (R355-R373). -/
def SYS_ISL_CFG.addr : Nat := 0x4000000150
def SYS_ISL_CFG.reg : Fld := ⟨SYS_ISL_CFG.addr, 0, 32⟩
def SYS_ISL_CFG.AUTO : Fld := ⟨SYS_ISL_CFG.addr, 0, 1⟩
def SYS_ISL_CFG.AUTO_OUT : Fld := ⟨SYS_ISL_CFG.addr, 1, 1⟩
def SYS_ISL_CFG.DELAY : Fld := ⟨SYS_ISL_CFG.addr, 8, 8⟩
/-- SYS_CTR (R355-R373): n below 4. -/
def SYS_CTR.addr (n : Nat) : Nat := 0x4000000160 + 4 * n
def SYS_CTR.reg (n : Nat) : Fld := ⟨(SYS_CTR.addr n), 0, 32⟩
def SYS_CTR.OWN (n : Nat) : Fld := ⟨(SYS_CTR.addr n), 0, 1⟩
def SYS_CTR.CMD (n : Nat) : Fld := ⟨(SYS_CTR.addr n), 1, 1⟩
def SYS_CTR.RIME_OUT (n : Nat) : Fld := ⟨(SYS_CTR.addr n), 2, 1⟩
def SYS_CTR.DRIVE (n : Nat) : Fld := ⟨(SYS_CTR.addr n), 3, 1⟩
def SYS_CTR.FALLBACK (n : Nat) : Fld := ⟨(SYS_CTR.addr n), 4, 1⟩
/-- RIME_CTRL (R403). -/
def RIME_CTRL.addr : Nat := 0x400e000100
def RIME_CTRL.reg : Fld := ⟨RIME_CTRL.addr, 0, 32⟩
def RIME_CTRL.SAMPLE : Fld := ⟨RIME_CTRL.addr, 0, 7⟩
/-- RIME_PWR (R403). -/
def RIME_PWR.addr : Nat := 0x400e000104
def RIME_PWR.reg : Fld := ⟨RIME_PWR.addr, 0, 32⟩
def RIME_PWR.PFW : Fld := ⟨RIME_PWR.addr, 0, 1⟩
def RIME_PWR.FEED_A_OK : Fld := ⟨RIME_PWR.addr, 1, 1⟩
def RIME_PWR.FEED_B_OK : Fld := ⟨RIME_PWR.addr, 2, 1⟩
def RIME_PWR.SCAP_LOW : Fld := ⟨RIME_PWR.addr, 3, 1⟩
def RIME_PWR.COIN_LOW : Fld := ⟨RIME_PWR.addr, 4, 1⟩
/-- RIME_WAKE (R403). -/
def RIME_WAKE.addr : Nat := 0x400e000108
def RIME_WAKE.reg : Fld := ⟨RIME_WAKE.addr, 0, 32⟩
def RIME_WAKE.FEED : Fld := ⟨RIME_WAKE.addr, 0, 1⟩
def RIME_WAKE.EXT : Fld := ⟨RIME_WAKE.addr, 1, 1⟩
def RIME_WAKE.CAUSE : Fld := ⟨RIME_WAKE.addr, 8, 6⟩
def RIME_WAKE.PENDING : Fld := ⟨RIME_WAKE.addr, 14, 1⟩
/-- RIME_RULE_STATE (R403). -/
def RIME_RULE_STATE.addr : Nat := 0x400e000110
def RIME_RULE_STATE.reg : Fld := ⟨RIME_RULE_STATE.addr, 0, 32⟩
def RIME_RULE_STATE.STATE : Fld := ⟨RIME_RULE_STATE.addr, 0, 32⟩
/-- RIME_TAMP (R403). -/
def RIME_TAMP.addr : Nat := 0x400e000120
def RIME_TAMP.reg : Fld := ⟨RIME_TAMP.addr, 0, 32⟩
def RIME_TAMP.C1 : Fld := ⟨RIME_TAMP.addr, 0, 1⟩
def RIME_TAMP.LID : Fld := ⟨RIME_TAMP.addr, 1, 1⟩
def RIME_TAMP.LOOP : Fld := ⟨RIME_TAMP.addr, 2, 1⟩
def RIME_TAMP.LIGHT : Fld := ⟨RIME_TAMP.addr, 3, 1⟩
def RIME_TAMP.C2 : Fld := ⟨RIME_TAMP.addr, 4, 1⟩
def RIME_TAMP.SHIELD : Fld := ⟨RIME_TAMP.addr, 5, 1⟩
def RIME_TAMP.SUPPLY : Fld := ⟨RIME_TAMP.addr, 6, 1⟩
def RIME_TAMP.CLOCK : Fld := ⟨RIME_TAMP.addr, 7, 1⟩
def RIME_TAMP.TEMP : Fld := ⟨RIME_TAMP.addr, 8, 1⟩
/-- RIME_TAMP_CFG (R403). -/
def RIME_TAMP_CFG.addr : Nat := 0x400e000124
def RIME_TAMP_CFG.reg : Fld := ⟨RIME_TAMP_CFG.addr, 0, 32⟩
def RIME_TAMP_CFG.LID_EN : Fld := ⟨RIME_TAMP_CFG.addr, 0, 1⟩
def RIME_TAMP_CFG.LOOP_EN : Fld := ⟨RIME_TAMP_CFG.addr, 1, 1⟩
def RIME_TAMP_CFG.LIGHT_EN : Fld := ⟨RIME_TAMP_CFG.addr, 2, 1⟩
def RIME_TAMP_CFG.LIGHT_TRIP : Fld := ⟨RIME_TAMP_CFG.addr, 4, 12⟩
/-- RIME_IN (R403): i below 16. -/
def RIME_IN.addr (i : Nat) : Nat := 0x400e000200 + 4 * i
def RIME_IN.reg (i : Nat) : Fld := ⟨(RIME_IN.addr i), 0, 32⟩
def RIME_IN.VALUE (i : Nat) : Fld := ⟨(RIME_IN.addr i), 0, 16⟩
/-- RIME_RTC_SUB (R403). -/
def RIME_RTC_SUB.addr : Nat := 0x400e000300
def RIME_RTC_SUB.reg : Fld := ⟨RIME_RTC_SUB.addr, 0, 32⟩
def RIME_RTC_SUB.SUB : Fld := ⟨RIME_RTC_SUB.addr, 0, 15⟩
/-- RIME_RTC_TIME (R403). -/
def RIME_RTC_TIME.addr : Nat := 0x400e000304
def RIME_RTC_TIME.reg : Fld := ⟨RIME_RTC_TIME.addr, 0, 32⟩
def RIME_RTC_TIME.SEC : Fld := ⟨RIME_RTC_TIME.addr, 0, 6⟩
def RIME_RTC_TIME.MIN : Fld := ⟨RIME_RTC_TIME.addr, 8, 6⟩
def RIME_RTC_TIME.HOUR : Fld := ⟨RIME_RTC_TIME.addr, 16, 5⟩
def RIME_RTC_TIME.WDAY : Fld := ⟨RIME_RTC_TIME.addr, 24, 3⟩
/-- RIME_RTC_DATE (R403). -/
def RIME_RTC_DATE.addr : Nat := 0x400e000308
def RIME_RTC_DATE.reg : Fld := ⟨RIME_RTC_DATE.addr, 0, 32⟩
def RIME_RTC_DATE.DAY : Fld := ⟨RIME_RTC_DATE.addr, 0, 5⟩
def RIME_RTC_DATE.MONTH : Fld := ⟨RIME_RTC_DATE.addr, 8, 4⟩
def RIME_RTC_DATE.YEAR : Fld := ⟨RIME_RTC_DATE.addr, 16, 7⟩
/-- RIME_RTC_TRIM (R403). -/
def RIME_RTC_TRIM.addr : Nat := 0x400e00030c
def RIME_RTC_TRIM.reg : Fld := ⟨RIME_RTC_TRIM.addr, 0, 32⟩
def RIME_RTC_TRIM.TRIM : Fld := ⟨RIME_RTC_TRIM.addr, 0, 16⟩
/-- RIME_ALM_T (R403): a below 2. -/
def RIME_ALM_T.addr (a : Nat) : Nat := 0x400e000320 + 8 * a
def RIME_ALM_T.reg (a : Nat) : Fld := ⟨(RIME_ALM_T.addr a), 0, 32⟩
def RIME_ALM_T.SEC (a : Nat) : Fld := ⟨(RIME_ALM_T.addr a), 0, 6⟩
def RIME_ALM_T.SEC_M (a : Nat) : Fld := ⟨(RIME_ALM_T.addr a), 6, 1⟩
def RIME_ALM_T.MIN (a : Nat) : Fld := ⟨(RIME_ALM_T.addr a), 8, 6⟩
def RIME_ALM_T.MIN_M (a : Nat) : Fld := ⟨(RIME_ALM_T.addr a), 14, 1⟩
def RIME_ALM_T.HOUR (a : Nat) : Fld := ⟨(RIME_ALM_T.addr a), 16, 5⟩
def RIME_ALM_T.HOUR_M (a : Nat) : Fld := ⟨(RIME_ALM_T.addr a), 21, 1⟩
def RIME_ALM_T.WDAY (a : Nat) : Fld := ⟨(RIME_ALM_T.addr a), 24, 3⟩
def RIME_ALM_T.WDAY_M (a : Nat) : Fld := ⟨(RIME_ALM_T.addr a), 27, 1⟩
def RIME_ALM_T.WAKE (a : Nat) : Fld := ⟨(RIME_ALM_T.addr a), 30, 1⟩
def RIME_ALM_T.EN (a : Nat) : Fld := ⟨(RIME_ALM_T.addr a), 31, 1⟩
/-- RIME_ALM_D (R403): a below 2. -/
def RIME_ALM_D.addr (a : Nat) : Nat := 0x400e000324 + 8 * a
def RIME_ALM_D.reg (a : Nat) : Fld := ⟨(RIME_ALM_D.addr a), 0, 32⟩
def RIME_ALM_D.DAY (a : Nat) : Fld := ⟨(RIME_ALM_D.addr a), 0, 5⟩
def RIME_ALM_D.DAY_M (a : Nat) : Fld := ⟨(RIME_ALM_D.addr a), 5, 1⟩
def RIME_ALM_D.MONTH (a : Nat) : Fld := ⟨(RIME_ALM_D.addr a), 8, 4⟩
def RIME_ALM_D.MONTH_M (a : Nat) : Fld := ⟨(RIME_ALM_D.addr a), 12, 1⟩
def RIME_ALM_D.YEAR (a : Nat) : Fld := ⟨(RIME_ALM_D.addr a), 16, 7⟩
def RIME_ALM_D.YEAR_M (a : Nat) : Fld := ⟨(RIME_ALM_D.addr a), 23, 1⟩
/-- RIME_RULE (R403): r below 32. -/
def RIME_RULE.addr (r : Nat) : Nat := 0x400e000400 + 16 * r
def RIME_RULE.reg (r : Nat) : Fld := ⟨(RIME_RULE.addr r), 0, 32⟩
def RIME_RULE.INPUT (r : Nat) : Fld := ⟨(RIME_RULE.addr r), 0, 4⟩
def RIME_RULE.FILT (r : Nat) : Fld := ⟨(RIME_RULE.addr r), 4, 1⟩
def RIME_RULE.K (r : Nat) : Fld := ⟨(RIME_RULE.addr r), 5, 3⟩
def RIME_RULE.DIR (r : Nat) : Fld := ⟨(RIME_RULE.addr r), 8, 1⟩
def RIME_RULE.EN (r : Nat) : Fld := ⟨(RIME_RULE.addr r), 9, 1⟩
def RIME_RULE.QUAL (r : Nat) : Fld := ⟨(RIME_RULE.addr r), 10, 5⟩
def RIME_RULE.QUAL_EN (r : Nat) : Fld := ⟨(RIME_RULE.addr r), 15, 1⟩
def RIME_RULE.QUAL_INV (r : Nat) : Fld := ⟨(RIME_RULE.addr r), 16, 1⟩
def RIME_RULE.ACT (r : Nat) : Fld := ⟨(RIME_RULE.addr r), 17, 2⟩
def RIME_RULE.CTR (r : Nat) : Fld := ⟨(RIME_RULE.addr r), 19, 4⟩
def RIME_RULE.WAKE (r : Nat) : Fld := ⟨(RIME_RULE.addr r), 23, 1⟩
def RIME_RULE.LOG (r : Nat) : Fld := ⟨(RIME_RULE.addr r), 24, 1⟩
/-- RIME_RULE_TR (R403): r below 32. -/
def RIME_RULE_TR.addr (r : Nat) : Nat := 0x400e000404 + 16 * r
def RIME_RULE_TR.reg (r : Nat) : Fld := ⟨(RIME_RULE_TR.addr r), 0, 32⟩
def RIME_RULE_TR.TRIP (r : Nat) : Fld := ⟨(RIME_RULE_TR.addr r), 0, 16⟩
def RIME_RULE_TR.RELEASE (r : Nat) : Fld := ⟨(RIME_RULE_TR.addr r), 16, 16⟩
/-- RIME_RULE_DW (R403): r below 32. -/
def RIME_RULE_DW.addr (r : Nat) : Nat := 0x400e000408 + 16 * r
def RIME_RULE_DW.reg (r : Nat) : Fld := ⟨(RIME_RULE_DW.addr r), 0, 32⟩
def RIME_RULE_DW.DWELL (r : Nat) : Fld := ⟨(RIME_RULE_DW.addr r), 0, 16⟩
/-- RIME_ICE_CFG (R403). -/
def RIME_ICE_CFG.addr : Nat := 0x400e000800
def RIME_ICE_CFG.reg : Fld := ⟨RIME_ICE_CFG.addr, 0, 32⟩
def RIME_ICE_CFG.H2 : Fld := ⟨RIME_ICE_CFG.addr, 0, 1⟩
def RIME_ICE_CFG.LOG_RATE : Fld := ⟨RIME_ICE_CFG.addr, 8, 8⟩
/-- RIME_ICE_STAT (R403). -/
def RIME_ICE_STAT.addr : Nat := 0x400e000804
def RIME_ICE_STAT.reg : Fld := ⟨RIME_ICE_STAT.addr, 0, 32⟩
def RIME_ICE_STAT.BUF : Fld := ⟨RIME_ICE_STAT.addr, 0, 10⟩
def RIME_ICE_STAT.FLUSHING : Fld := ⟨RIME_ICE_STAT.addr, 10, 1⟩
def RIME_ICE_STAT.BASE_FULL : Fld := ⟨RIME_ICE_STAT.addr, 11, 1⟩
def RIME_ICE_STAT.LOST : Fld := ⟨RIME_ICE_STAT.addr, 16, 16⟩
/-- RIME_ICE_BASE (R403). -/
def RIME_ICE_BASE.addr : Nat := 0x400e000808
def RIME_ICE_BASE.reg : Fld := ⟨RIME_ICE_BASE.addr, 0, 32⟩
def RIME_ICE_BASE.NEXT : Fld := ⟨RIME_ICE_BASE.addr, 0, 15⟩
/-- RIME_ICE_HEAD (R403). -/
def RIME_ICE_HEAD.addr : Nat := 0x400e00080c
def RIME_ICE_HEAD.reg : Fld := ⟨RIME_ICE_HEAD.addr, 0, 32⟩
def RIME_ICE_HEAD.HEAD : Fld := ⟨RIME_ICE_HEAD.addr, 0, 15⟩
def RIME_ICE_HEAD.WRAPPED : Fld := ⟨RIME_ICE_HEAD.addr, 15, 1⟩
/-- RIME_ICE_SEQ_LO (R403). -/
def RIME_ICE_SEQ_LO.addr : Nat := 0x400e000810
def RIME_ICE_SEQ_LO.reg : Fld := ⟨RIME_ICE_SEQ_LO.addr, 0, 32⟩
def RIME_ICE_SEQ_LO.SEQ : Fld := ⟨RIME_ICE_SEQ_LO.addr, 0, 32⟩
/-- RIME_ICE_SEQ_HI (R403). -/
def RIME_ICE_SEQ_HI.addr : Nat := 0x400e000814
def RIME_ICE_SEQ_HI.reg : Fld := ⟨RIME_ICE_SEQ_HI.addr, 0, 32⟩
def RIME_ICE_SEQ_HI.SEQ : Fld := ⟨RIME_ICE_SEQ_HI.addr, 0, 32⟩
/-- RIME_ICE_CUR (R403). -/
def RIME_ICE_CUR.addr : Nat := 0x400e000818
def RIME_ICE_CUR.reg : Fld := ⟨RIME_ICE_CUR.addr, 0, 32⟩
def RIME_ICE_CUR.INDEX : Fld := ⟨RIME_ICE_CUR.addr, 0, 15⟩
/-- RIME_KEY (R403). -/
def RIME_KEY.addr : Nat := 0x400e000600
def RIME_KEY.reg : Fld := ⟨RIME_KEY.addr, 0, 32⟩
def RIME_KEY.VALUE : Fld := ⟨RIME_KEY.addr, 0, 32⟩
/-- RIME_DATA0 (R403). -/
def RIME_DATA0.addr : Nat := 0x400e000604
def RIME_DATA0.reg : Fld := ⟨RIME_DATA0.addr, 0, 32⟩
def RIME_DATA0.VALUE : Fld := ⟨RIME_DATA0.addr, 0, 32⟩
/-- RIME_DATA1 (R403). -/
def RIME_DATA1.addr : Nat := 0x400e000608
def RIME_DATA1.reg : Fld := ⟨RIME_DATA1.addr, 0, 32⟩
def RIME_DATA1.VALUE : Fld := ⟨RIME_DATA1.addr, 0, 32⟩
/-- RIME_CMD (R403). -/
def RIME_CMD.addr : Nat := 0x400e00060c
def RIME_CMD.reg : Fld := ⟨RIME_CMD.addr, 0, 32⟩
def RIME_CMD.OPCODE : Fld := ⟨RIME_CMD.addr, 0, 8⟩
/-- RIME_STAT (R403). -/
def RIME_STAT.addr : Nat := 0x400e000610
def RIME_STAT.reg : Fld := ⟨RIME_STAT.addr, 0, 32⟩
def RIME_STAT.CC : Fld := ⟨RIME_STAT.addr, 0, 8⟩
def RIME_STAT.OVERRUN : Fld := ⟨RIME_STAT.addr, 30, 1⟩
def RIME_STAT.BUSY : Fld := ⟨RIME_STAT.addr, 31, 1⟩
/-- RIME_ICE_WIN (R403): k below 72. -/
def RIME_ICE_WIN.addr (k : Nat) : Nat := 0x400e001000 + 4 * k
def RIME_ICE_WIN.reg (k : Nat) : Fld := ⟨(RIME_ICE_WIN.addr k), 0, 32⟩
def RIME_ICE_WIN.WORD (k : Nat) : Fld := ⟨(RIME_ICE_WIN.addr k), 0, 32⟩
/-- CRQ_VEC_LO (R435-R437). -/
def CRQ_VEC_LO.addr : Nat := 0x400d000100
def CRQ_VEC_LO.reg : Fld := ⟨CRQ_VEC_LO.addr, 0, 32⟩
def CRQ_VEC_LO.VEC_LO : Fld := ⟨CRQ_VEC_LO.addr, 2, 30⟩
/-- CRQ_VEC_HI (R435-R437). -/
def CRQ_VEC_HI.addr : Nat := 0x400d000104
def CRQ_VEC_HI.reg : Fld := ⟨CRQ_VEC_HI.addr, 0, 32⟩
def CRQ_VEC_HI.VEC_HI : Fld := ⟨CRQ_VEC_HI.addr, 0, 8⟩
/-- CRQ_IRQ_EN (R435-R437). -/
def CRQ_IRQ_EN.addr : Nat := 0x400d000108
def CRQ_IRQ_EN.reg : Fld := ⟨CRQ_IRQ_EN.addr, 0, 32⟩
def CRQ_IRQ_EN.EN : Fld := ⟨CRQ_IRQ_EN.addr, 0, 16⟩
/-- CRQ_THERM (R435-R437). -/
def CRQ_THERM.addr : Nat := 0x400d00010c
def CRQ_THERM.reg : Fld := ⟨CRQ_THERM.addr, 0, 32⟩
def CRQ_THERM.TRIP : Fld := ⟨CRQ_THERM.addr, 0, 8⟩
def CRQ_THERM.RELEASE : Fld := ⟨CRQ_THERM.addr, 8, 8⟩
def CRQ_THERM.DWELL : Fld := ⟨CRQ_THERM.addr, 16, 8⟩
/-- CRQ_SHUT (R435-R437). -/
def CRQ_SHUT.addr : Nat := 0x400d000110
def CRQ_SHUT.reg : Fld := ⟨CRQ_SHUT.addr, 0, 32⟩
def CRQ_SHUT.TRIP : Fld := ⟨CRQ_SHUT.addr, 0, 8⟩
def CRQ_SHUT.DWELL : Fld := ⟨CRQ_SHUT.addr, 8, 8⟩
/-- CRQ_HOT (R435-R437). -/
def CRQ_HOT.addr : Nat := 0x400d000114
def CRQ_HOT.reg : Fld := ⟨CRQ_HOT.addr, 0, 32⟩
def CRQ_HOT.HOT : Fld := ⟨CRQ_HOT.addr, 0, 21⟩
/-- CRQ_MGMT (R435-R437). -/
def CRQ_MGMT.addr : Nat := 0x400d000118
def CRQ_MGMT.reg : Fld := ⟨CRQ_MGMT.addr, 0, 32⟩
def CRQ_MGMT.EN : Fld := ⟨CRQ_MGMT.addr, 0, 1⟩
def CRQ_MGMT.SESSION : Fld := ⟨CRQ_MGMT.addr, 1, 1⟩
def CRQ_MGMT.PORT : Fld := ⟨CRQ_MGMT.addr, 16, 16⟩
/-- MBX_TX (R435): s below 36. -/
def MBX_TX.addr (agent s : Nat) : Nat := mbxBase agent + 0x0 + 4 * s
def MBX_TX.reg (agent s : Nat) : Fld := ⟨(MBX_TX.addr agent s), 0, 32⟩
def MBX_TX.WORD (agent s : Nat) : Fld := ⟨(MBX_TX.addr agent s), 0, 32⟩
/-- MBX_RX (R435): s below 36. -/
def MBX_RX.addr (agent s : Nat) : Nat := mbxBase agent + 0x100 + 4 * s
def MBX_RX.reg (agent s : Nat) : Fld := ⟨(MBX_RX.addr agent s), 0, 32⟩
def MBX_RX.WORD (agent s : Nat) : Fld := ⟨(MBX_RX.addr agent s), 0, 32⟩
/-- MBX_FULL_LO (R435). -/
def MBX_FULL_LO.addr (agent : Nat) : Nat := mbxBase agent + 0x200
def MBX_FULL_LO.reg (agent : Nat) : Fld := ⟨(MBX_FULL_LO.addr agent), 0, 32⟩
def MBX_FULL_LO.FULL (agent : Nat) : Fld := ⟨(MBX_FULL_LO.addr agent), 0, 32⟩
/-- MBX_FULL_HI (R435). -/
def MBX_FULL_HI.addr (agent : Nat) : Nat := mbxBase agent + 0x204
def MBX_FULL_HI.reg (agent : Nat) : Fld := ⟨(MBX_FULL_HI.addr agent), 0, 32⟩
def MBX_FULL_HI.FULL (agent : Nat) : Fld := ⟨(MBX_FULL_HI.addr agent), 0, 4⟩
/-- MBX_EMPTY_LO (R435). -/
def MBX_EMPTY_LO.addr (agent : Nat) : Nat := mbxBase agent + 0x208
def MBX_EMPTY_LO.reg (agent : Nat) : Fld := ⟨(MBX_EMPTY_LO.addr agent), 0, 32⟩
def MBX_EMPTY_LO.EMPTY (agent : Nat) : Fld := ⟨(MBX_EMPTY_LO.addr agent), 0, 32⟩
/-- MBX_EMPTY_HI (R435). -/
def MBX_EMPTY_HI.addr (agent : Nat) : Nat := mbxBase agent + 0x20c
def MBX_EMPTY_HI.reg (agent : Nat) : Fld := ⟨(MBX_EMPTY_HI.addr agent), 0, 32⟩
def MBX_EMPTY_HI.EMPTY (agent : Nat) : Fld := ⟨(MBX_EMPTY_HI.addr agent), 0, 4⟩
/-- MBX_DB (R435). -/
def MBX_DB.addr (agent : Nat) : Nat := mbxBase agent + 0x210
def MBX_DB.reg (agent : Nat) : Fld := ⟨(MBX_DB.addr agent), 0, 32⟩
def MBX_DB.PEND (agent : Nat) : Fld := ⟨(MBX_DB.addr agent), 0, 32⟩
/-- MBX_DB_SET (R435). -/
def MBX_DB_SET.addr (agent : Nat) : Nat := mbxBase agent + 0x214
def MBX_DB_SET.reg (agent : Nat) : Fld := ⟨(MBX_DB_SET.addr agent), 0, 32⟩
def MBX_DB_SET.SET (agent : Nat) : Fld := ⟨(MBX_DB_SET.addr agent), 0, 32⟩
/-- MBX_DBMAP (R435): s below 36. -/
def MBX_DBMAP.addr (agent s : Nat) : Nat := mbxBase agent + 0x300 + 4 * s
def MBX_DBMAP.reg (agent s : Nat) : Fld := ⟨(MBX_DBMAP.addr agent s), 0, 32⟩
def MBX_DBMAP.BIT (agent s : Nat) : Fld := ⟨(MBX_DBMAP.addr agent s), 0, 5⟩
def MBX_DBMAP.EN (agent s : Nat) : Fld := ⟨(MBX_DBMAP.addr agent s), 8, 1⟩
/-- VLT_STATUS (R435-R437). -/
def VLT_STATUS.addr : Nat := 0x400c000100
def VLT_STATUS.reg : Fld := ⟨VLT_STATUS.addr, 0, 32⟩
def VLT_STATUS.PROVISIONED : Fld := ⟨VLT_STATUS.addr, 0, 1⟩
def VLT_STATUS.C1 : Fld := ⟨VLT_STATUS.addr, 1, 1⟩
def VLT_STATUS.C2 : Fld := ⟨VLT_STATUS.addr, 2, 1⟩
def VLT_STATUS.INFLIGHT : Fld := ⟨VLT_STATUS.addr, 8, 5⟩
/-- VLT_NOTIFY (R435-R437). -/
def VLT_NOTIFY.addr : Nat := 0x400c000104
def VLT_NOTIFY.reg : Fld := ⟨VLT_NOTIFY.addr, 0, 32⟩
def VLT_NOTIFY.CORES : Fld := ⟨VLT_NOTIFY.addr, 0, 32⟩
/-- VLT_SLOT (R435-R437): n below 64. -/
def VLT_SLOT.addr (n : Nat) : Nat := 0x400c000200 + 4 * n
def VLT_SLOT.reg (n : Nat) : Fld := ⟨(VLT_SLOT.addr n), 0, 32⟩
def VLT_SLOT.TYPE (n : Nat) : Fld := ⟨(VLT_SLOT.addr n), 0, 4⟩
def VLT_SLOT.USAGE (n : Nat) : Fld := ⟨(VLT_SLOT.addr n), 4, 11⟩
def VLT_SLOT.GEN (n : Nat) : Fld := ⟨(VLT_SLOT.addr n), 16, 16⟩
/-- VLT_W (R435-R437): k below 4. -/
def VLT_W.addr (k : Nat) : Nat := 0x400c000300 + 4 * k
def VLT_W.reg (k : Nat) : Fld := ⟨(VLT_W.addr k), 0, 32⟩
def VLT_W.W (k : Nat) : Fld := ⟨(VLT_W.addr k), 0, 32⟩
/-- VLT_KEY (R435-R437). -/
def VLT_KEY.addr : Nat := 0x400c000400
def VLT_KEY.reg : Fld := ⟨VLT_KEY.addr, 0, 32⟩
def VLT_KEY.VALUE : Fld := ⟨VLT_KEY.addr, 0, 32⟩
/-- VLT_DATA0 (R435-R437). -/
def VLT_DATA0.addr : Nat := 0x400c000404
def VLT_DATA0.reg : Fld := ⟨VLT_DATA0.addr, 0, 32⟩
def VLT_DATA0.VALUE : Fld := ⟨VLT_DATA0.addr, 0, 32⟩
/-- VLT_DATA1 (R435-R437). -/
def VLT_DATA1.addr : Nat := 0x400c000408
def VLT_DATA1.reg : Fld := ⟨VLT_DATA1.addr, 0, 32⟩
def VLT_DATA1.VALUE : Fld := ⟨VLT_DATA1.addr, 0, 32⟩
/-- VLT_DATA2 (R435-R437). -/
def VLT_DATA2.addr : Nat := 0x400c00040c
def VLT_DATA2.reg : Fld := ⟨VLT_DATA2.addr, 0, 32⟩
def VLT_DATA2.VALUE : Fld := ⟨VLT_DATA2.addr, 0, 32⟩
/-- VLT_DATA3 (R435-R437). -/
def VLT_DATA3.addr : Nat := 0x400c000410
def VLT_DATA3.reg : Fld := ⟨VLT_DATA3.addr, 0, 32⟩
def VLT_DATA3.VALUE : Fld := ⟨VLT_DATA3.addr, 0, 32⟩
/-- VLT_CMD (R435-R437). -/
def VLT_CMD.addr : Nat := 0x400c000414
def VLT_CMD.reg : Fld := ⟨VLT_CMD.addr, 0, 32⟩
def VLT_CMD.OPCODE : Fld := ⟨VLT_CMD.addr, 0, 8⟩
/-- VLT_STAT (R435-R437). -/
def VLT_STAT.addr : Nat := 0x400c000418
def VLT_STAT.reg : Fld := ⟨VLT_STAT.addr, 0, 32⟩
def VLT_STAT.CC : Fld := ⟨VLT_STAT.addr, 0, 8⟩
def VLT_STAT.OVERRUN : Fld := ⟨VLT_STAT.addr, 30, 1⟩
def VLT_STAT.BUSY : Fld := ⟨VLT_STAT.addr, 31, 1⟩
/-- ICF_CTRL (R435-R437). -/
def ICF_CTRL.addr : Nat := 0x400f000100
def ICF_CTRL.reg : Fld := ⟨ICF_CTRL.addr, 0, 32⟩
def ICF_CTRL.RELAY_EN : Fld := ⟨ICF_CTRL.addr, 0, 1⟩
def ICF_CTRL.SVN_AUTO : Fld := ⟨ICF_CTRL.addr, 1, 1⟩
def ICF_CTRL.RELAY_RATE : Fld := ⟨ICF_CTRL.addr, 8, 8⟩
def ICF_CTRL.CONFIRM : Fld := ⟨ICF_CTRL.addr, 16, 16⟩
/-- ICF_NOTIFY (R435-R437). -/
def ICF_NOTIFY.addr : Nat := 0x400f000104
def ICF_NOTIFY.reg : Fld := ⟨ICF_NOTIFY.addr, 0, 32⟩
def ICF_NOTIFY.CORES : Fld := ⟨ICF_NOTIFY.addr, 0, 32⟩
/-- ICF_SLOT (R435-R437): s below 3. -/
def ICF_SLOT.addr (s : Nat) : Nat := 0x400f000110 + 8 * s
def ICF_SLOT.reg (s : Nat) : Fld := ⟨(ICF_SLOT.addr s), 0, 32⟩
def ICF_SLOT.STATE (s : Nat) : Fld := ⟨(ICF_SLOT.addr s), 0, 3⟩
def ICF_SLOT.RUNNING (s : Nat) : Fld := ⟨(ICF_SLOT.addr s), 3, 1⟩
def ICF_SLOT.NEXT (s : Nat) : Fld := ⟨(ICF_SLOT.addr s), 4, 1⟩
def ICF_SLOT.FAILS (s : Nat) : Fld := ⟨(ICF_SLOT.addr s), 5, 2⟩
def ICF_SLOT.CONFIRMED (s : Nat) : Fld := ⟨(ICF_SLOT.addr s), 7, 1⟩
def ICF_SLOT.SVN (s : Nat) : Fld := ⟨(ICF_SLOT.addr s), 8, 8⟩
/-- ICF_SLOT_VER (R435-R437): s below 3. -/
def ICF_SLOT_VER.addr (s : Nat) : Nat := 0x400f000114 + 8 * s
def ICF_SLOT_VER.reg (s : Nat) : Fld := ⟨(ICF_SLOT_VER.addr s), 0, 32⟩
def ICF_SLOT_VER.VERSION (s : Nat) : Fld := ⟨(ICF_SLOT_VER.addr s), 0, 32⟩
/-- ICF_AR (R435-R437): k below 2. -/
def ICF_AR.addr (k : Nat) : Nat := 0x400f000130 + 4 * k
def ICF_AR.reg (k : Nat) : Fld := ⟨(ICF_AR.addr k), 0, 32⟩
def ICF_AR.VERSION (k : Nat) : Fld := ⟨(ICF_AR.addr k), 0, 32⟩
/-- ICF_SVN (R435-R437). -/
def ICF_SVN.addr : Nat := 0x400f000138
def ICF_SVN.reg : Fld := ⟨ICF_SVN.addr, 0, 32⟩
def ICF_SVN.COUNT : Fld := ⟨ICF_SVN.addr, 0, 8⟩
/-- ICF_RX (R435-R437). -/
def ICF_RX.addr : Nat := 0x400f000140
def ICF_RX.reg : Fld := ⟨ICF_RX.addr, 0, 32⟩
def ICF_RX.DONE : Fld := ⟨ICF_RX.addr, 0, 12⟩
def ICF_RX.TOTAL : Fld := ⟨ICF_RX.addr, 16, 12⟩
def ICF_RX.SOURCE : Fld := ⟨ICF_RX.addr, 28, 3⟩
def ICF_RX.ACTIVE : Fld := ⟨ICF_RX.addr, 31, 1⟩
/-- ICF_ACT_LO (R435-R437). -/
def ICF_ACT_LO.addr : Nat := 0x400f000148
def ICF_ACT_LO.reg : Fld := ⟨ICF_ACT_LO.addr, 0, 32⟩
def ICF_ACT_LO.S_LO : Fld := ⟨ICF_ACT_LO.addr, 0, 32⟩
/-- ICF_ACT_HI (R435-R437). -/
def ICF_ACT_HI.addr : Nat := 0x400f00014c
def ICF_ACT_HI.reg : Fld := ⟨ICF_ACT_HI.addr, 0, 32⟩
def ICF_ACT_HI.S_HI : Fld := ⟨ICF_ACT_HI.addr, 0, 16⟩
def ICF_ACT_HI.SLOT : Fld := ⟨ICF_ACT_HI.addr, 16, 2⟩
def ICF_ACT_HI.PENDING : Fld := ⟨ICF_ACT_HI.addr, 31, 1⟩
/-- ICF_NODE_LO (R435-R437). -/
def ICF_NODE_LO.addr : Nat := 0x400f000150
def ICF_NODE_LO.reg : Fld := ⟨ICF_NODE_LO.addr, 0, 32⟩
def ICF_NODE_LO.BASE_LO : Fld := ⟨ICF_NODE_LO.addr, 25, 7⟩
/-- ICF_NODE_HI (R435-R437). -/
def ICF_NODE_HI.addr : Nat := 0x400f000154
def ICF_NODE_HI.reg : Fld := ⟨ICF_NODE_HI.addr, 0, 32⟩
def ICF_NODE_HI.BASE_HI : Fld := ⟨ICF_NODE_HI.addr, 0, 8⟩
/-- ICF_KEY (R435-R437). -/
def ICF_KEY.addr : Nat := 0x400f000400
def ICF_KEY.reg : Fld := ⟨ICF_KEY.addr, 0, 32⟩
def ICF_KEY.VALUE : Fld := ⟨ICF_KEY.addr, 0, 32⟩
/-- ICF_DATA0 (R435-R437). -/
def ICF_DATA0.addr : Nat := 0x400f000404
def ICF_DATA0.reg : Fld := ⟨ICF_DATA0.addr, 0, 32⟩
def ICF_DATA0.VALUE : Fld := ⟨ICF_DATA0.addr, 0, 32⟩
/-- ICF_DATA1 (R435-R437). -/
def ICF_DATA1.addr : Nat := 0x400f000408
def ICF_DATA1.reg : Fld := ⟨ICF_DATA1.addr, 0, 32⟩
def ICF_DATA1.VALUE : Fld := ⟨ICF_DATA1.addr, 0, 32⟩
/-- ICF_DATA2 (R435-R437). -/
def ICF_DATA2.addr : Nat := 0x400f00040c
def ICF_DATA2.reg : Fld := ⟨ICF_DATA2.addr, 0, 32⟩
def ICF_DATA2.VALUE : Fld := ⟨ICF_DATA2.addr, 0, 32⟩
/-- ICF_CMD (R435-R437). -/
def ICF_CMD.addr : Nat := 0x400f000410
def ICF_CMD.reg : Fld := ⟨ICF_CMD.addr, 0, 32⟩
def ICF_CMD.OPCODE : Fld := ⟨ICF_CMD.addr, 0, 8⟩
/-- ICF_STAT (R435-R437). -/
def ICF_STAT.addr : Nat := 0x400f000414
def ICF_STAT.reg : Fld := ⟨ICF_STAT.addr, 0, 32⟩
def ICF_STAT.CC : Fld := ⟨ICF_STAT.addr, 0, 8⟩
def ICF_STAT.OVERRUN : Fld := ⟨ICF_STAT.addr, 30, 1⟩
def ICF_STAT.BUSY : Fld := ⟨ICF_STAT.addr, 31, 1⟩
/-- CAN_CTRL (R449): n below 4. -/
def CAN_CTRL.addr (n : Nat) : Nat := 0x400b000100 + 64 * n
def CAN_CTRL.reg (n : Nat) : Fld := ⟨(CAN_CTRL.addr n), 0, 32⟩
def CAN_CTRL.EN (n : Nat) : Fld := ⟨(CAN_CTRL.addr n), 0, 1⟩
def CAN_CTRL.TRIPLE (n : Nat) : Fld := ⟨(CAN_CTRL.addr n), 1, 1⟩
def CAN_CTRL.FD (n : Nat) : Fld := ⟨(CAN_CTRL.addr n), 2, 1⟩
def CAN_CTRL.ACCEPT_ALL (n : Nat) : Fld := ⟨(CAN_CTRL.addr n), 3, 1⟩
def CAN_CTRL.LISTEN (n : Nat) : Fld := ⟨(CAN_CTRL.addr n), 4, 1⟩
def CAN_CTRL.TERM (n : Nat) : Fld := ⟨(CAN_CTRL.addr n), 5, 1⟩
/-- CAN_NBT (R449): n below 4. -/
def CAN_NBT.addr (n : Nat) : Nat := 0x400b000104 + 64 * n
def CAN_NBT.reg (n : Nat) : Fld := ⟨(CAN_NBT.addr n), 0, 32⟩
def CAN_NBT.BRP (n : Nat) : Fld := ⟨(CAN_NBT.addr n), 0, 5⟩
def CAN_NBT.TSEG1 (n : Nat) : Fld := ⟨(CAN_NBT.addr n), 5, 8⟩
def CAN_NBT.TSEG2 (n : Nat) : Fld := ⟨(CAN_NBT.addr n), 13, 7⟩
def CAN_NBT.SJW (n : Nat) : Fld := ⟨(CAN_NBT.addr n), 20, 7⟩
/-- CAN_DBT (R449): n below 4. -/
def CAN_DBT.addr (n : Nat) : Nat := 0x400b000108 + 64 * n
def CAN_DBT.reg (n : Nat) : Fld := ⟨(CAN_DBT.addr n), 0, 32⟩
def CAN_DBT.BRP (n : Nat) : Fld := ⟨(CAN_DBT.addr n), 0, 5⟩
def CAN_DBT.TSEG1 (n : Nat) : Fld := ⟨(CAN_DBT.addr n), 5, 5⟩
def CAN_DBT.TSEG2 (n : Nat) : Fld := ⟨(CAN_DBT.addr n), 10, 4⟩
def CAN_DBT.SJW (n : Nat) : Fld := ⟨(CAN_DBT.addr n), 14, 4⟩
def CAN_DBT.TDC_EN (n : Nat) : Fld := ⟨(CAN_DBT.addr n), 18, 1⟩
def CAN_DBT.TDCO (n : Nat) : Fld := ⟨(CAN_DBT.addr n), 19, 7⟩
/-- CAN_ERR (R449): n below 4. -/
def CAN_ERR.addr (n : Nat) : Nat := 0x400b00010c + 64 * n
def CAN_ERR.reg (n : Nat) : Fld := ⟨(CAN_ERR.addr n), 0, 32⟩
def CAN_ERR.TEC (n : Nat) : Fld := ⟨(CAN_ERR.addr n), 0, 8⟩
def CAN_ERR.REC (n : Nat) : Fld := ⟨(CAN_ERR.addr n), 8, 7⟩
def CAN_ERR.RP (n : Nat) : Fld := ⟨(CAN_ERR.addr n), 15, 1⟩
def CAN_ERR.STATE (n : Nat) : Fld := ⟨(CAN_ERR.addr n), 16, 2⟩
def CAN_ERR.LEC (n : Nat) : Fld := ⟨(CAN_ERR.addr n), 18, 3⟩
/-- CAN_RX_LO (R449): n below 4. -/
def CAN_RX_LO.addr (n : Nat) : Nat := 0x400b000110 + 64 * n
def CAN_RX_LO.reg (n : Nat) : Fld := ⟨(CAN_RX_LO.addr n), 0, 32⟩
def CAN_RX_LO.BASE_LO (n : Nat) : Fld := ⟨(CAN_RX_LO.addr n), 6, 26⟩
/-- CAN_RX_HI (R449): n below 4. -/
def CAN_RX_HI.addr (n : Nat) : Nat := 0x400b000114 + 64 * n
def CAN_RX_HI.reg (n : Nat) : Fld := ⟨(CAN_RX_HI.addr n), 0, 32⟩
def CAN_RX_HI.BASE_HI (n : Nat) : Fld := ⟨(CAN_RX_HI.addr n), 0, 8⟩
/-- CAN_RX_SIZE (R449): n below 4. -/
def CAN_RX_SIZE.addr (n : Nat) : Nat := 0x400b000118 + 64 * n
def CAN_RX_SIZE.reg (n : Nat) : Fld := ⟨(CAN_RX_SIZE.addr n), 0, 32⟩
def CAN_RX_SIZE.SIZE (n : Nat) : Fld := ⟨(CAN_RX_SIZE.addr n), 0, 13⟩
/-- CAN_RX_HEAD (R449): n below 4. -/
def CAN_RX_HEAD.addr (n : Nat) : Nat := 0x400b00011c + 64 * n
def CAN_RX_HEAD.reg (n : Nat) : Fld := ⟨(CAN_RX_HEAD.addr n), 0, 32⟩
def CAN_RX_HEAD.HEAD (n : Nat) : Fld := ⟨(CAN_RX_HEAD.addr n), 0, 12⟩
/-- CAN_RX_TAIL (R449): n below 4. -/
def CAN_RX_TAIL.addr (n : Nat) : Nat := 0x400b000120 + 64 * n
def CAN_RX_TAIL.reg (n : Nat) : Fld := ⟨(CAN_RX_TAIL.addr n), 0, 32⟩
def CAN_RX_TAIL.TAIL (n : Nat) : Fld := ⟨(CAN_RX_TAIL.addr n), 0, 12⟩
/-- CAN_RX_DROP (R449): n below 4. -/
def CAN_RX_DROP.addr (n : Nat) : Nat := 0x400b000124 + 64 * n
def CAN_RX_DROP.reg (n : Nat) : Fld := ⟨(CAN_RX_DROP.addr n), 0, 32⟩
def CAN_RX_DROP.COUNT (n : Nat) : Fld := ⟨(CAN_RX_DROP.addr n), 0, 32⟩
/-- CAN_TXST (R449): n below 4. -/
def CAN_TXST.addr (n : Nat) : Nat := 0x400b000128 + 64 * n
def CAN_TXST.reg (n : Nat) : Fld := ⟨(CAN_TXST.addr n), 0, 32⟩
def CAN_TXST.RESULT (n : Nat) : Fld := ⟨(CAN_TXST.addr n), 0, 3⟩
/-- CAN_TXTKT (R449): n below 4. -/
def CAN_TXTKT.addr (n : Nat) : Nat := 0x400b00012c + 64 * n
def CAN_TXTKT.reg (n : Nat) : Fld := ⟨(CAN_TXTKT.addr n), 0, 32⟩
def CAN_TXTKT.TICKET (n : Nat) : Fld := ⟨(CAN_TXTKT.addr n), 0, 32⟩
/-- CAN_TXCNT (R449): n below 4. -/
def CAN_TXCNT.addr (n : Nat) : Nat := 0x400b000130 + 64 * n
def CAN_TXCNT.reg (n : Nat) : Fld := ⟨(CAN_TXCNT.addr n), 0, 32⟩
def CAN_TXCNT.SENT (n : Nat) : Fld := ⟨(CAN_TXCNT.addr n), 0, 16⟩
def CAN_TXCNT.FAIL (n : Nat) : Fld := ⟨(CAN_TXCNT.addr n), 16, 16⟩
/-- CAN_FLT_ID (R449): n below 4, k below 32. -/
def CAN_FLT_ID.addr (n k : Nat) : Nat := 0x400b001000 + 256 * n + 8 * k
def CAN_FLT_ID.reg (n k : Nat) : Fld := ⟨(CAN_FLT_ID.addr n k), 0, 32⟩
def CAN_FLT_ID.ID (n k : Nat) : Fld := ⟨(CAN_FLT_ID.addr n k), 0, 29⟩
def CAN_FLT_ID.IDE (n k : Nat) : Fld := ⟨(CAN_FLT_ID.addr n k), 29, 1⟩
def CAN_FLT_ID.EN (n k : Nat) : Fld := ⟨(CAN_FLT_ID.addr n k), 31, 1⟩
/-- CAN_FLT_MASK (R449): n below 4, k below 32. -/
def CAN_FLT_MASK.addr (n k : Nat) : Nat := 0x400b001004 + 256 * n + 8 * k
def CAN_FLT_MASK.reg (n k : Nat) : Fld := ⟨(CAN_FLT_MASK.addr n k), 0, 32⟩
def CAN_FLT_MASK.MASK (n k : Nat) : Fld := ⟨(CAN_FLT_MASK.addr n k), 0, 29⟩
/-- CAN_KEY (R449). -/
def CAN_KEY.addr : Nat := 0x400b000400
def CAN_KEY.reg : Fld := ⟨CAN_KEY.addr, 0, 32⟩
def CAN_KEY.VALUE : Fld := ⟨CAN_KEY.addr, 0, 32⟩
/-- CAN_DATA0 (R449). -/
def CAN_DATA0.addr : Nat := 0x400b000404
def CAN_DATA0.reg : Fld := ⟨CAN_DATA0.addr, 0, 32⟩
def CAN_DATA0.VALUE : Fld := ⟨CAN_DATA0.addr, 0, 32⟩
/-- CAN_DATA1 (R449). -/
def CAN_DATA1.addr : Nat := 0x400b000408
def CAN_DATA1.reg : Fld := ⟨CAN_DATA1.addr, 0, 32⟩
def CAN_DATA1.VALUE : Fld := ⟨CAN_DATA1.addr, 0, 32⟩
/-- CAN_DATA2 (R449). -/
def CAN_DATA2.addr : Nat := 0x400b00040c
def CAN_DATA2.reg : Fld := ⟨CAN_DATA2.addr, 0, 32⟩
def CAN_DATA2.VALUE : Fld := ⟨CAN_DATA2.addr, 0, 32⟩
/-- CAN_DATA3 (R449). -/
def CAN_DATA3.addr : Nat := 0x400b000410
def CAN_DATA3.reg : Fld := ⟨CAN_DATA3.addr, 0, 32⟩
def CAN_DATA3.VALUE : Fld := ⟨CAN_DATA3.addr, 0, 32⟩
/-- CAN_CMD (R449). -/
def CAN_CMD.addr : Nat := 0x400b000414
def CAN_CMD.reg : Fld := ⟨CAN_CMD.addr, 0, 32⟩
def CAN_CMD.OPCODE : Fld := ⟨CAN_CMD.addr, 0, 8⟩
/-- CAN_STAT (R449). -/
def CAN_STAT.addr : Nat := 0x400b000418
def CAN_STAT.reg : Fld := ⟨CAN_STAT.addr, 0, 32⟩
def CAN_STAT.CC : Fld := ⟨CAN_STAT.addr, 0, 8⟩
def CAN_STAT.OVERRUN : Fld := ⟨CAN_STAT.addr, 30, 1⟩
def CAN_STAT.BUSY : Fld := ⟨CAN_STAT.addr, 31, 1⟩
/-- CRQ_FAULT (R457). -/
def CRQ_FAULT.addr : Nat := 0x400d000120
def CRQ_FAULT.reg : Fld := ⟨CRQ_FAULT.addr, 0, 32⟩
def CRQ_FAULT.CLASS : Fld := ⟨CRQ_FAULT.addr, 0, 2⟩
def CRQ_FAULT.BUSY : Fld := ⟨CRQ_FAULT.addr, 2, 1⟩
def CRQ_FAULT.CAUSE : Fld := ⟨CRQ_FAULT.addr, 8, 8⟩
def CRQ_FAULT.PENDING : Fld := ⟨CRQ_FAULT.addr, 16, 5⟩
def CRQ_FAULT.DUAL : Fld := ⟨CRQ_FAULT.addr, 21, 1⟩
def CRQ_FAULT.LOST : Fld := ⟨CRQ_FAULT.addr, 22, 8⟩
/-- SYS_COIL (R482): n below 4. -/
def SYS_COIL.addr (n : Nat) : Nat := 0x4000000170 + 4 * n
def SYS_COIL.reg (n : Nat) : Fld := ⟨(SYS_COIL.addr n), 0, 32⟩
def SYS_COIL.CURRENT (n : Nat) : Fld := ⟨(SYS_COIL.addr n), 0, 10⟩
def SYS_COIL.OPEN (n : Nat) : Fld := ⟨(SYS_COIL.addr n), 10, 1⟩
def SYS_COIL.OVER (n : Nat) : Fld := ⟨(SYS_COIL.addr n), 11, 1⟩
def SYS_COIL.NOCOILV (n : Nat) : Fld := ⟨(SYS_COIL.addr n), 12, 1⟩
/-- SYS_FAN (R482). -/
def SYS_FAN.addr : Nat := 0x4000000180
def SYS_FAN.reg : Fld := ⟨SYS_FAN.addr, 0, 32⟩
def SYS_FAN.DUTY : Fld := ⟨SYS_FAN.addr, 0, 8⟩
def SYS_FAN.TRAY : Fld := ⟨SYS_FAN.addr, 8, 1⟩
def SYS_FAN.FAIL : Fld := ⟨SYS_FAN.addr, 9, 3⟩
def SYS_FAN.MINRPM : Fld := ⟨SYS_FAN.addr, 16, 16⟩
/-- SYS_FEED (R482). -/
def SYS_FEED.addr : Nat := 0x4000000184
def SYS_FEED.reg : Fld := ⟨SYS_FEED.addr, 0, 32⟩
def SYS_FEED.IA : Fld := ⟨SYS_FEED.addr, 0, 12⟩
def SYS_FEED.IB : Fld := ⟨SYS_FEED.addr, 16, 12⟩

def regTableSYS0 : List RegDef := [
  ⟨0x4000000000, [], 0x100, [], [(16, 16, .ro), (8, 8, .ro), (0, 8, .ro)]⟩,
  ⟨0x4000000004, [], 0x0, [], [(0, 1, .w1c), (1, 1, .w1c), (2, 1, .w1c), (3, 1, .w1c), (4, 1, .w1c), (5, 1, .w1c), (6, 1, .w1c)]⟩,
  ⟨0x4000000008, [], 0x0, [], [(0, 32, .rw)]⟩,
  ⟨0x400000000c, [], 0x200, [], [(0, 7, .rw), (7, 1, .rw), (9, 1, .rw)]⟩,
  ⟨0x4000000100, [], 0x0, [], [(0, 1, .ro)]⟩,
  ⟨0x4000000104, [], 0x1, [], [(0, 3, .ro)]⟩,
  ⟨0x4000000108, [], 0x0, [], [(0, 1, .ro), (1, 1, .ro), (2, 1, .ro), (3, 1, .ro), (4, 1, .ro), (5, 1, .ro), (6, 1, .ro), (7, 1, .ro), (8, 1, .ro), (9, 1, .ro), (10, 8, .ro), (18, 1, .ro), (19, 1, .ro), (20, 1, .ro), (21, 1, .ro), (22, 1, .ro), (23, 1, .ro), (24, 1, .ro), (25, 1, .ro)]⟩,
  ⟨0x4000000110, [], 0x0, [], [(0, 31, .ro), (31, 1, .wo)]⟩,
  ⟨0x4000000114, [], 0x0, [], [(0, 32, .ros)]⟩,
  ⟨0x4000000118, [], 0x0, [], [(0, 8, .ros), (8, 4, .ros), (30, 1, .w1c), (31, 1, .w1c)]⟩,
  ⟨0x4000000200, [(21, 4)], 0x0, [(0x4000000224, 0x20000000), (0x4000000228, 0x20000000), (0x4000000234, 0x20000000), (0x4000000238, 0x20000000), (0x400000024c, 0x20000000), (0x4000000250, 0x20000000)], [(0, 12, .ro), (16, 12, .ro), (28, 1, .ro), (29, 1, .ro)]⟩,
  ⟨0x4000000140, [], 0x0, [], [(0, 3, .wo), (3, 1, .wo)]⟩]

def regTableSYS1 : List RegDef := [
  ⟨0x4000000144, [], 0x0, [], [(0, 8, .ro), (8, 3, .ro), (11, 1, .ro), (12, 1, .ro), (30, 1, .w1c), (31, 1, .ro)]⟩,
  ⟨0x4000000148, [], 0x0, [], [(0, 1, .rwl), (1, 1, .rwl), (2, 1, .rwl), (3, 1, .rwl)]⟩,
  ⟨0x400000014c, [], 0x2, [], [(0, 3, .rw), (3, 1, .w1s)]⟩,
  ⟨0x4000000150, [], 0xa03, [], [(0, 1, .rw), (1, 1, .rw), (8, 8, .rw)]⟩,
  ⟨0x4000000160, [(4, 4)], 0x0, [], [(0, 1, .rw), (1, 1, .rw), (2, 1, .ro), (3, 1, .ro), (4, 1, .ro)]⟩,
  ⟨0x4000000170, [(4, 4)], 0x0, [], [(0, 10, .ro), (10, 1, .ro), (11, 1, .ro), (12, 1, .ro)]⟩,
  ⟨0x4000000180, [], 0x0, [], [(0, 8, .ro), (8, 1, .ro), (9, 3, .ro), (16, 16, .ro)]⟩,
  ⟨0x4000000184, [], 0x0, [], [(0, 12, .ro), (16, 12, .ro)]⟩]

/-- The register table of block SYS. -/
def regTableSYS : List RegDef := regTableSYS0 ++ regTableSYS1

def regTableLUM0 : List RegDef := [
  ⟨0x4001000000, [], 0x10100, [], [(16, 16, .ro), (8, 8, .ro), (0, 8, .ro)]⟩,
  ⟨0x4001000004, [], 0x0, [], [(0, 1, .w1c), (1, 1, .w1c), (2, 1, .w1c), (3, 1, .w1c)]⟩,
  ⟨0x4001000008, [], 0x0, [], [(0, 32, .rw)]⟩,
  ⟨0x400100000c, [], 0x200, [], [(0, 7, .rw), (7, 1, .rw), (9, 1, .rw)]⟩,
  ⟨0x4001000100, [], 0x0, [], [(0, 7, .ro), (31, 1, .w1c)]⟩,
  ⟨0x4001000200, [(8, 4)], 0x808, [], [(0, 5, .ro), (8, 5, .ro), (13, 1, .ro), (14, 1, .ro)]⟩,
  ⟨0x4001000400, [], 0x0, [], [(0, 32, .rw)]⟩,
  ⟨0x4001000404, [], 0x0, [], [(0, 32, .rw)]⟩,
  ⟨0x4001000408, [], 0x0, [], [(0, 32, .rw)]⟩,
  ⟨0x400100040c, [], 0x0, [], [(0, 8, .wo)]⟩,
  ⟨0x4001000410, [], 0x0, [], [(0, 8, .ro), (30, 1, .w1c), (31, 1, .ro)]⟩,
  ⟨0x4001000500, [], 0x0, [], [(0, 5, .rw), (8, 1, .rw)]⟩]

def regTableLUM1 : List RegDef := [
  ⟨0x4001000600, [(32, 4)], 0x0, [], [(0, 32, .w1c)]⟩,
  ⟨0x4001000680, [(32, 4)], 0x0, [], [(0, 32, .wo)]⟩,
  ⟨0x4001000700, [(32, 8)], 0x0, [], [(0, 32, .ro)]⟩,
  ⟨0x4001000704, [(32, 8)], 0x0, [], [(0, 4, .ro)]⟩,
  ⟨0x4001001000, [(32, 256), (36, 4)], 0x100, [], [(0, 5, .rw), (8, 1, .rw)]⟩,
  ⟨0x4001020000, [(128, 64)], 0x0, [], [(0, 3, .ro), (3, 1, .ro), (4, 1, .rw), (8, 2, .ro)]⟩,
  ⟨0x4001020004, [(128, 64)], 0x0, [], [(0, 32, .ro)]⟩,
  ⟨0x4001020008, [(128, 64)], 0x0, [], [(0, 8, .ro)]⟩,
  ⟨0x400102000c, [(128, 64)], 0x0, [], [(2, 30, .rw)]⟩,
  ⟨0x4001020010, [(128, 64)], 0x0, [], [(0, 8, .rw)]⟩,
  ⟨0x4001020014, [(128, 64)], 0x0, [], [(0, 1, .ro), (1, 1, .w1c), (2, 1, .w1c), (3, 1, .w1c), (4, 1, .ro), (5, 1, .w1c), (8, 16, .ro)]⟩,
  ⟨0x4001020018, [(128, 64)], 0x0, [], [(0, 6, .ro), (8, 16, .ro)]⟩]

def regTableLUM2 : List RegDef := [
  ⟨0x400102001c, [(128, 64)], 0x0, [], [(0, 32, .rw)]⟩,
  ⟨0x4001020020, [(128, 64), (2, 12)], 0x0, [], [(0, 32, .rw)]⟩,
  ⟨0x4001020024, [(128, 64), (2, 12)], 0x0, [], [(0, 32, .rw)]⟩,
  ⟨0x4001020028, [(128, 64), (2, 12)], 0x0, [], [(0, 32, .rw)]⟩,
  ⟨0x4001020038, [(128, 64)], 0x0, [], [(0, 8, .ro), (31, 1, .w1c)]⟩,
  ⟨0x400102003c, [(128, 64)], 0x0, [], [(0, 1, .wo)]⟩]

/-- The register table of block LUM. -/
def regTableLUM : List RegDef := regTableLUM0 ++ regTableLUM1 ++ regTableLUM2

def regTableFIRN0 : List RegDef := [
  ⟨0x4002000000, [], 0x20100, [], [(16, 16, .ro), (8, 8, .ro), (0, 8, .ro)]⟩,
  ⟨0x4002000004, [], 0x0, [], [(0, 1, .w1c), (1, 1, .w1c), (2, 1, .w1c), (3, 1, .w1c), (4, 1, .w1c), (5, 1, .w1c), (6, 1, .w1c), (7, 1, .w1c), (8, 1, .w1c), (9, 1, .w1c), (10, 1, .w1c), (11, 1, .w1c), (12, 1, .w1c), (13, 1, .w1c), (14, 1, .w1c)]⟩,
  ⟨0x4002000008, [], 0x0, [], [(0, 32, .rw)]⟩,
  ⟨0x400200000c, [], 0x200, [], [(0, 7, .rw), (7, 1, .rw), (9, 1, .rw)]⟩,
  ⟨0x4002000100, [], 0x8, [], [(0, 1, .rw), (1, 1, .rw), (2, 1, .rw), (3, 1, .rw), (8, 2, .rw)]⟩,
  ⟨0x4002000104, [], 0x0, [], [(29, 3, .rwl)]⟩,
  ⟨0x4002000108, [], 0x0, [], [(0, 8, .rwl)]⟩,
  ⟨0x4002000110, [], 0x0, [], [(0, 32, .ros)]⟩,
  ⟨0x4002000114, [], 0x0, [], [(0, 32, .ros)]⟩,
  ⟨0x4002000118, [], 0x0, [], [(0, 1, .ro), (1, 1, .ro)]⟩,
  ⟨0x4002000120, [], 0x0, [], [(0, 3, .ro), (3, 1, .ro), (4, 1, .w1c), (5, 1, .w1c), (8, 8, .ro)]⟩,
  ⟨0x4002000124, [], 0x0, [], [(0, 32, .ros)]⟩]

def regTableFIRN1 : List RegDef := [
  ⟨0x4002000128, [], 0x0, [], [(0, 16, .ros)]⟩,
  ⟨0x400200012c, [], 0x0, [], [(0, 32, .ros)]⟩,
  ⟨0x4002000130, [], 0x0, [], [(0, 16, .ros)]⟩,
  ⟨0x4002000134, [], 0x0, [], [(0, 21, .ro)]⟩,
  ⟨0x4002000138, [], 0x0, [], [(0, 19, .ro)]⟩,
  ⟨0x400200013c, [], 0x0, [], [(0, 19, .ro)]⟩,
  ⟨0x4002000140, [], 0x0, [], [(0, 19, .ro)]⟩,
  ⟨0x4002000144, [], 0x0, [], [(0, 32, .ro)]⟩,
  ⟨0x4002000148, [], 0x0, [], [(0, 32, .ro)]⟩,
  ⟨0x4002000150, [], 0x1964, [], [(0, 7, .rw), (8, 7, .rw)]⟩,
  ⟨0x4002000154, [], 0x148020a, [], [(0, 8, .rw), (8, 4, .rw), (16, 12, .rw)]⟩,
  ⟨0x4002000200, [], 0x0, [], [(0, 32, .rw)]⟩]

def regTableFIRN2 : List RegDef := [
  ⟨0x4002000204, [], 0x0, [], [(0, 32, .rw)]⟩,
  ⟨0x4002000208, [], 0x0, [], [(0, 32, .rw)]⟩,
  ⟨0x400200020c, [], 0x0, [], [(0, 32, .rw)]⟩,
  ⟨0x4002000210, [], 0x0, [], [(0, 32, .rw)]⟩,
  ⟨0x4002000214, [], 0x0, [], [(0, 8, .wo)]⟩,
  ⟨0x4002000218, [], 0x0, [], [(0, 8, .ro), (8, 21, .ro), (30, 1, .w1c), (31, 1, .ro)]⟩,
  ⟨0x4002001000, [(256, 4)], 0x64007f, [], [(0, 8, .rw), (8, 8, .rw), (16, 7, .rw)]⟩]

/-- The register table of block FIRN. -/
def regTableFIRN : List RegDef := regTableFIRN0 ++ regTableFIRN1 ++ regTableFIRN2

def regTableSAST0 : List RegDef := [
  ⟨0x4003000000, [], 0x30100, [], [(16, 16, .ro), (8, 8, .ro), (0, 8, .ro)]⟩,
  ⟨0x4003000004, [], 0x0, [], [(0, 1, .w1c), (1, 1, .w1c), (2, 1, .w1c), (3, 1, .w1c), (4, 1, .w1c), (5, 1, .w1c), (6, 1, .w1c), (7, 1, .w1c), (8, 1, .w1c), (9, 1, .w1c), (10, 1, .w1c), (11, 1, .w1c), (12, 1, .w1c), (13, 1, .w1c), (14, 1, .w1c)]⟩,
  ⟨0x4003000008, [], 0x0, [], [(0, 32, .rw)]⟩,
  ⟨0x400300000c, [], 0x200, [], [(0, 7, .rw), (7, 1, .rw), (9, 1, .rw)]⟩,
  ⟨0x4003000100, [], 0x3c, [], [(0, 1, .rw), (1, 1, .rwl), (2, 1, .rw), (3, 1, .rw), (4, 1, .rw), (5, 1, .rw)]⟩,
  ⟨0x4003000104, [], 0x12c, [], [(0, 10, .rw)]⟩,
  ⟨0x4003000108, [], 0x40e109c, [], [(0, 8, .rw), (8, 16, .rw), (24, 8, .rw)]⟩,
  ⟨0x400300010c, [], 0x306, [], [(0, 8, .rw), (8, 4, .rw)]⟩,
  ⟨0x4003000110, [], 0x0, [], [(10, 22, .rw)]⟩,
  ⟨0x4003000114, [], 0x0, [], [(0, 8, .rw)]⟩,
  ⟨0x4003000118, [], 0x0, [], [(0, 16, .ro), (16, 1, .ro), (17, 1, .ro)]⟩,
  ⟨0x400300011c, [], 0x221100, [], [(0, 8, .rw), (8, 8, .rw), (16, 8, .rw)]⟩]

def regTableSAST1 : List RegDef := [
  ⟨0x4003000200, [], 0x0, [], [(0, 32, .rw)]⟩,
  ⟨0x4003000204, [], 0x0, [], [(0, 32, .rw)]⟩,
  ⟨0x4003000208, [], 0x0, [], [(0, 32, .rw)]⟩,
  ⟨0x400300020c, [], 0x0, [], [(0, 32, .rw)]⟩,
  ⟨0x4003000210, [], 0x0, [], [(0, 32, .rw)]⟩,
  ⟨0x4003000214, [], 0x0, [], [(0, 8, .wo)]⟩,
  ⟨0x4003000218, [], 0x0, [], [(0, 8, .ro), (30, 1, .w1c), (31, 1, .ro)]⟩,
  ⟨0x4003000300, [(8, 4)], 0x0, [], [(0, 1, .ro), (4, 4, .ro), (8, 3, .ro), (11, 1, .ro), (12, 1, .ro)]⟩,
  ⟨0x4003000400, [(64, 4)], 0x0, [], [(0, 1, .ro), (1, 1, .ro), (2, 1, .ro), (3, 1, .ro), (4, 4, .ro), (8, 1, .ro), (16, 13, .ro)]⟩,
  ⟨0x4003000500, [(64, 4)], 0x0, [], [(0, 22, .ro), (31, 1, .ro)]⟩,
  ⟨0x4003000600, [(64, 4)], 0x0, [], [(0, 17, .ro), (31, 1, .ro)]⟩,
  ⟨0x4003000700, [(64, 4)], 0x19000, [], [(0, 17, .rw)]⟩]

def regTableSAST2 : List RegDef := [
  ⟨0x4003000800, [(64, 4)], 0x0, [], [(0, 17, .ro)]⟩,
  ⟨0x4003000900, [(64, 4)], 0x0, [], [(0, 32, .ro)]⟩,
  ⟨0x4003004000, [(64, 128), (32, 4)], 0x0, [], [(0, 16, .ro), (16, 16, .ro)]⟩]

/-- The register table of block SAST. -/
def regTableSAST : List RegDef := regTableSAST0 ++ regTableSAST1 ++ regTableSAST2

def regTableMELT0 : List RegDef := [
  ⟨0x4004000000, [], 0x40100, [], [(16, 16, .ro), (8, 8, .ro), (0, 8, .ro)]⟩,
  ⟨0x4004000004, [], 0x0, [], [(0, 1, .w1c), (1, 1, .w1c), (2, 1, .w1c), (3, 1, .w1c), (4, 1, .w1c), (5, 1, .w1c), (6, 1, .w1c), (7, 1, .w1c), (8, 1, .w1c), (9, 1, .w1c), (10, 1, .w1c), (11, 1, .w1c)]⟩,
  ⟨0x4004000008, [], 0x0, [], [(0, 32, .rw)]⟩,
  ⟨0x400400000c, [], 0x200, [], [(0, 7, .rw), (7, 1, .rw), (9, 1, .rw)]⟩,
  ⟨0x4004000100, [], 0xf20, [], [(0, 1, .rw), (1, 1, .rw), (2, 2, .rw), (4, 1, .rw), (5, 1, .rw), (8, 6, .rw)]⟩,
  ⟨0x4004000104, [], 0x0, [], [(23, 9, .rwl)]⟩,
  ⟨0x4004000108, [], 0x0, [], [(0, 8, .rwl)]⟩,
  ⟨0x4004000400, [], 0x0, [], [(0, 32, .rw)]⟩,
  ⟨0x4004000404, [], 0x0, [], [(0, 32, .rw)]⟩,
  ⟨0x4004000408, [], 0x0, [], [(0, 32, .rw)]⟩,
  ⟨0x400400040c, [], 0x0, [], [(0, 8, .wo)]⟩,
  ⟨0x4004000410, [], 0x0, [], [(0, 8, .ro), (30, 1, .w1c), (31, 1, .ro)]⟩]

def regTableMELT1 : List RegDef := [
  ⟨0x4004000500, [(16, 4)], 0x0, [], [(0, 1, .ro), (1, 1, .ro), (2, 3, .ro), (5, 1, .w1c), (16, 16, .ro)]⟩,
  ⟨0x4004001000, [(16, 64), (10, 4)], 0x800000, [], [(0, 24, .rw), (24, 8, .rw)]⟩,
  ⟨0x4004001400, [(16, 8)], 0x0, [], [(0, 32, .rw)]⟩,
  ⟨0x4004001404, [(16, 8)], 0x0, [], [(0, 32, .rw)]⟩,
  ⟨0x4004001500, [(16, 12), (3, 4)], 0x800000, [], [(0, 24, .ro), (31, 1, .ro)]⟩,
  ⟨0x4004002000, [(16, 256), (4, 64), (8, 8)], 0x0, [], [(0, 32, .ros)]⟩,
  ⟨0x4004002004, [(16, 256), (4, 64), (8, 8)], 0x0, [], [(0, 32, .ros)]⟩,
  ⟨0x4004003000, [(16, 64), (4, 16)], 0x0, [], [(0, 32, .ros)]⟩,
  ⟨0x4004003004, [(16, 64), (4, 16)], 0x0, [], [(0, 32, .ros)]⟩,
  ⟨0x4004003008, [(16, 64), (4, 16)], 0x0, [], [(0, 32, .ros)]⟩,
  ⟨0x400400300c, [(16, 64), (4, 16)], 0x0, [], [(0, 32, .ros)]⟩,
  ⟨0x4004003400, [(16, 4)], 0x0, [], [(0, 17, .ro)]⟩]

def regTableMELT2 : List RegDef := [
  ⟨0x4004003800, [(16, 64), (8, 8)], 0x0, [], [(0, 32, .ros)]⟩,
  ⟨0x4004003804, [(16, 64), (8, 8)], 0x0, [], [(0, 32, .ros)]⟩,
  ⟨0x4004003c00, [], 0x0, [], [(0, 32, .ros)]⟩,
  ⟨0x4004003c04, [], 0x0, [], [(0, 16, .ros)]⟩,
  ⟨0x4004003c08, [], 0x0, [], [(0, 1, .ros), (16, 16, .ros)]⟩,
  ⟨0x4004004000, [(16, 8)], 0x10000, [], [(0, 4, .rw), (4, 2, .rw), (6, 4, .rw), (10, 1, .rw), (16, 8, .rw), (31, 1, .w1c)]⟩,
  ⟨0x4004004004, [(16, 8)], 0xf4240, [], [(0, 32, .rw)]⟩,
  ⟨0x4004004100, [(16, 16)], 0x12c, [], [(0, 16, .rw), (16, 16, .rw)]⟩,
  ⟨0x4004004104, [(16, 16)], 0x9600c8, [], [(0, 16, .rw), (16, 16, .rw)]⟩,
  ⟨0x4004004108, [(16, 16)], 0x640002, [], [(0, 8, .rw), (16, 16, .rw)]⟩,
  ⟨0x400400410c, [(16, 16)], 0x0, [], [(0, 1, .ro), (1, 1, .ro), (8, 8, .ro), (16, 16, .ro)]⟩,
  ⟨0x4004004200, [(16, 8)], 0x0, [], [(0, 32, .ros)]⟩]

def regTableMELT3 : List RegDef := [
  ⟨0x4004004204, [(16, 8)], 0x0, [], [(0, 32, .ros)]⟩,
  ⟨0x4004004280, [(16, 8)], 0x0, [], [(0, 32, .ros)]⟩,
  ⟨0x4004004284, [(16, 8)], 0x0, [], [(0, 32, .ros)]⟩,
  ⟨0x4004004300, [(16, 16)], 0x0, [], [(0, 16, .rw), (16, 16, .rw)]⟩,
  ⟨0x4004004304, [(16, 16)], 0x5ffffff, [], [(0, 20, .rw), (20, 4, .rw), (24, 8, .rw)]⟩,
  ⟨0x4004004308, [(16, 16)], 0x0, [], [(0, 20, .ro), (20, 1, .ro)]⟩,
  ⟨0x400400430c, [(16, 16)], 0x0, [], [(0, 20, .ro)]⟩]

/-- The register table of block MELT. -/
def regTableMELT : List RegDef := regTableMELT0 ++ regTableMELT1 ++ regTableMELT2 ++ regTableMELT3

def regTableTIME0 : List RegDef := [
  ⟨0x4005000000, [], 0x50100, [], [(16, 16, .ro), (8, 8, .ro), (0, 8, .ro)]⟩,
  ⟨0x4005000004, [], 0x0, [], [(0, 1, .w1c), (1, 1, .w1c), (2, 1, .w1c), (3, 1, .w1c), (4, 1, .w1c), (5, 1, .w1c), (6, 1, .w1c)]⟩,
  ⟨0x4005000008, [], 0x0, [], [(0, 32, .rw)]⟩,
  ⟨0x400500000c, [], 0x200, [], [(0, 7, .rw), (7, 1, .rw), (9, 1, .rw)]⟩,
  ⟨0x4005000100, [], 0x10001, [], [(0, 1, .rw), (1, 1, .rw), (2, 1, .rw), (3, 1, .rw), (4, 7, .rw), (16, 8, .rw)]⟩,
  ⟨0x4005000104, [], 0x80, [], [(0, 3, .ro), (4, 3, .ro), (7, 1, .ro), (8, 1, .ro), (16, 16, .ro)]⟩,
  ⟨0x4005000108, [], 0x0, [], [(0, 32, .ro)]⟩,
  ⟨0x400500010c, [], 0x0, [], [(0, 32, .ro)]⟩,
  ⟨0x4005000110, [], 0x0, [], [(0, 32, .ros)]⟩,
  ⟨0x4005000114, [], 0x0, [], [(0, 16, .ros)]⟩,
  ⟨0x4005000118, [], 0x0, [], [(0, 30, .ros)]⟩,
  ⟨0x400500011c, [], 0x0, [], [(0, 32, .ros)]⟩]

def regTableTIME1 : List RegDef := [
  ⟨0x4005000120, [], 0x0, [], [(0, 32, .ros)]⟩,
  ⟨0x4005000124, [], 0x0, [], [(0, 16, .rw)]⟩,
  ⟨0x4005000128, [], 0x0, [], [(0, 32, .ro)]⟩,
  ⟨0x4005000200, [], 0x0, [], [(0, 32, .rw)]⟩,
  ⟨0x4005000204, [], 0x0, [], [(0, 32, .rw)]⟩,
  ⟨0x4005000208, [], 0x0, [], [(0, 32, .rw)]⟩,
  ⟨0x400500020c, [], 0x0, [], [(0, 32, .rw)]⟩,
  ⟨0x4005000210, [], 0x0, [], [(0, 8, .wo)]⟩,
  ⟨0x4005000214, [], 0x0, [], [(0, 8, .ro), (30, 1, .w1c), (31, 1, .ro)]⟩,
  ⟨0x4005000300, [(5, 4)], 0x0, [], [(0, 2, .ro), (16, 16, .ro)]⟩,
  ⟨0x4005000320, [(5, 4)], 0x0, [], [(0, 16, .rw)]⟩,
  ⟨0x4005000400, [(20, 8)], 0x0, [], [(0, 16, .ro), (16, 16, .ro)]⟩]

def regTableTIME2 : List RegDef := [
  ⟨0x4005000404, [(20, 8)], 0x0, [], [(0, 9, .ro)]⟩]

/-- The register table of block TIME. -/
def regTableTIME : List RegDef := regTableTIME0 ++ regTableTIME1 ++ regTableTIME2

def regTableSRC0 : List RegDef := [
  ⟨0x4006000000, [], 0x60100, [], [(16, 16, .ro), (8, 8, .ro), (0, 8, .ro)]⟩,
  ⟨0x4006000004, [], 0x0, [], [(0, 1, .w1c), (1, 1, .w1c), (2, 1, .w1c), (3, 1, .w1c), (4, 1, .w1c)]⟩,
  ⟨0x4006000008, [], 0x0, [], [(0, 32, .rw)]⟩,
  ⟨0x400600000c, [], 0x200, [], [(0, 7, .rw), (7, 1, .rw), (9, 1, .rw)]⟩,
  ⟨0x4006000100, [(3, 4)], 0x0, [(0x4006000100, 0x3), (0x4006000108, 0x12c0003)], [(0, 1, .rw), (1, 1, .rw), (4, 12, .rw), (16, 16, .rw)]⟩,
  ⟨0x4006000110, [(3, 4)], 0x0, [], [(0, 19, .ro)]⟩,
  ⟨0x4006000120, [], 0x0, [], [(0, 18, .ro), (18, 2, .ro), (20, 10, .ro), (31, 1, .w1c)]⟩,
  ⟨0x4006000124, [], 0x0, [], [(0, 18, .ro), (18, 2, .ro), (20, 10, .ro), (31, 1, .w1c)]⟩,
  ⟨0x4006000200, [], 0x0, [], [(0, 32, .rw)]⟩,
  ⟨0x4006000204, [], 0x0, [], [(0, 32, .rw)]⟩,
  ⟨0x4006000208, [], 0x0, [], [(0, 32, .rw)]⟩,
  ⟨0x400600020c, [], 0x0, [], [(0, 32, .rw)]⟩]

def regTableSRC1 : List RegDef := [
  ⟨0x4006000210, [], 0x0, [], [(0, 32, .rw)]⟩,
  ⟨0x4006000214, [], 0x0, [], [(0, 32, .rw)]⟩,
  ⟨0x4006000218, [], 0x0, [], [(0, 32, .rw)]⟩,
  ⟨0x400600021c, [], 0x0, [], [(0, 32, .rw)]⟩,
  ⟨0x4006000220, [], 0x0, [], [(0, 32, .rw)]⟩,
  ⟨0x4006000224, [], 0x0, [], [(0, 32, .rw)]⟩,
  ⟨0x4006000228, [], 0x0, [], [(0, 8, .wo)]⟩,
  ⟨0x400600022c, [], 0x0, [], [(0, 8, .ro), (8, 18, .ro), (30, 1, .w1c), (31, 1, .ro)]⟩]

/-- The register table of block SRC. -/
def regTableSRC : List RegDef := regTableSRC0 ++ regTableSRC1

def regTableSNOW0 : List RegDef := [
  ⟨0x4007000000, [], 0x70100, [], [(16, 16, .ro), (8, 8, .ro), (0, 8, .ro)]⟩,
  ⟨0x4007000004, [], 0x0, [], [(0, 1, .w1c), (1, 1, .w1c), (2, 1, .w1c), (3, 1, .w1c), (4, 1, .w1c)]⟩,
  ⟨0x4007000008, [], 0x0, [], [(0, 32, .rw)]⟩,
  ⟨0x400700000c, [], 0x200, [], [(0, 7, .rw), (7, 1, .rw), (9, 1, .rw)]⟩,
  ⟨0x4007000100, [], 0x2f000, [], [(0, 18, .ro)]⟩,
  ⟨0x4007000104, [], 0x2f000, [], [(0, 18, .ro)]⟩,
  ⟨0x4007000108, [], 0x5ee, [], [(0, 14, .ro)]⟩,
  ⟨0x400700010c, [], 0x2000, [], [(0, 18, .rw)]⟩,
  ⟨0x4007000200, [], 0x0, [], [(0, 32, .rw)]⟩,
  ⟨0x4007000204, [], 0x0, [], [(0, 32, .rw)]⟩,
  ⟨0x4007000208, [], 0x0, [], [(0, 32, .rw)]⟩,
  ⟨0x400700020c, [], 0x0, [], [(0, 32, .rw)]⟩]

def regTableSNOW1 : List RegDef := [
  ⟨0x4007000210, [], 0x0, [], [(0, 32, .rw)]⟩,
  ⟨0x4007000214, [], 0x0, [], [(0, 8, .wo)]⟩,
  ⟨0x4007000218, [], 0x0, [], [(0, 8, .ro), (30, 1, .w1c), (31, 1, .ro)]⟩,
  ⟨0x4007001000, [(129, 8)], 0x0, [], [(6, 26, .rw)]⟩,
  ⟨0x4007001004, [(129, 8)], 0x0, [], [(0, 8, .rw)]⟩,
  ⟨0x4007010000, [(4096, 16)], 0x0, [], [(0, 18, .ro), (18, 2, .ro), (20, 7, .ro)]⟩,
  ⟨0x4007010004, [(4096, 16)], 0x0, [], [(0, 18, .ro)]⟩,
  ⟨0x4007010008, [(4096, 16)], 0x0, [], [(0, 18, .ro), (18, 1, .ro), (19, 1, .ro)]⟩,
  ⟨0x400701000c, [(4096, 16)], 0x0, [], [(0, 32, .ro)]⟩]

/-- The register table of block SNOW. -/
def regTableSNOW : List RegDef := regTableSNOW0 ++ regTableSNOW1

def regTablePORT0 : List RegDef := [
  ⟨0x4008000000, [], 0x80100, [], [(16, 16, .ro), (8, 8, .ro), (0, 8, .ro)]⟩,
  ⟨0x4008000004, [], 0x0, [], [(0, 1, .w1c), (1, 1, .w1c), (2, 1, .w1c), (3, 1, .w1c), (4, 1, .w1c)]⟩,
  ⟨0x4008000008, [], 0x0, [], [(0, 32, .rw)]⟩,
  ⟨0x400800000c, [], 0x200, [], [(0, 7, .rw), (7, 1, .rw), (9, 1, .rw)]⟩,
  ⟨0x4008000100, [(6, 64)], 0x8000, [(0x4008000240, 0x1)], [(0, 1, .rw), (1, 1, .rw), (2, 1, .rw), (3, 1, .rw), (4, 8, .rw), (12, 3, .rw), (15, 1, .rw), (16, 1, .rw), (17, 1, .rw)]⟩,
  ⟨0x4008000104, [(6, 64)], 0x0, [], [(0, 1, .ro), (1, 2, .ro), (3, 8, .ro)]⟩,
  ⟨0x4008000108, [(6, 64)], 0x8000400, [], [(0, 16, .rw), (16, 16, .rw)]⟩,
  ⟨0x400800010c, [(6, 64)], 0x0, [], [(0, 12, .rw)]⟩,
  ⟨0x4008000110, [(6, 64)], 0x0, [], [(0, 12, .ro), (12, 12, .ro), (24, 8, .ro)]⟩,
  ⟨0x4008000114, [(6, 64)], 0x0, [], [(0, 32, .rw)]⟩,
  ⟨0x4008000118, [(6, 64)], 0x0, [], [(0, 16, .rw)]⟩,
  ⟨0x4008001000, [(6, 64), (10, 4)], 0x0, [], [(0, 1, .ro), (1, 1, .ro), (2, 2, .ro), (4, 6, .ro), (10, 1, .ro), (11, 1, .ro)]⟩]

def regTablePORT1 : List RegDef := [
  ⟨0x4008000800, [], 0x0, [], [(0, 32, .rw)]⟩,
  ⟨0x4008000804, [], 0x0, [], [(0, 32, .rw)]⟩,
  ⟨0x4008000808, [], 0x0, [], [(0, 32, .rw)]⟩,
  ⟨0x400800080c, [], 0x0, [], [(0, 32, .rw)]⟩,
  ⟨0x4008000810, [], 0x0, [], [(0, 32, .rw)]⟩,
  ⟨0x4008000814, [], 0x0, [], [(0, 8, .wo)]⟩,
  ⟨0x4008000818, [], 0x0, [], [(0, 8, .ro), (30, 1, .w1c), (31, 1, .ro)]⟩]

/-- The register table of block PORT. -/
def regTablePORT : List RegDef := regTablePORT0 ++ regTablePORT1

def regTableMOR0 : List RegDef := [
  ⟨0x4009000000, [], 0x90100, [], [(16, 16, .ro), (8, 8, .ro), (0, 8, .ro)]⟩,
  ⟨0x4009000004, [], 0x0, [], [(0, 1, .w1c), (1, 1, .w1c), (2, 1, .w1c), (3, 1, .w1c), (4, 1, .w1c), (5, 1, .w1c), (6, 1, .w1c), (7, 1, .w1c)]⟩,
  ⟨0x4009000008, [], 0x0, [], [(0, 32, .rw)]⟩,
  ⟨0x400900000c, [], 0x200, [], [(0, 7, .rw), (7, 1, .rw), (9, 1, .rw)]⟩,
  ⟨0x4009000100, [], 0xa02, [], [(0, 1, .rw), (1, 1, .rw), (8, 8, .rw)]⟩,
  ⟨0x4009000104, [], 0x0, [], [(0, 15, .ro)]⟩,
  ⟨0x4009000108, [], 0x0, [], [(31, 1, .rwl)]⟩,
  ⟨0x400900010c, [], 0x0, [], [(0, 8, .rwl)]⟩,
  ⟨0x4009000200, [(16, 4)], 0x0, [], [(0, 1, .ro), (1, 1, .ro), (2, 1, .ro), (3, 1, .ro), (8, 8, .ro), (16, 16, .ro)]⟩,
  ⟨0x4009000300, [(2, 4)], 0x0, [], [(0, 4, .ro), (4, 4, .ro), (8, 1, .ro), (9, 1, .ro), (10, 1, .ro), (16, 16, .ro)]⟩,
  ⟨0x4009001000, [(256, 4)], 0x0, [], [(0, 32, .ro)]⟩,
  ⟨0x4009000400, [], 0x0, [], [(0, 32, .rw)]⟩]

def regTableMOR1 : List RegDef := [
  ⟨0x4009000404, [], 0x0, [], [(0, 32, .rw)]⟩,
  ⟨0x4009000408, [], 0x0, [], [(0, 32, .rw)]⟩,
  ⟨0x400900040c, [], 0x0, [], [(0, 32, .rw)]⟩,
  ⟨0x4009000410, [], 0x0, [], [(0, 32, .rw)]⟩,
  ⟨0x4009000414, [], 0x0, [], [(0, 8, .wo)]⟩,
  ⟨0x4009000418, [], 0x0, [], [(0, 8, .ro), (8, 20, .ro), (28, 1, .ro), (30, 1, .w1c), (31, 1, .ro)]⟩]

/-- The register table of block MOR. -/
def regTableMOR : List RegDef := regTableMOR0 ++ regTableMOR1

def regTablePAIR0 : List RegDef := [
  ⟨0x400a000000, [], 0xa0100, [], [(16, 16, .ro), (8, 8, .ro), (0, 8, .ro)]⟩,
  ⟨0x400a000004, [], 0x0, [], [(0, 1, .w1c), (1, 1, .w1c), (2, 1, .w1c), (3, 1, .w1c), (4, 1, .w1c), (5, 1, .w1c), (6, 1, .w1c), (7, 1, .w1c), (8, 1, .w1c), (9, 1, .w1c), (10, 1, .w1c), (11, 1, .w1c), (12, 1, .w1c), (13, 1, .w1c), (14, 1, .w1c), (15, 1, .w1c), (16, 1, .w1c), (17, 1, .w1c)]⟩,
  ⟨0x400a000008, [], 0x0, [], [(0, 32, .rw)]⟩,
  ⟨0x400a00000c, [], 0x200, [], [(0, 7, .rw), (7, 1, .rw), (9, 1, .rw)]⟩,
  ⟨0x400a000100, [], 0x3, [], [(0, 1, .rw), (1, 1, .rw)]⟩,
  ⟨0x400a000104, [], 0x0, [], [(0, 1, .ro), (1, 1, .ro), (2, 1, .ro), (3, 1, .ro), (4, 1, .ro), (5, 1, .ro), (6, 1, .ro), (7, 1, .ro), (8, 1, .ro), (9, 1, .ro), (10, 1, .ro)]⟩,
  ⟨0x400a000108, [], 0x8, [], [(0, 4, .rw), (31, 1, .wo)]⟩,
  ⟨0x400a00010c, [], 0x12c, [], [(0, 17, .rw)]⟩,
  ⟨0x400a000110, [], 0x3c1681e, [], [(0, 9, .rw), (9, 11, .rw), (20, 12, .rw)]⟩,
  ⟨0x400a000114, [], 0x0, [], [(0, 4, .ro), (4, 1, .ro), (16, 16, .ro)]⟩,
  ⟨0x400a000118, [], 0x0, [], [(0, 16, .ro)]⟩,
  ⟨0x400a000200, [(16, 16)], 0x0, [], [(12, 20, .rw)]⟩]

def regTablePAIR1 : List RegDef := [
  ⟨0x400a000204, [(16, 16)], 0x0, [], [(0, 8, .rw)]⟩,
  ⟨0x400a000208, [(16, 16)], 0x0, [], [(0, 20, .rw)]⟩,
  ⟨0x400a000180, [], 0x0, [], [(0, 10, .rwl), (10, 1, .rwl)]⟩,
  ⟨0x400a000184, [], 0x0, [], [(0, 1, .ro), (1, 1, .ro), (2, 1, .ro), (3, 1, .ro), (4, 1, .ro), (5, 1, .ro), (6, 1, .ro), (7, 1, .ro), (16, 11, .ro)]⟩,
  ⟨0x400a000188, [], 0x0, [], [(0, 10, .ro), (10, 1, .ro), (16, 10, .ro), (26, 1, .ro)]⟩,
  ⟨0x400a00018c, [], 0x0, [], [(0, 32, .ro)]⟩,
  ⟨0x400a000190, [], 0x0, [], [(0, 32, .ro)]⟩,
  ⟨0x400a000194, [], 0x0, [], [(0, 2, .ro), (2, 3, .ro), (8, 3, .ro), (16, 16, .ro)]⟩,
  ⟨0x400a000198, [], 0x0, [], [(0, 32, .ros)]⟩,
  ⟨0x400a00019c, [], 0x0, [], [(0, 16, .ros)]⟩,
  ⟨0x400a0001a0, [], 0x0, [], [(0, 30, .ros)]⟩,
  ⟨0x400a0001a4, [], 0x0, [], [(0, 32, .ro)]⟩]

def regTablePAIR2 : List RegDef := [
  ⟨0x400a001000, [(1024, 4)], 0x0, [], [(0, 1, .ro), (1, 1, .ro), (2, 1, .ro), (3, 3, .ro), (6, 1, .ro), (7, 1, .ro), (8, 1, .ro), (9, 10, .ro)]⟩,
  ⟨0x400a000400, [], 0x0, [], [(0, 32, .rw)]⟩,
  ⟨0x400a000404, [], 0x0, [], [(0, 32, .rw)]⟩,
  ⟨0x400a000408, [], 0x0, [], [(0, 32, .rw)]⟩,
  ⟨0x400a00040c, [], 0x0, [], [(0, 32, .rw)]⟩,
  ⟨0x400a000410, [], 0x0, [], [(0, 8, .wo)]⟩,
  ⟨0x400a000414, [], 0x0, [], [(0, 8, .ro), (30, 1, .w1c), (31, 1, .ro)]⟩]

/-- The register table of block PAIR. -/
def regTablePAIR : List RegDef := regTablePAIR0 ++ regTablePAIR1 ++ regTablePAIR2

def regTableCAN0 : List RegDef := [
  ⟨0x400b000000, [], 0xb0100, [], [(16, 16, .ro), (8, 8, .ro), (0, 8, .ro)]⟩,
  ⟨0x400b000004, [], 0x0, [], [(0, 1, .w1c), (1, 4, .w1c), (5, 4, .w1c), (9, 4, .w1c), (13, 4, .w1c), (17, 4, .w1c)]⟩,
  ⟨0x400b000008, [], 0x0, [], [(0, 32, .rw)]⟩,
  ⟨0x400b00000c, [], 0x200, [], [(0, 7, .rw), (7, 1, .rw), (9, 1, .rw)]⟩,
  ⟨0x400b000100, [(4, 64)], 0x0, [], [(0, 1, .rw), (1, 1, .rwl), (2, 1, .rwl), (3, 1, .rw), (4, 1, .rwl), (5, 1, .rw)]⟩,
  ⟨0x400b000104, [(4, 64)], 0x31e7c7, [], [(0, 5, .rwl), (5, 8, .rwl), (13, 7, .rwl), (20, 7, .rwl)]⟩,
  ⟨0x400b000108, [(4, 64)], 0x0, [], [(0, 5, .rwl), (5, 5, .rwl), (10, 4, .rwl), (14, 4, .rwl), (18, 1, .rwl), (19, 7, .rwl)]⟩,
  ⟨0x400b00010c, [(4, 64)], 0x0, [], [(0, 8, .ro), (8, 7, .ro), (15, 1, .ro), (16, 2, .ro), (18, 3, .ro)]⟩,
  ⟨0x400b000110, [(4, 64)], 0x0, [], [(6, 26, .rwl)]⟩,
  ⟨0x400b000114, [(4, 64)], 0x0, [], [(0, 8, .rwl)]⟩,
  ⟨0x400b000118, [(4, 64)], 0x0, [], [(0, 13, .rwl)]⟩,
  ⟨0x400b00011c, [(4, 64)], 0x0, [], [(0, 12, .ro)]⟩]

def regTableCAN1 : List RegDef := [
  ⟨0x400b000120, [(4, 64)], 0x0, [], [(0, 12, .rw)]⟩,
  ⟨0x400b000124, [(4, 64)], 0x0, [], [(0, 32, .ro)]⟩,
  ⟨0x400b000128, [(4, 64)], 0x0, [], [(0, 3, .ros)]⟩,
  ⟨0x400b00012c, [(4, 64)], 0x0, [], [(0, 32, .ros)]⟩,
  ⟨0x400b000130, [(4, 64)], 0x0, [], [(0, 16, .ro), (16, 16, .ro)]⟩,
  ⟨0x400b001000, [(4, 256), (32, 8)], 0x0, [], [(0, 29, .rw), (29, 1, .rw), (31, 1, .rw)]⟩,
  ⟨0x400b001004, [(4, 256), (32, 8)], 0x0, [], [(0, 29, .rw)]⟩,
  ⟨0x400b000400, [], 0x0, [], [(0, 32, .rw)]⟩,
  ⟨0x400b000404, [], 0x0, [], [(0, 32, .rw)]⟩,
  ⟨0x400b000408, [], 0x0, [], [(0, 32, .rw)]⟩,
  ⟨0x400b00040c, [], 0x0, [], [(0, 32, .rw)]⟩,
  ⟨0x400b000410, [], 0x0, [], [(0, 32, .rw)]⟩]

def regTableCAN2 : List RegDef := [
  ⟨0x400b000414, [], 0x0, [], [(0, 8, .wo)]⟩,
  ⟨0x400b000418, [], 0x0, [], [(0, 8, .ro), (30, 1, .w1c), (31, 1, .ro)]⟩]

/-- The register table of block CAN. -/
def regTableCAN : List RegDef := regTableCAN0 ++ regTableCAN1 ++ regTableCAN2

def regTableVLT0 : List RegDef := [
  ⟨0x400c000000, [], 0xc0100, [], [(16, 16, .ro), (8, 8, .ro), (0, 8, .ro)]⟩,
  ⟨0x400c000004, [], 0x0, [], [(0, 1, .w1c), (1, 1, .w1c), (2, 1, .w1c), (3, 1, .w1c), (4, 1, .w1c), (5, 1, .ro), (6, 1, .ro)]⟩,
  ⟨0x400c000008, [], 0x0, [], [(0, 32, .rw)]⟩,
  ⟨0x400c00000c, [], 0x200, [], [(0, 7, .rw), (7, 1, .rw), (9, 1, .rw)]⟩,
  ⟨0x400c000800, [(36, 4)], 0x0, [], [(0, 32, .wo)]⟩,
  ⟨0x400c000900, [(36, 4)], 0x0, [], [(0, 32, .ro)]⟩,
  ⟨0x400c000a00, [], 0x0, [], [(0, 32, .ro)]⟩,
  ⟨0x400c000a04, [], 0x0, [], [(0, 4, .ro)]⟩,
  ⟨0x400c000a08, [], 0x0, [], [(0, 32, .w1c)]⟩,
  ⟨0x400c000a0c, [], 0x0, [], [(0, 4, .w1c)]⟩,
  ⟨0x400c000a10, [], 0x0, [], [(0, 32, .w1c)]⟩,
  ⟨0x400c000a14, [], 0x0, [], [(0, 32, .wo)]⟩]

def regTableVLT1 : List RegDef := [
  ⟨0x400c000b00, [(36, 4)], 0x100, [], [(0, 5, .rw), (8, 1, .rw)]⟩,
  ⟨0x400c000100, [], 0x0, [], [(0, 1, .ro), (1, 1, .ro), (2, 1, .ro), (8, 5, .ro)]⟩,
  ⟨0x400c000104, [], 0x0, [], [(0, 32, .rw)]⟩,
  ⟨0x400c000200, [(64, 4)], 0x0, [], [(0, 4, .ro), (4, 11, .ro), (16, 16, .ro)]⟩,
  ⟨0x400c000300, [(4, 4)], 0x0, [], [(0, 32, .rw)]⟩,
  ⟨0x400c000400, [], 0x0, [], [(0, 32, .rw)]⟩,
  ⟨0x400c000404, [], 0x0, [], [(0, 32, .rw)]⟩,
  ⟨0x400c000408, [], 0x0, [], [(0, 32, .rw)]⟩,
  ⟨0x400c00040c, [], 0x0, [], [(0, 32, .rw)]⟩,
  ⟨0x400c000410, [], 0x0, [], [(0, 32, .rw)]⟩,
  ⟨0x400c000414, [], 0x0, [], [(0, 8, .wo)]⟩,
  ⟨0x400c000418, [], 0x0, [], [(0, 8, .ro), (30, 1, .w1c), (31, 1, .ro)]⟩]

/-- The register table of block VLT. -/
def regTableVLT : List RegDef := regTableVLT0 ++ regTableVLT1

def regTableCRQ0 : List RegDef := [
  ⟨0x400d000000, [], 0xd0100, [], [(16, 16, .ro), (8, 8, .ro), (0, 8, .ro)]⟩,
  ⟨0x400d000004, [], 0x0, [], [(0, 1, .w1c), (1, 1, .w1c), (2, 1, .w1c), (3, 1, .w1c), (4, 1, .ro), (5, 1, .ro)]⟩,
  ⟨0x400d000008, [], 0x0, [], [(0, 32, .rw)]⟩,
  ⟨0x400d00000c, [], 0x200, [], [(0, 7, .rw), (7, 1, .rw), (9, 1, .rw)]⟩,
  ⟨0x400d000100, [], 0x0, [], [(2, 30, .rw)]⟩,
  ⟨0x400d000104, [], 0x0, [], [(0, 8, .rw)]⟩,
  ⟨0x400d000108, [], 0xffff, [], [(0, 16, .rw)]⟩,
  ⟨0x400d00010c, [], 0x16469, [], [(0, 8, .rw), (8, 8, .rw), (16, 8, .rw)]⟩,
  ⟨0x400d000110, [], 0xa78, [], [(0, 8, .rw), (8, 8, .rw)]⟩,
  ⟨0x400d000114, [], 0x0, [], [(0, 21, .ro)]⟩,
  ⟨0x400d000118, [], 0x1c8f0001, [], [(0, 1, .rw), (1, 1, .ro), (16, 16, .rw)]⟩,
  ⟨0x400d000800, [(36, 4)], 0x0, [], [(0, 32, .wo)]⟩]

def regTableCRQ1 : List RegDef := [
  ⟨0x400d000c00, [(36, 4)], 0x0, [], [(0, 32, .wo)]⟩,
  ⟨0x400d000900, [(36, 4)], 0x0, [], [(0, 32, .ro)]⟩,
  ⟨0x400d000d00, [(36, 4)], 0x0, [], [(0, 32, .ro)]⟩,
  ⟨0x400d000a00, [], 0x0, [], [(0, 32, .ro)]⟩,
  ⟨0x400d000e00, [], 0x0, [], [(0, 32, .ro)]⟩,
  ⟨0x400d000a04, [], 0x0, [], [(0, 4, .ro)]⟩,
  ⟨0x400d000e04, [], 0x0, [], [(0, 4, .ro)]⟩,
  ⟨0x400d000a08, [], 0x0, [], [(0, 32, .w1c)]⟩,
  ⟨0x400d000e08, [], 0x0, [], [(0, 32, .w1c)]⟩,
  ⟨0x400d000a0c, [], 0x0, [], [(0, 4, .w1c)]⟩,
  ⟨0x400d000e0c, [], 0x0, [], [(0, 4, .w1c)]⟩,
  ⟨0x400d000a10, [], 0x0, [], [(0, 32, .w1c)]⟩]

def regTableCRQ2 : List RegDef := [
  ⟨0x400d000e10, [], 0x0, [], [(0, 32, .w1c)]⟩,
  ⟨0x400d000a14, [], 0x0, [], [(0, 32, .wo)]⟩,
  ⟨0x400d000e14, [], 0x0, [], [(0, 32, .wo)]⟩,
  ⟨0x400d000b00, [(36, 4)], 0x100, [], [(0, 5, .rw), (8, 1, .rw)]⟩,
  ⟨0x400d000f00, [(36, 4)], 0x100, [], [(0, 5, .rw), (8, 1, .rw)]⟩,
  ⟨0x400d000120, [], 0x0, [], [(0, 2, .ro), (2, 1, .ro), (8, 8, .ro), (16, 5, .ro), (21, 1, .ro), (22, 8, .ro)]⟩]

/-- The register table of block CRQ. -/
def regTableCRQ : List RegDef := regTableCRQ0 ++ regTableCRQ1 ++ regTableCRQ2

def regTableRIME0 : List RegDef := [
  ⟨0x400e000000, [], 0xe0100, [], [(16, 16, .ro), (8, 8, .ro), (0, 8, .ro)]⟩,
  ⟨0x400e000004, [], 0x0, [], [(0, 1, .w1c), (1, 1, .w1c), (2, 1, .w1c), (3, 1, .w1c), (4, 1, .w1c), (5, 1, .w1c), (6, 1, .w1c), (7, 1, .w1c), (8, 1, .w1c), (9, 1, .w1c), (10, 1, .w1c), (11, 1, .w1c), (12, 1, .w1c), (13, 1, .w1c), (14, 1, .w1c)]⟩,
  ⟨0x400e000008, [], 0x0, [], [(0, 32, .rw)]⟩,
  ⟨0x400e00000c, [], 0x200, [], [(0, 7, .rw), (7, 1, .rw), (9, 1, .rw)]⟩,
  ⟨0x400e000100, [], 0xa, [], [(0, 7, .rw)]⟩,
  ⟨0x400e000104, [], 0x0, [], [(0, 1, .ro), (1, 1, .ro), (2, 1, .ro), (3, 1, .ro), (4, 1, .ro)]⟩,
  ⟨0x400e000108, [], 0x3, [], [(0, 1, .rw), (1, 1, .rw), (8, 6, .ro), (14, 1, .ro)]⟩,
  ⟨0x400e000110, [], 0x0, [], [(0, 32, .ro)]⟩,
  ⟨0x400e000120, [], 0x0, [], [(0, 1, .ro), (1, 1, .ro), (2, 1, .ro), (3, 1, .ro), (4, 1, .ro), (5, 1, .ro), (6, 1, .ro), (7, 1, .ro), (8, 1, .ro)]⟩,
  ⟨0x400e000124, [], 0x1907, [], [(0, 1, .rwl), (1, 1, .rwl), (2, 1, .rwl), (4, 12, .rwl)]⟩,
  ⟨0x400e000200, [(16, 4)], 0x0, [], [(0, 16, .ro)]⟩,
  ⟨0x400e000300, [], 0x0, [], [(0, 15, .ros)]⟩]

def regTableRIME1 : List RegDef := [
  ⟨0x400e000304, [], 0x5000000, [], [(0, 6, .rw), (8, 6, .rw), (16, 5, .rw), (24, 3, .rw)]⟩,
  ⟨0x400e000308, [], 0x101, [], [(0, 5, .rw), (8, 4, .rw), (16, 7, .rw)]⟩,
  ⟨0x400e00030c, [], 0x0, [], [(0, 16, .rw)]⟩,
  ⟨0x400e000320, [(2, 8)], 0x0, [], [(0, 6, .rw), (6, 1, .rw), (8, 6, .rw), (14, 1, .rw), (16, 5, .rw), (21, 1, .rw), (24, 3, .rw), (27, 1, .rw), (30, 1, .rw), (31, 1, .rw)]⟩,
  ⟨0x400e000324, [(2, 8)], 0x0, [], [(0, 5, .rw), (5, 1, .rw), (8, 4, .rw), (12, 1, .rw), (16, 7, .rw), (23, 1, .rw)]⟩,
  ⟨0x400e000400, [(32, 16)], 0x0, [], [(0, 4, .rw), (4, 1, .rw), (5, 3, .rw), (8, 1, .rw), (9, 1, .rw), (10, 5, .rw), (15, 1, .rw), (16, 1, .rw), (17, 2, .rw), (19, 4, .rw), (23, 1, .rw), (24, 1, .rw)]⟩,
  ⟨0x400e000404, [(32, 16)], 0x0, [], [(0, 16, .rw), (16, 16, .rw)]⟩,
  ⟨0x400e000408, [(32, 16)], 0x0, [], [(0, 16, .rw)]⟩,
  ⟨0x400e000800, [], 0xa00, [], [(0, 1, .rwl), (8, 8, .rw)]⟩,
  ⟨0x400e000804, [], 0x0, [], [(0, 10, .ro), (10, 1, .ro), (11, 1, .ro), (16, 16, .ro)]⟩,
  ⟨0x400e000808, [], 0x0, [], [(0, 15, .ro)]⟩,
  ⟨0x400e00080c, [], 0x3800, [], [(0, 15, .ro), (15, 1, .ro)]⟩]

def regTableRIME2 : List RegDef := [
  ⟨0x400e000810, [], 0x0, [], [(0, 32, .ros)]⟩,
  ⟨0x400e000814, [], 0x0, [], [(0, 32, .ros)]⟩,
  ⟨0x400e000818, [], 0x0, [], [(0, 15, .rw)]⟩,
  ⟨0x400e000600, [], 0x0, [], [(0, 32, .rw)]⟩,
  ⟨0x400e000604, [], 0x0, [], [(0, 32, .rw)]⟩,
  ⟨0x400e000608, [], 0x0, [], [(0, 32, .rw)]⟩,
  ⟨0x400e00060c, [], 0x0, [], [(0, 8, .wo)]⟩,
  ⟨0x400e000610, [], 0x0, [], [(0, 8, .ro), (30, 1, .w1c), (31, 1, .ro)]⟩,
  ⟨0x400e001000, [(72, 4)], 0x0, [], [(0, 32, .ros)]⟩]

/-- The register table of block RIME. -/
def regTableRIME : List RegDef := regTableRIME0 ++ regTableRIME1 ++ regTableRIME2

def regTableICF0 : List RegDef := [
  ⟨0x400f000000, [], 0xf0100, [], [(16, 16, .ro), (8, 8, .ro), (0, 8, .ro)]⟩,
  ⟨0x400f000004, [], 0x0, [], [(0, 1, .w1c), (1, 1, .w1c), (2, 1, .w1c), (3, 1, .w1c), (4, 1, .w1c), (5, 1, .w1c), (6, 1, .w1c), (7, 1, .w1c), (8, 1, .ro), (9, 1, .ro)]⟩,
  ⟨0x400f000008, [], 0x0, [], [(0, 32, .rw)]⟩,
  ⟨0x400f00000c, [], 0x200, [], [(0, 7, .rw), (7, 1, .rw), (9, 1, .rw)]⟩,
  ⟨0x400f000800, [(36, 4)], 0x0, [], [(0, 32, .wo)]⟩,
  ⟨0x400f000900, [(36, 4)], 0x0, [], [(0, 32, .ro)]⟩,
  ⟨0x400f000a00, [], 0x0, [], [(0, 32, .ro)]⟩,
  ⟨0x400f000a04, [], 0x0, [], [(0, 4, .ro)]⟩,
  ⟨0x400f000a08, [], 0x0, [], [(0, 32, .w1c)]⟩,
  ⟨0x400f000a0c, [], 0x0, [], [(0, 4, .w1c)]⟩,
  ⟨0x400f000a10, [], 0x0, [], [(0, 32, .w1c)]⟩,
  ⟨0x400f000a14, [], 0x0, [], [(0, 32, .wo)]⟩]

def regTableICF1 : List RegDef := [
  ⟨0x400f000b00, [(36, 4)], 0x100, [], [(0, 5, .rw), (8, 1, .rw)]⟩,
  ⟨0x400f000100, [], 0x2581401, [], [(0, 1, .rw), (1, 1, .rw), (8, 8, .rw), (16, 16, .rw)]⟩,
  ⟨0x400f000104, [], 0x0, [], [(0, 32, .rw)]⟩,
  ⟨0x400f000110, [(3, 8)], 0x0, [], [(0, 3, .ro), (3, 1, .ro), (4, 1, .ro), (5, 2, .ro), (7, 1, .ro), (8, 8, .ro)]⟩,
  ⟨0x400f000114, [(3, 8)], 0x0, [], [(0, 32, .ro)]⟩,
  ⟨0x400f000130, [(2, 4)], 0x0, [], [(0, 32, .ro)]⟩,
  ⟨0x400f000138, [], 0x0, [], [(0, 8, .ro)]⟩,
  ⟨0x400f000140, [], 0x0, [], [(0, 12, .ro), (16, 12, .ro), (28, 3, .ro), (31, 1, .ro)]⟩,
  ⟨0x400f000148, [], 0x0, [], [(0, 32, .ros)]⟩,
  ⟨0x400f00014c, [], 0x0, [], [(0, 16, .ros), (16, 2, .ros), (31, 1, .ros)]⟩,
  ⟨0x400f000150, [], 0x0, [], [(25, 7, .rw)]⟩,
  ⟨0x400f000154, [], 0x0, [], [(0, 8, .rw)]⟩]

def regTableICF2 : List RegDef := [
  ⟨0x400f000400, [], 0x0, [], [(0, 32, .rw)]⟩,
  ⟨0x400f000404, [], 0x0, [], [(0, 32, .rw)]⟩,
  ⟨0x400f000408, [], 0x0, [], [(0, 32, .rw)]⟩,
  ⟨0x400f00040c, [], 0x0, [], [(0, 32, .rw)]⟩,
  ⟨0x400f000410, [], 0x0, [], [(0, 8, .wo)]⟩,
  ⟨0x400f000414, [], 0x0, [], [(0, 8, .ro), (30, 1, .w1c), (31, 1, .ro)]⟩]

/-- The register table of block ICF. -/
def regTableICF : List RegDef := regTableICF0 ++ regTableICF1 ++ regTableICF2

/-- The register table of the block at an index of R23. -/
def regTable (blk : Nat) : List RegDef :=
  match blk with
  | 0 => regTableSYS
  | 1 => regTableLUM
  | 2 => regTableFIRN
  | 3 => regTableSAST
  | 4 => regTableMELT
  | 5 => regTableTIME
  | 6 => regTableSRC
  | 7 => regTableSNOW
  | 8 => regTablePORT
  | 9 => regTableMOR
  | 10 => regTablePAIR
  | 11 => regTableCAN
  | 12 => regTableVLT
  | 13 => regTableCRQ
  | 14 => regTableRIME
  | 15 => regTableICF
  | _ => []

/-- Does the offset name one of the indexed registers: every index below its count. -/
def dimsHit : List (Nat × Nat) → Nat → Bool
  | [], off => off == 0
  | (n, st) :: ds, off => off / st < n && dimsHit ds (off % st)

/-- Does the row of the table define the register at this address? -/
def RegDef.hit (d : RegDef) (a : Nat) : Bool := d.base ≤ a && dimsHit d.dims (a - d.base)

/-- The block that owns an address of the register space (R23). -/
def blockOf (a : Nat) : Nat := a / 0x0100_0000 % 16

/-- The row of the register table that defines the register at an address, where one does (R25). -/
def regDef (a : Nat) : Option RegDef :=
  if a / 0x1000_0000 = 0x400 then (regTable (blockOf a)).find? (·.hit a) else none

/-- The value that the register at an address holds after reset (R12): what its table gives, or what is fused into
the part. -/
def resetOf (a : Nat) : Word :=
  if a = SYS_VARIANT.addr then BitVec.ofNat 32 (Config.variant % 2)
  else if a = ICF_SVN.addr then BitVec.ofNat 32 (Config.fusedSvn % 256)
  else if PORT_MAC_LO.addr 0 ≤ a && a ≤ PORT_MAC_HI.addr 5 && (a - PORT_MAC_LO.addr 0) % 64 == 0 then
    BitVec.ofNat 32 (Config.fusedMac ((a - PORT_MAC_LO.addr 0) / 64))
  else if PORT_MAC_LO.addr 0 ≤ a && a ≤ PORT_MAC_HI.addr 5 && (a - PORT_MAC_LO.addr 0) % 64 == 4 then
    BitVec.ofNat 32 (Config.fusedMac ((a - PORT_MAC_LO.addr 0) / 64) / 2 ^ 32 % 2 ^ 16)
  else if SNOW_Q_CFG.addr 0 ≤ a && a < SNOW_Q_CFG.addr 4096 && (a - SNOW_Q_CFG.addr 0) % 16 == 0 then
    let q := (a - SNOW_Q_CFG.addr 0) / 16
    if q < 2 then 0x0008_0100
    else if (3072 ≤ q && q < 3264) || 4048 ≤ q then 0x000C_0100
    else if 3264 ≤ q then 0
    else 0x0000_0100
  else match regDef a with
    | some d => BitVec.ofNat 32 (((d.except.find? (·.1 == a)).map (·.2)).getD d.reset)
    | none => 0

end Sys2Proof.Machine
end

