-- ==== Sys2Proof/Machine/State.lean ====
section
/-!
DEFINITION. Sys2Proof/Machine/State.lean: everything the spec gives the module to hold, as plain data, and its value
after reset. Software-visible registers stand in one sparse register file `regs` (unlisted: the reset value of the
register table); what lies behind them (threads, caches, queues, tables, engines) stands in one structure a block.
-/

namespace Sys2Proof.Machine

/-! ## The Gnor cores (R138 to R142) -/

/-- The registers of the Gnor threads, keyed by thread (0 to 127, and 128 for Cirque, R177). -/
structure Gnor where
  /-- g0 to g31 of thread t at 32 × t + number, R138; g0 is never written. -/
  g : SMap Dword := []
  /-- w0 to w7 of thread t at 8 × t + number, R139. -/
  w : SMap Wide := []
  /-- PC, special register 0, R140. -/
  pc : SMap (BitVec 40) := []
  /-- EVMASK, special register 2, R140. -/
  evmask : SMap Word := []
  /-- CC, special register 3, R142. -/
  cc : SMap Byte := []
  /-- XPC, special register 4, R172. -/
  xpc : SMap (BitVec 40) := []
  /-- XCAUSE, special register 5, R140. -/
  xcause : SMap Dword := []
deriving DecidableEq, Repr

/-- A primitive that has issued and not completed (R168). -/
inductive Prim where
  /-- WAIT: destination register, and the counter value at which it times out (R110). -/
  | wait (rd : GReg) (deadline : Option Nat)
  /-- COMMIT, completed by the end of its check (R102). -/
  | commit
  /-- KOP: destination general register and wide register (R419); the operation itself lies in the vault. -/
  | kop (rd : GReg) (w : WReg)
deriving DecidableEq, Repr

/-! ## Memory and caches (R116 to R118, R39 to R45) -/

/-- A line of a core's data cache: the line's DRAM address, its 64 bytes, the dirty 64-bit words and the poisoned
ones. -/
structure DLine where
  core : Nat
  addr : Nat
  data : List Byte
  dirty : NSet
  poison : NSet
deriving DecidableEq, Repr

/-- A line of a core's instruction cache. -/
structure ILine where
  core : Nat
  addr : Nat
  data : List Byte
  poison : NSet
deriving DecidableEq, Repr

/-- A write-back that has started and not yet landed (R163): the dirty words of one line as they were, and the thread whose
FLUSH or INVAL started it (R164); none where the line made room for another. -/
structure WB where
  core : Nat
  addr : Nat
  words : List (Nat × List Byte)
  tid : Option Nat := none
deriving DecidableEq, Repr

/-- The memories. An unlisted byte reads 0 (log entry 5). -/
structure Mem where
  /-- DRAM, 64 GiB from address 0 (R22). -/
  dram : SMap Byte := []
  /-- Local SRAM: byte o of core c at 131,072 × c + o (R22). -/
  lsram : SMap Byte := []
  /-- Cluster shared SRAM: byte o of cluster c at 2,097,152 × c + o (R22). -/
  csram : SMap Byte := []
  /-- Cirque's own SRAM, by address (R177). -/
  crqSram : SMap Byte := []
  /-- Poisoned 64-bit DRAM words, by address / 8 (R39, R42). -/
  dramPoison : NSet := []
  /-- Poisoned 32-bit words of local SRAM, by key / 4. -/
  lsramPoison : NSet := []
  /-- Poisoned 32-bit words of cluster SRAM, by key / 4. -/
  csramPoison : NSet := []
  /-- Words that hold a correctable error (R41): 64-bit words of DRAM, 32-bit words of local and of cluster SRAM, numbered
  as the poisoned ones are. -/
  dramCe : NSet := []
  lsramCe : NSet := []
  csramCe : NSet := []
  /-- Words of Rime's and of the vault's storage that hold an uncorrectable or a correctable error (R39), by
  128 × (2^24 × SOURCE of SYS_ECC_UE_HI + the record or slot they lie in) + the 32-bit word there. -/
  blkUe : NSet := []
  blkCe : NSet := []
  /-- The data caches of cores 0 to 31, and of Cirque as core 32 (R118, R177). -/
  dcache : List DLine := []
  /-- The instruction caches (R116). -/
  icache : List ILine := []
  /-- Started write-backs, oldest first (R163). -/
  wbs : List WB := []
deriving DecidableEq, Repr

/-! ## The lumen array (R104 to R137) -/

/-- A section of a program image (R131): 0 DRAM, 1 local SRAM, 2 cluster SRAM; the core or cluster; where; bytes. -/
structure Section where
  space : Nat
  unit : Nat
  addr : Nat
  data : List Byte
deriving DecidableEq, Repr

/-- An entry of a program image's thread table (R131). -/
structure ThreadEntry where
  tid : Nat
  start : Nat
  prio : Bool
  restart : Bool
  vec : Nat
  dbmask : Word
deriving DecidableEq, Repr

/-- A program image (R131): its cores, sections, operating points, mailbox values and threads. -/
structure Image where
  cores : List Nat := []
  sections : List Section := []
  clusters : List (Nat × Nat) := []
  mailboxes : List (Nat × Nat × Word) := []
  threads : List ThreadEntry := []
deriving DecidableEq, Repr

/-- A LUM command whose BUSY lasts past its write (R114, R132). -/
inductive LumBusy where
  | stop (tid : Nat)
  | dvfs (cluster freq : Nat)
deriving DecidableEq, Repr

/-- What lies behind the LUM registers. -/
structure Lum where
  /-- The word of the channel from s to r, and the sending thread, at 36 × s + r while FULL (R122, R123). -/
  mbx : SMap (Option (Word × Nat)) := []
  /-- Primitives in progress, by thread (R168). -/
  prims : SMap (Option Prim) := []
  /-- Armed timers, timer n of thread t as 2 × t + n (R112). -/
  armed : NSet := []
  /-- Restarts pending (R130): thread and the model time at which Cirque restarts it. -/
  restartAt : List (Nat × Nat) := []
  /-- Restarts done (R130): thread and model time. -/
  restarts : List (Nat × Nat) := []
  /-- The command in progress. -/
  busy : Option LumBusy := none
  /-- LUM_WIN_SEL of agents 32 to 35, by requester (R121). -/
  winSel : SMap Word := []
  /-- The image last loaded (R131, R135). -/
  image : Image := {}
deriving DecidableEq, Repr

/-- What lies behind the CRQ registers and Cirque's core. -/
structure Crq where
  /-- Cirque waits in IDLE (R179). -/
  idle : Bool := false
  /-- The highest clock each island may run at, MHz, under the crossing rule (R49) and under the island throttle
  (R406); unlisted: no limit. -/
  capX : SMap Nat := []
  capT : SMap Nat := []
  /-- A module image has booted (R363, R404 step 6). -/
  booted : Bool := false
  /-- The management session runs without TLS, on port PORT + 1: it was opened while the vault was not provisioned (R408). -/
  plainMgmt : Bool := false
  /-- How far the start of Cirque has come (R363, R404): 0 nothing to do, 1 the boot ROM is to run, 2 the image waits for
  PROVISION, 3 its programs are to be loaded, 4 SYS_BOOT.TARGET is to be requested. -/
  phase : Nat := 1
  /-- Filtered temperatures of R49, in 2^-16 of 1/8 °C, once there are samples, and the counter value of the last sample. -/
  temps : SMap (Option Int) := []
  sampleAt : Option Nat := none
  /-- The counter value since which an island's condition has held without a break (R405): throttle trip, throttle
  release, shutdown, as 8 × island + 2 to 4. -/
  dwell : SMap (Option Nat) := []
  /-- Crossings whose lowering is active, as 32 × cluster + the other island, and the counter value up to which each
  island was being lowered or at which it was last restored (R49). -/
  crossings : NSet := []
  xAt : SMap Nat := []
  /-- Islands that the crossing rule has lowered and that are not back at their requested clock (R51). -/
  lowered : NSet := []
  /-- The counter value at which the last throttle second ended (R406). -/
  stepAt : Nat := 0
  /-- Islands whose supply is out of range since this counter value (R405). -/
  vddBad : NSet := []
deriving DecidableEq, Repr

/-! ## The pair and the floe (R330 to R354) -/

/-- A planned handover (R340): its frame boundary T in network seconds, whether this module is the one that releases, and
the part it has in a drill: 0 none, 1 the way out, 2 the way back; at the module that releases, once T - 50 ms has come,
whether T is a frame boundary. -/
structure Handover where
  sec : Nat
  releases : Bool
  drill : Nat
  judged : Option Bool := none
deriving DecidableEq, Repr

/-- What lies behind the PAIR registers. -/
structure PairSt where
  /-- The HOLD_OUT pin (R330). -/
  holdOut : Bool := false
  /-- The model times since which this module has not held HOLD and since which HOLD_IN has been deasserted (R368). -/
  offSince : Nat := 0
  inSince : Nat := 0
  /-- The model time of the last entry to SHADOW. -/
  shadowSince : Nat := 0
  /-- The counter value at which a clashed claim is retried (R331). -/
  retry : Option Nat := none
  /-- The counter value at which the HOLD watchdog was last refreshed (R332). -/
  kick : Nat := 0
  /-- The partner's last heartbeat, and the counter value at which it came (R334). -/
  hb : Option Heartbeat := none
  hbAt : Nat := 0
  /-- A heartbeat has come since HOLD_IN last fell (R337). -/
  hbSince : Bool := true
  /-- Mirror sequence numbers: sent by this module, acknowledged by the partner, applied by this module; the counter value
  at which the oldest unacknowledged one was sent (R335). -/
  sent : Nat := 0
  acked : Nat := 0
  applied : Nat := 0
  sentAt : Nat := 0
  /-- A bulk copy runs (R336). -/
  copying : Bool := false
  /-- What the mirror records for the partner: SYS_MODE, SYS_OUT_PERMIT and the like by register address, and the owner
  (bit 0) and command (bit 1) of each contactor. -/
  mirror : SMap Word := []
  ctr : SMap Nat := []
  /-- The handover announced (R340). -/
  handover : Option Handover := none
  /-- The counter value since which the conditions of R341 have held. -/
  revertFrom : Option Nat := none
  /-- The partner's part of a drill: the counter value at which DURATION ends (R342). -/
  drillEnd : Option Nat := none
  /-- The network day of the last drill that passed, and of the last scheduled one. -/
  passDay : Option Nat := none
  drillDay : Nat := 0
  /-- The class of this module's last fault, how many it has recorded, and the counter value of its last F2 fault (R334,
  R341, R346). -/
  lastClass : Nat := 0
  faults : Nat := 0
  f2At : Option Nat := none
  /-- The counter value at which the takeover window of R454 opened. -/
  window : Option Nat := none
  /-- The counter value since which the condition of R371 or R372 has held. -/
  autoSince : Option Nat := none
deriving DecidableEq, Repr

/-- A member of the floe (R344): its last beacon; for each direction the counter value at which a beacon last came through
and its hops; since which counter value it has been a candidate (R347). -/
structure Member where
  b : Beacon
  eAt : Option Nat
  wAt : Option Nat
  eHops : Nat
  wHops : Nat
  since : Option Nat
deriving DecidableEq, Repr

/-- What lies behind the FLOE registers. -/
structure FloeSt where
  members : SMap (Option Member) := []
  /-- The index under which this module is itself a member (R344). -/
  self : Option Nat := none
  /-- (SRC, SEQ) sent or forwarded, with the counter value (R343). -/
  fwd : List (Nat × Nat × Nat) := []
  /-- SEQ of the next ring frame. -/
  seq : Nat := 0
  /-- The highest term seen (R347), and the changes ordered in this term (R349). -/
  maxTerm : Nat := 0
  count : Nat := 0
  order : Option Order := none
  /-- Orders aborted before it, ids and epochs in ns, whose ABORT is still repeated (R350). -/
  aborts : List (Nat × Nat) := []
  /-- The counter value at which a frame PREPARE without a sealed commit is refused (R76). -/
  wait : Option Nat := none
  /-- The frame change was aborted after the cutoff (R77), and its commit has not landed yet. -/
  late : Bool := false
  /-- The mode that the last SET named, while SKEW is set (R352). -/
  skewTo : Nat := 0
  /-- The counter values at which a beacon last came through E and W, and since which they have crossed again (R345). -/
  lastE : Nat := 0
  lastW : Nat := 0
  crossE : Option Nat := none
  crossW : Option Nat := none
deriving DecidableEq, Repr

/-- A frame on the ring (R343, R349 to R351). -/
inductive FloeMsg where
  | beacon (b : Beacon)
  | prepare (src term id kind target epochNs : Nat)
  | ready (src id : Nat)
  | refuse (src id code : Nat)
  | abort (src term id : Nat)
  | set (src term mode dst : Nat)
deriving DecidableEq, Repr

/-- A relay frame (R425), by type. -/
inductive RelayMsg where
  | header (src id : Nat) (data : List Byte)
  | leaves (src id part : Nat) (data : List Byte)
  | chunk (src id idx part : Nat) (data : List Byte)
  | nack (src id idx : Nat)
  | act (src slot sec version : Nat)
  | actCancel (src : Nat)
deriving DecidableEq, Repr

/-- The NVMe commands of R311: Identify, Get Log Page (SMART), Set Features (Number of Queues), Read, Write, Flush, Write
Zeroes, Dataset Management with Deallocate. -/
inductive NvmeCmd where
  | identify | smartLog | setQueues (pairs : Nat) | read | write | flush | writeZeroes | deallocate
deriving DecidableEq, Repr

/-- What the command in progress sends to other parties: frames on the ring (port 2 is E, 3 is W, with HOPS and SEQ), messages on P, and
answers of the management protocol (type, code, sequence number, payload; R409). -/
inductive OutMsg where
  | ring (port hops seq : Nat) (m : FloeMsg)
  | relay (port : Nat) (m : RelayMsg)
  | heartbeat (h : Heartbeat)
  | mirrorAck (seq : Nat)
  | handover (sec drill fail : Nat)
  | handoverAck (sec : Nat)
  | actPartner (slot sec : Nat)
  /-- An update of the mirror (R335), and an NVMe command to a drive (R311). -/
  | mirror (seq : Nat) (u : MirrorItem)
  | nvme (drive : Nat) (c : NvmeCmd)
  /-- A chain frame out of a chain port, and one sent over P for the partner to relay (R182, R192). -/
  | chain (n : Nat) (f : ChainFrame)
  | wrap (n : Nat) (f : ChainFrame)
  | reply (typ cc seq : Nat) (data : List Byte)
deriving DecidableEq, Repr

/-! ## The key vault (R411 to R420) -/

/-- A key slot (R412, R413): TYPE, USAGE, GEN and the key's bytes. Type 3 holds the private number, 48 bytes; type 4 the
97 bytes of the public key; type 5 the SAK, salt and SSCI. -/
structure KeySlot where
  typ : Nat := 0
  usage : Nat := 0
  gen : Nat := 0
  key : List Byte := []
deriving DecidableEq, Repr

/-- An operation in flight (R414, R419): who asked (thread, or none for the OP command), the operation, the source slot as
copied at the start, the input and AAD, where the output goes, the target slot with its TYPE and USAGE, the target's key
where WRAP copies it, w, and the model time at which the operation reached the vault. -/
structure VOp where
  tid : Option Nat
  op : Nat
  src : KeySlot
  input : List Byte
  aad : List Byte
  out : Nat
  tgt : Nat
  tgtType : Nat
  tgtUsage : Nat
  wrapped : KeySlot
  w : Wide
  since : Nat := 0
deriving DecidableEq, Repr

/-- The vault behind its registers. -/
structure Vlt where
  slots : SMap KeySlot := []
  ops : List VOp := []
  /-- The nonce of CHALLENGE and the counter value at which it expires, until it is used (R416). -/
  nonce : Option (List Byte × Nat) := none
  /-- The module certificate (R417). -/
  cert : List Byte := []
  /-- The volatile slots have begun since power-on (R413). -/
  begun : Bool := false
deriving DecidableEq, Repr

/-! ## Icefall (R421 to R434) -/

/-- An image as it lies in a slot of the boot store or in a node area (R421, R424): header, leaf list, chunks by index. -/
structure Store where
  header : List Byte := []
  leaves : List Byte := []
  chunks : SMap (List Byte) := []
deriving DecidableEq, Repr

/-- A receipt under way (R423 to R427): the slot (0 A, 1 B, 2 program, 3 and 4 the node areas), SOURCE, the bytes that
IMAGE_PUSH has brought, whether step 5 of R423 has passed, the image's IMAGE_ID, the parts of chunks that are not whole
yet ((chunk × 8 + part) × 3 + direction: 0 E, 1 W, 2 P) and of the leaf list, the failures of each chunk (chunk × 3 +
direction), and the directions given up. -/
structure Receipt where
  slot : Nat
  source : Nat
  ok : Bool
  pushed : Nat
  buf : List Byte
  id : Nat
  parts : SMap (List Byte)
  leafParts : SMap (List Byte)
  fails : SMap Nat
  stopped : NSet
deriving DecidableEq, Repr

/-- A pending activation (R428, R429): whether it came by FLOE, the VERSION to be activated, whether the checks of E - 1 s
were made, and whether E has come and the active module waits for its partner. -/
structure Act where
  floe : Bool
  version : Nat
  checked : Bool
  waits : Bool
deriving DecidableEq, Repr

/-- A relay or a push of an image under way: the slot, the next chunk and part, and the ports (R425, R432). -/
structure RelayJob where
  slot : Nat
  next : Nat
  ports : List Nat
deriving DecidableEq, Repr

/-- Icefall behind its registers. -/
structure Icf where
  store : SMap Store := []
  rx : Option Receipt := none
  act : Option Act := none
  job : Option RelayJob := none
  /-- Images whose relay follows that one (R425). -/
  jobs : List RelayJob := []
  /-- Chunks to be sent on or again: slot, chunk, port; and the counter value before which none goes (RELAY_RATE). -/
  queue : List (Nat × Nat × Nat) := []
  relayAt : Nat := 0
  /-- The node area that took the last receipt (R434). -/
  node : Nat := 1
  /-- The counter value from which the running image counts towards its confirmation (R430). -/
  runFrom : Option Nat := none
  /-- Neither copy of the boot record authenticated (R404 step 2). -/
  lostRecord : Bool := false
deriving DecidableEq, Repr

/-! ## The contactor drivers (R472) -/

/-- What lies behind SYS_COIL: drivers that have switched themselves off, with the model time of the retry. -/
structure Board where
  off : SMap (Option Nat) := []
deriving DecidableEq, Repr

/-! ## Firn's region (R52) -/

/-- The planes of Firn's region as Firn holds them; an agent that reads the region reads their bytes in the layout of
R52. -/
structure Planes where
  /-- Where the region lies, from the first fill on. -/
  base : Option Nat := none
  /-- A fill has set the region (R52): an unlisted node-plane entry then has OWED 0xFFFF, and else 0, as DRAM. -/
  filled : Bool := false
  /-- Bytes written while the region was ordinary DRAM (R53), and bytes of its reserved areas, by offset: they stand before
  what the planes say. -/
  above : SMap (Option Byte) := []
  /-- The fill that follows EN written 1 runs (R52). -/
  filling : Bool := false
  /-- Frame buffers 0 and 1 and the write-ahead plane, entries by endpoint (R55). -/
  fb0 : SMap Wide := []
  fb1 : SMap Wide := []
  ahead : SMap Wide := []
  /-- Drive planes 0 and 1 (R58). -/
  dp0 : SMap Wide := []
  dp1 : SMap Wide := []
  /-- Calibration records (R90). -/
  cal : SMap (BitVec 512) := []
  /-- Endpoint map (R54). -/
  map : SMap Word := []
  /-- Derating plane (R96). -/
  derate : SMap Word := []
  /-- Node plane (R71); what an unlisted entry holds, `filled` says. -/
  node : SMap Wide := []
  /-- Dirty maps of frame buffers 0 and 1 and of the write-ahead plane (R60). -/
  dirty0 : NSet := []
  dirty1 : NSet := []
  dirtyA : NSet := []
  /-- The eight delta-log slots. -/
  log : SMap (Option LogSlot) := []
deriving DecidableEq, Repr

/-! ## Firn's engine (R59 to R103) -/

/-- A commit being checked (R64): the thread, the epoch asked for, FLOE. -/
structure Check where
  tid : Nat
  epoch : Nat
  floe : Bool
deriving DecidableEq, Repr

/-- Firn behind its registers and its region. -/
structure Firn where
  check : Option Check := none
  commit : Option Sealed := none
  /-- EN was cleared after the abort cutoff: it clears after the flip (FIRN_CTRL.EN). -/
  offAfter : Bool := false
  /-- Epoch seconds of the last commit landed since Firn was enabled, else 0 (R73); and of the last one landed at all
  (FIRN_EPOCH_LO). -/
  landed : Nat := 0
  lastEpoch : Nat := 0
  /-- What each node owes, oldest first. -/
  owed : SMap (List Owed) := []
  /-- The last frame or catch-up label each node holds whole (R69). -/
  base : SMap Nat := []
  /-- For each frame, the nodes with changes in it that have not acknowledged (R74 step 8). -/
  waiting : List (Nat × NSet) := []
  /-- Some COMMIT has completed since FIRN reported ready (R76). -/
  hadCommit : Bool := false
  aborted : List Aborted := []
  surges : List Surge := []
  /-- The K last sent for each endpoint (R96); unlisted: 32,768. -/
  kSent : SMap Nat := []
  /-- Nodes for which a derate message waits. -/
  derates : NSet := []
  /-- Reports of each node since Firn was enabled (R95), and the nodes that have a filtered temperature. -/
  reports : SMap Nat := []
  filt : NSet := []
  /-- The model time of each endpoint's last change of derating state (R95). -/
  changedAt : SMap (Option Nat) := []
deriving DecidableEq, Repr

/-! ## Sastrugi (R180 to R224) -/

/-- A head as Sastrugi keeps it behind SAST_HEAD, SAST_HOP_DLY and SAST_HOP_LEN. -/
structure HeadSt where
  cap : Option CapDesc := none
  /-- Bits of the last STATUS. -/
  status : Nat := 0
  /-- Channel index and the counter value at which its hold ends (R187). -/
  holds : SMap (Option Nat) := []
  /-- The HOLD_OFF that takes effect at the next slot boundary: mask and duration in µs. -/
  asked : List (Nat × Nat) := []
  /-- The delay that CONFIG last carried, in 0.125 ns, and all its fields. -/
  cfg : Option Nat := none
  conf : List Nat := []
  /-- SEQ and result of the last TX_DONE (R184). -/
  lastTx : Option (Nat × Nat) := none
  /-- A channel index is tuned to a tether's RF channel for the slot in progress. -/
  tuned : Bool := false
deriving DecidableEq, Repr

/-- A discovery under way (R188): the position, the echoes heard from it, the sums of their round trips and
turnarounds in ns; `caped` once its CAP has come. -/
structure Disc where
  pos : Nat
  caped : Bool
  echoes : Nat
  rtt : Nat
  turn : Nat
  /-- Heads with a CAP before this discovery, to tell which it lost. -/
  old : Nat
  /-- The counter value at which CAP_REQ went to the position. -/
  asked : Nat
deriving DecidableEq, Repr

/-- A chain (R188, R192). -/
structure ChainSt where
  disc : Option Disc := none
  /-- The DISCOVER command waits for this chain. -/
  cmd : Bool := false
  /-- Discovery reaches every head again: the wrap ends at the next superframe. -/
  whole : Bool := false
  /-- How many heads the chain has, as far as this module knows: by it the secondary converts hops (R181), and frames over P
  count theirs. -/
  span : Nat := 0
  /-- Frames discarded under R183. -/
  discards : Nat := 0
  /-- The last frame relayed for the partner, with its re-stamped TIME (R192). -/
  relay : Option (ChainFrame × Nat) := none
  /-- Frames held back ahead of a timed frame of the port's launch queue, oldest first (R271). -/
  held : List ChainFrame := []
deriving DecidableEq, Repr

/-- A tether (R219, R220). -/
structure Tether where
  node : Option Nat
  eui : Nat
  head : Nat
  interval : Nat
  base : Nat
  map : Nat
  seed : Nat
  phy : Nat
  sup : Nat
  /-- The event counter e, the slot of the next event, the counter value at which a valid frame last came. -/
  event : Nat
  next : Nat
  heard : Nat
  /-- Opened by Sastrugi for a node in recovery (R221). -/
  recovery : Bool
  /-- TETHER_CONN has gone (R220), and the beacon channel and head of the best cell (R221). -/
  begun : Bool := false
  told : Bool := false
deriving DecidableEq, Repr

/-- A MAC frame handed to a head for the slot (R184, R186, R197): its head and channel index, its launch time, the SEQ of
its TX frame, its PSDU, its PHY mode code and its transmit power in dBm. -/
structure Air where
  head : Nat
  ch : Nat
  launch : Nat
  seq : Nat
  psdu : List Byte
  phy : Nat
  power : Int
deriving DecidableEq, Repr

/-- An association request that waits for its answer (R208): the cell, the descriptor, the node ID or the refusal, and the
network second in which it came. -/
structure AssocReq where
  cell : Nat
  caps : NodeCaps
  node : Option Nat
  refusal : Nat
  sec : Nat
deriving DecidableEq, Repr

/-- The wake slot of a sleepy node to which a DISASSOC is still to go (R212, R218). -/
structure Wake where
  cell : Nat
  slot : Nat
  ch : Nat
  code : Nat
  phase : Nat
deriving DecidableEq, Repr

/-- Sastrugi behind its registers. -/
structure Sast where
  chains : SMap ChainSt := []
  heads : SMap HeadSt := []
  cells : SMap CellSt := []
  nodes : SMap (Option NodeMac) := []
  /-- The active plan, and the pending one with the network time in ns of its load (R205). -/
  plan : Option Plan := none
  next : Option (Plan × Nat) := none
  /-- Conflict counts of the window in progress, by 64 × i + j, and its first superframe (R203). -/
  conflict : SMap Nat := []
  winStart : Nat := 0
  /-- The last slot begun, counted from the origin of network time, and the first slot that may begin (R259). -/
  slot : Nat := 0
  from' : Nat := 0
  /-- Frames with the heads for the slot in progress. -/
  air : List Air := []
  /-- SEQ of the next chain frame. -/
  seq : Nat := 0
  /-- The network time in ns that the last SYNC carried (R185). -/
  sync : Nat := 0
  assocs : List AssocReq := []
  tethers : SMap (Option Tether) := []
  leaving : SMap (Option Wake) := []
deriving DecidableEq, Repr

/-! ## Meltwater (R225 to R253) -/

/-- Sums over samples (R235): how many, then for one phase of a feeder v squared and the selected current squared, each
scaled to its full scale and gain, the normal-path and the low-path current squared as they are, and the active and
reactive power; for the totals only the powers and the apparent power stand in it. -/
structure PSum where
  n : Nat := 0
  vv : Nat := 0
  ii : Nat := 0
  iiN : Nat := 0
  ll : Nat := 0
  p : Int := 0
  q : Int := 0
  s : Nat := 0
deriving DecidableEq, Repr

/-- Values of a feeder's phase or total in the units of MELT_SEC: 1 mV, 10 µA, 0.1 W, 0.1 var, the frequency in mHz, and
the power factor in Q1.14 where there is one. -/
structure MVal where
  v : Nat := 0
  i : Nat := 0
  p : Int := 0
  q : Int := 0
  freq : Nat := 0
  pf : Option Int := none
deriving DecidableEq, Repr

/-- The harmonics of one signal (R240): twice the squares of G_1 to G_63, and the windows so far. -/
structure Harm where
  g2 : List Nat := []
  count : Nat := 0
deriving DecidableEq, Repr

/-- An interval (R242): its start and end in network seconds, how long it lasted in ns (R239), its minutes, flags, and
energies by 8 × feeder + q. -/
structure Interval where
  start : Nat := 0
  stop : Nat := 0
  lasted : Nat := 0
  minutes : Nat := 0
  short : Bool := false
  incomplete : Nat := 0
  /-- Feeders whose pod was absent at some time in it (R248). -/
  absent : NSet := []
  e : SMap Nat := []
deriving DecidableEq, Repr

/-- A sample of a harmonic window in sample codes (R240): the voltage or the normal path, the low path, and whether the low
path was selected. -/
structure WinSample where
  normal : Int
  low : Int
  useLow : Bool
deriving DecidableEq, Repr

/-- A pulse output (R243, R244): what its accumulator holds less the pulses taken ahead of the spreading, and the blocks'
energies that spread into it over 200 ms, each with the counter value at which that began, in units of
1 / (2^119 × 10^9 × 57,600) µWh; whether the output is closed, the counter values at which the pulse ends and the next may
begin. -/
structure PulseSt where
  acc : Int := 0
  flows : List (Nat × Nat) := []
  closed : Bool := false
  stop : Nat := 0
  next : Nat := 0
deriving DecidableEq, Repr

/-- Meltwater behind its registers. Feeder f's phase p (3: total) is 4 × f + p. -/
structure Melt where
  /-- Pods that have been PRESENT since MELT became ready; feeders that accumulate in the block in progress (R228). -/
  seen : NSet := []
  live : NSet := []
  /-- Network time in ns at which the block in progress began, and the steps that have cut it and the second and the interval
  with it, and what followed it: the network time in ns that each left, and the one it came to (R239). -/
  blockFrom : Nat := 0
  cuts : List (Nat × Nat) := []
  /-- The last DATA words of each feeder, oldest first, those after them that make no whole sample yet, and what the DC-removal
  filter of each input remembers (R226, R229). -/
  hist : SMap (List Nat) := []
  carry : SMap (List Nat) := []
  hp : SMap Int := []
  /-- Sums of the block so far, of the phases and of IN by feeder, and the samples of V1 to V3 of it and of the block before
  (R233, R235, R238). -/
  part : SMap PSum := []
  partIn : SMap PSum := []
  volts : SMap (List Int) := []
  voltsOld : SMap (List Int) := []
  /-- The samples of the harmonic windows in progress by 8 × feeder + signal, oldest first (R240). -/
  win : SMap (List WinSample) := []
  /-- Sums of IN over the second, and of the phases and totals; the second that has ended and waits for its latch, with
  the network time in ns of its end. -/
  secSum : SMap PSum := []
  secIn : SMap PSum := []
  secDone : Option (Nat × SMap PSum × SMap PSum) := none
  /-- Feeders × 4 + phase with p outside the band of R234, or an overload, in this second, and in the ended one. -/
  disq : NSet := []
  disqDone : NSet := []
  /-- The counter value of each phase's last range switch (R232). -/
  switched : SMap (Option Nat) := []
  /-- Energy below 1 mWh by (4 × f + p) × 8 + q, in units of 1 / (2^119 × 10^12 × 57,600) mWh (R236). -/
  frac : SMap Nat := []
  /-- Presets for the next block end: (4 × f + p) × 8 + q and the value. -/
  presets : List (Nat × Nat) := []
  /-- The latest block's values and its end in ns, and the latched second's. -/
  block : SMap MVal := []
  blockEnd : Nat := 0
  sec : SMap MVal := []
  /-- Harmonics by 8 × feeder + signal. -/
  harm : SMap Harm := []
  /-- INTERVAL in force, the value written last and the network second at which it takes effect (R241), the interval in progress
  (its start in s and in ns, the totals at its start, feeders lost or absent in it), the latest and the previous. -/
  minutes : Nat := 15
  minutesNext : Option (Nat × Nat) := none
  intStart : Option Nat := none
  intFrom : Nat := 0
  intBase : SMap Nat := []
  lost : NSet := []
  absent : NSet := []
  last : Interval := {}
  prev : Interval := {}
  /-- The latest interval waits for its reconciliation; a cut one waits for the INTERVAL event, 2 ms after its close. -/
  recon : Bool := false
  intTold : Bool := true
  /-- Consecutive intervals towards a change, 2 × feeder for UNACC and 2 × feeder + 1 for NEG (R249). -/
  counts : SMap Nat := []
  pulses : SMap PulseSt := []
  /-- Counter value at which a capture has settled, and the network seconds of the last capture, by feeder (R246). -/
  settle : SMap (Option Nat) := []
  sigAt : SMap Nat := []
deriving DecidableEq, Repr

/-! ## The time engine (R254 to R276) -/

/-- A frame in a launch queue (R270): its ticket, launch time in ns of network time (none: at once), LATE_SEND, its
bytes. -/
structure LFrame where
  ticket : Nat
  at? : Option Nat
  late : Bool
  data : List Byte
deriving DecidableEq, Repr

/-- A PTP port (R263, R267): the two-step Sync that waits for its Follow_Up (sequence number and ingress time in ns), the
ingress time and corrected origin of the last complete Sync, the sequence number of the Delay_Req sent and when it went, the
end-to-end path delay in ns, the offset last measured, the masters that announced themselves (data set, counter value of the
last Announce), the counter value until which the port counts as a valid source, the peer delays of the last 16 exchanges,
newest first, and the numbers of the next Sync and of the next request sent. -/
structure PtpPort where
  sync : Option (Nat × Nat) := none
  t1 : Int := 0
  t2 : Nat := 0
  req : Option (Nat × Nat) := none
  delay : Int := 0
  ofs : Int := 0
  masters : SMap Nat := []
  until' : Nat := 0
  delays : List Nat := []
  seq : Nat := 0
  reqSeq : Nat := 0
deriving DecidableEq, Repr

/-- What lies behind the TIME registers. -/
structure TimeEng where
  /-- The model time at which the main rails came up and the counter was 0 (R254). -/
  up : Nat := 0
  /-- The anchor of R255: a counter value, and the network time there in units of 2^-32 ns. -/
  cA : Nat := 0
  tA : Nat := 0
  /-- Launch queues (R270), each in order of acceptance. -/
  queues : SMap (List LFrame) := []
  /-- Tickets given out (R274). -/
  ticket : Nat := 0
  /-- The last PPS_IN edge (its counter value, and TIME_PPS_DLY then, in ns), edges in a row 1 s ± 1 µs apart, whether
  PPS_IN is valid, and the counter value until which it is or was (R264). -/
  ppsLast : Option (Nat × Nat) := none
  ppsGood : Nat := 0
  ppsValid : Bool := false
  ppsUntil : Nat := 0
  /-- PPS_OUT is high, and the counter value at which it rose last (R265). -/
  ppsOut : Bool := false
  ppsAt : Nat := 0
  /-- Seconds in a row within 100 ns, and the rates of the last 60 s of lock, newest first (R261). -/
  lockSecs : Nat := 0
  rates : List Int := []
  /-- The counter value at which HOLDOVER was entered (R276). -/
  holdFrom : Nat := 0
  /-- The servo slews to a new source, without a step (R261). -/
  slewing : Bool := false
  /-- The counter value up to which the last source was valid that then ceased to be one of the role's (R261, R262). -/
  srcGone : Nat := 0
  /-- The source of the last measurement (R261); whether the TIME ready bit has been set since the rails came up (R257). -/
  lastSrc : Nat := 0
  begun : Bool := false
  /-- U0, U1, E, W and P as PTP ports 0 to 4. -/
  ptp : SMap PtpPort := []
deriving DecidableEq, Repr

/-! ## The CAN ports (R438 to R449) -/

/-- A CAN port behind its registers: the frame whose attempt has begun on the bus, and whether after its late window. -/
structure CanSt where
  tx : Option LFrame := none
  late : Bool := false
deriving DecidableEq, Repr

/-! ## The packet path (R277 to R309) -/

/-- A descriptor of a Snowpack queue (R301, R303). -/
inductive QItem where
  /-- A packet: its bytes, its SOURCE, the node ID of a radio packet, its arrival in ns of network time, and the check bits
  of its cells. -/
  | pkt (data : List Byte) (source node ns : Nat) (mark : Mark)
  /-- A gap marker: dropped packets and octets, the network time of the first drop, MERGED, and its check bits. -/
  | gap (pkts octets ns : Nat) (merged : Bool) (mark : Mark)
deriving DecidableEq, Repr

/-- Snowpack behind its registers. -/
structure Snow where
  /-- The descriptors of each queue, head first. -/
  queues : SMap (List QItem) := []
  /-- The sum of all reserves (R298), and of the parts of them that their queues do not use (R300). -/
  resSum : Nat := 0
  spareSum : Nat := 0
  /-- For each thread, and 128 for Cirque, the queue last popped, plus 1 (R303). -/
  rr : SMap Nat := []
deriving DecidableEq, Repr

/-- Serac behind its registers. -/
structure Src where
  nodes : SMap (Option NodeEnt) := []
  pfx : List PfxEnt := []
  l2 : SMap (Option L2Ent) := []
  /-- Hits and learnings so far, to order entries by their last use (R292). -/
  use : Nat := 0
  /-- Learnings that failed for want of room, in the node and the L2 table (R292); no register shows the count. -/
  fails : Nat := 0
deriving DecidableEq, Repr

/-- A MACsec security association (R284 to R286): the copy of the key taken at installation, salt and SSCI, the SCI,
its number, the next packet number to send or the lowest acceptable on receipt, and the vault slot it came from. -/
structure Sa where
  key : List Byte
  salt : List Byte
  ssci : Nat
  sci : Nat
  an : Nat
  xpn : Bool
  pn : Nat
  slot : Nat
deriving DecidableEq, Repr

/-- An Ethernet port behind its registers. -/
structure PortSt where
  /-- The frame in transmission, and the transmit SA that protects it. -/
  tx : Option (List Byte) := none
  txSa : Option Nat := none
  /-- Model time until which each priority is halted (R282). -/
  pause : SMap Nat := []
  /-- Quanta for which each priority halts once the frame in transmission has completed, plus 1 (R282). -/
  halts : SMap Nat := []
  /-- Frames dropped that R280, R285 and R286 count and no register shows (log entry 10). -/
  drops : Nat := 0
  /-- PAUSE, PFC and PTP frames that wait to be sent (R263, R283). -/
  ctl : List (List Byte) := []
  /-- The pool fell below XOFF and has not risen above XON since (R283). -/
  xoff : Bool := false
  /-- The SAs 0 to 9. -/
  sas : SMap (Option Sa) := []
deriving DecidableEq, Repr

/-! ## Moraine (R310 to R329) -/

/-- A stream (R317): open, QUOTA in GB, RETAIN in days, the next sequence number, the staged records, the blocks on the
drives, oldest first, QUOTA_OVER, and the records trimmed, by sequence number and acceptance second (R327). -/
structure Stream where
  isOpen : Bool := false
  quota : Nat := 0
  retain : Nat := 0
  next : Nat := 0
  staged : List MRec := []
  blocks : List MBlock := []
  overQuota : Bool := false
  gone : List (Nat × Nat) := []
  /-- The extent that its blocks go to: the group and the octets left of its 64 MiB (R314). -/
  ext : Option (Nat × Nat) := none
deriving DecidableEq, Repr

/-- A rebuild under way (R316): the slot, the stripes completed when it began or went on here, and the counter value then. -/
structure Rebuild where
  slot : Nat
  stripe : Nat
  at' : Nat
deriving DecidableEq, Repr

/-- Moraine behind its registers. -/
structure Mor where
  streams : SMap (Option Stream) := []
  /-- Slots whose drive is accepted (R312), what each drive found says of itself, and the I/O queue pairs set up with it
  (R311). -/
  accepted : NSet := []
  drives : SMap (Option DriveId) := []
  queues : SMap Nat := []
  /-- Slots of the formed groups (R314), and those of them whose chunks are not whole, for their drive has failed (R315). -/
  members : NSet := []
  lost : NSet := []
  rebuild : Option Rebuild := none
  /-- The group whose turn it is to take an extent. -/
  turn : Nat := 0
  /-- Each requester's last READ_RANGE: the stream and the last sequence number returned (R320). -/
  cursor : SMap (Option (Nat × Nat)) := []
deriving DecidableEq, Repr

/-! ## Rime, the real-time clock and the icecore (R374 to R403) -/

/-- The state of one Rime rule behind its registers (R377 to R381): the last samples, the filtered value once there is
one, since which model time the pending change's condition has held, and the samples still to arrive before the
state may move. -/
structure RuleSt where
  hist : List Int := []
  y : Option Int := none
  since : Option Nat := none
  hold : Nat := 0
  fresh : Bool := true
deriving DecidableEq, Repr

/-- An icecore record (R396); `mark` says that MARK stands in it. -/
structure IceRec where
  seq : Nat
  netS : Nat
  netNs : Nat
  date : Nat
  time : Nat
  trigger : Nat
  source : Nat
  cls : Nat
  flags : Nat
  words : List Word
  base : Bool
  mark : Bool
deriving DecidableEq, Repr

/-- What lies behind the RIME registers. -/
structure Rime where
  rules : SMap RuleSt := []
  /-- The model time at which the RTC's present second began (R389). -/
  secTick : Nat := 0
  /-- The RTC date written and held until the time is written (R389). -/
  heldDate : Option Word := none
  /-- MAIN33 is below the lockout threshold (R390). -/
  locked : Bool := false
  /-- What each register of the RTC and the alarms returned last (R390). -/
  lastRtc : SMap (Option Word) := []
  /-- The model time at which hold-up ends, after a power-fail warning (R384). -/
  holdupEnd : Option Nat := none
  /-- Either feed satisfies feed restore (R383). -/
  feedOk : Bool := true
  /-- The model time since which Rime drives PWRON_N low (R385). -/
  pwronAt : Option Nat := none
  /-- The model time of the last sample (R376). -/
  sampleAt : Option Nat := none
  /-- PWRON_N has been pulled low from outside since the rails went down (R385). -/
  pwronExt : Bool := false
  /-- DORMANT was entered at the end of hold-up (R385). -/
  byHoldup : Bool := false
  /-- Rime has no power at all (R375). -/
  stopped : Bool := false
  /-- FEED_A and FEED_B over the last 8 samples, newest first (R397). -/
  feedHist : List (Nat × Nat) := []
  /-- The coin cell is lost beside the supercapacitor: the RTC stands (R387). -/
  rtcOff : Bool := false
deriving DecidableEq, Repr

/-- The icecore (R395 to R402). -/
structure Ice where
  /-- The MRAM slots 0 to 28,671. -/
  mram : SMap (Option IceRec) := []
  /-- Records in the buffer, or in the queue of H2 mode, oldest first. -/
  buf : List IceRec := []
  /-- The FLUSH command waits for the flush (R403). -/
  cmdFlush : Bool := false
  /-- The model times of the last 6 writes in H2 mode, newest first (R400). -/
  h2At : List Nat := []
  /-- Each requester's cursor (R401). -/
  cur : SMap Nat := []
  /-- The second of the counter in which LOG records were last accepted, and how many (R402). -/
  logSec : Nat := 0
  logCount : Nat := 0
deriving DecidableEq, Repr

/-! ## Faults (R450 to R457) -/

/-- A fault as Cirque holds it: cause code, class, island, case of R456, the number of its record, and the chain of a
head chain break. -/
structure FaultRec where
  cause : Nat
  cls : Nat
  island : Nat
  case : Nat
  seq : Nat
  chain : Nat := 0
deriving DecidableEq, Repr

/-- Cirque's fault handling (R452): the recovery in progress with the counter value at which it started, whether step 2
of R451 is still to come, the deferred faults, oldest first, and the islands in whose control state an uncorrectable error
has been met and is still to be raised (R450 cause 0x13). -/
structure Faults where
  cur : Option FaultRec := none
  start : Nat := 0
  step2 : Bool := false
  deferred : List FaultRec := []
  ctl : NSet := []
deriving DecidableEq, Repr

/-- A mode change asked for by SYS_MODE_REQ that runs (R357): TARGET, NO_OUT, and the counter value of the write. -/
structure ModeReq where
  target : Nat
  noOut : Bool
  at' : Nat
deriving DecidableEq, Repr

/-- The whole machine. -/
structure State where
  /-- The commands that wait, first in, first out. -/
  pending : List Instr := []
  /-- Elapsed time in units of 1.25 ns, running in every mode; the counter of R254 is what has elapsed since the main
  rails came up. -/
  now : Nat := 0
  /-- The model's own counter of free values drawn (log entry 1). -/
  free : Nat := 0
  /-- The register file, by address; an unlisted register holds its reset value (R12). -/
  regs : SMap Word := []
  /-- Snapshot latches: requester × 2^40 + address (R35, R36). -/
  latch : SMap (Option Word) := []
  gnor : Gnor := {}
  mem : Mem := {}
  lum : Lum := {}
  crq : Crq := {}
  time : TimeEng := {}
  melt : Melt := {}
  /-- CAN0 to CAN3. -/
  can : SMap CanSt := []
  planes : Planes := {}
  firn : Firn := {}
  sast : Sast := {}
  snow : Snow := {}
  src : Src := {}
  mor : Mor := {}
  /-- The Ethernet ports 0 to 5: U0, U1, E, W, P, M (R277). -/
  ports : SMap PortSt := []
  pair : PairSt := {}
  floe : FloeSt := {}
  vlt : Vlt := {}
  icf : Icf := {}
  board : Board := {}
  rime : Rime := {}
  ice : Ice := {}
  faults : Faults := {}
  /-- The mode change in progress by request (R357). -/
  modeReq : Option ModeReq := none
  /-- What the last command sent out. -/
  out : List OutMsg := []
deriving DecidableEq, Repr

/-- Why a step stops with a fault. -/
inductive Fault where
  /-- No command raises it: the spec ends every command in a next state (safe). -/
  | none
deriving DecidableEq, Repr

/-- Why a command has no meaning here. -/
inductive Refusal where
  /-- Raised by an arm of the dispatch whose command has no meaning yet (safe). -/
  | notModelled (mnemonic : String)
deriving DecidableEq, Repr

/-- The machine right after reset. -/
def State.reset : State := {}

end Sys2Proof.Machine
end

