-- ==== Sys2Proof/Machine/Ops.lean ====
section
/-!
DEFINITION. Sys2Proof/Machine/Ops.lean: the shared operations over the state: register fields, events and signals,
command completion, free values, network time, the output gates, threads and their registers.
-/

namespace Sys2Proof.Machine

/-! ## Completion codes (R33) -/

abbrev ccOk : Nat := 0x00
abbrev ccBusy : Nat := 0x01
abbrev ccNotFound : Nat := 0x02
abbrev ccFull : Nat := 0x03
abbrev ccParity : Nat := 0x04
abbrev ccDenied : Nat := 0x05
abbrev ccRange : Nat := 0x06
abbrev ccLate : Nat := 0x07
abbrev ccKeyGone : Nat := 0x08
abbrev ccStaleGen : Nat := 0x09
abbrev ccUe : Nat := 0x0A
abbrev ccQuota : Nat := 0x0B
abbrev ccSkew : Nat := 0x0C
abbrev ccRollback : Nat := 0x0D
abbrev ccSigFail : Nat := 0x0E
abbrev ccAborted : Nat := 0x0F

/-! ## Register fields -/

/-- The word that a register holds. -/
def State.reg (s : State) (a : Nat) : Word := SMap.get resetOf s.regs a

/-- A register given a word, in the canonical form of the register file. -/
def State.setReg (s : State) (a : Nat) (v : Word) : State := { s with regs := SMap.put resetOf s.regs a v }

/-- The value of a field. -/
def State.rd (s : State) (f : Fld) : Nat := bitsOf (s.reg f.a).toNat f.lo f.w

/-- A field given a value; the register's other bits stay. -/
def State.wr (s : State) (f : Fld) (v : Nat) : State :=
  s.setReg f.a (BitVec.ofNat 32 (withBits (s.reg f.a).toNat f.lo f.w v))

/-- Is a field nonzero? -/
def State.on (s : State) (f : Fld) : Bool := s.rd f != 0

/-- A one-bit field set. -/
def State.up (s : State) (f : Fld) : State := s.wr f 1

/-- A one-bit field cleared. -/
def State.down (s : State) (f : Fld) : State := s.wr f 0

/-- A one-bit field given a truth value. -/
def State.bit (s : State) (f : Fld) (b : Bool) : State := s.wr f (if b then 1 else 0)

/-- A counting field advanced by n, kept at its largest value (every count that "saturates"). -/
def State.count (s : State) (f : Fld) (n : Nat) : State := s.wr f (min (s.rd f + n) (2 ^ f.w - 1))

/-- A counting field advanced by n modulo its width. -/
def State.countMod (s : State) (f : Fld) (n : Nat) : State := s.wr f (s.rd f + n)

/-- Every register of a list given its reset value again. -/
def State.resetRegs (s : State) (p : Nat → Bool) : State :=
  { s with regs := s.regs.filter (fun e => !(p e.1)) }

/-- A 64-bit value held in a low and a high word. -/
def State.rd64 (s : State) (lo hi : Fld) : Nat := s.rd lo + 2 ^ 32 * s.rd hi

/-- A 64-bit value stored in a low and a high word. -/
def State.wr64 (s : State) (lo hi : Fld) (v : Nat) : State := (s.wr lo (v % 2 ^ 32)).wr hi (v / 2 ^ 32)

/-! ## Free values (log entry 1) and rounding (log entry 2) -/

/-- A free value: an opaque function of the model's own counter, which the draw advances. -/
def State.draw (s : State) : Nat × State := (Config.freeNat s.free, { s with free := s.free + 1 })

/-- A quotient whose rounding the spec leaves open. -/
def divOpen (n d : Nat) : Nat := if n % d = 0 then n / d else if Config.roundUp n d then n / d + 1 else n / d

/-- A quotient rounded up. -/
def divUp (n d : Nat) : Nat := (n + d - 1) / d

/-! ## Ready bits (R26, R137) -/

/-- The mode code of R20. -/
def State.mode (s : State) : Nat := s.rd SYS_MODE.MODE

/-- Are the main rails up (every mode but DORMANT, R20)? -/
def State.rails (s : State) : Bool := s.mode != 0

/-- A ready bit of SYS_READY by its number. -/
def State.rdy (s : State) (n : Nat) : Bool := ((s.reg SYS_READY.addr).toNat >>> n) % 2 == 1

/-- A ready bit set or cleared; READY_CHANGED sets where it changes. -/
def State.setReady (s : State) (n : Nat) (b : Bool) : State :=
  if s.rdy n == b then s
  else ((s.wr ⟨SYS_READY.addr, n, 1⟩ (if b then 1 else 0))).up SYS_EVT.READY_CHANGED

/-- The ready bit of SYS_READY that stands for each block of R23; SYS, CRQ and RIME have none (R26). -/
def readyBit (blk : Nat) : Option Nat :=
  match blk with
  | 2 => some 18 | 3 => some 19 | 4 => some 20 | 5 => some 4 | 6 => some 6 | 7 => some 7 | 8 => some 8
  | 9 => some 21 | 10 => some 23 | 11 => some 22 | 12 => some 3 | 15 => some 25 | _ => none

/-- Does the block answer (R26, and R137 for LUM)? -/
def State.blkReady (s : State) (blk : Nat) : Bool :=
  s.rails &&
  (if blk = 1 then ((s.reg SYS_READY.addr).toNat >>> 10) % 256 != 0
   else match readyBit blk with
    | some n => s.rdy n
    | none => true)

/-- Is the cluster's own ready bit set (R137)? -/
def State.clusterReady (s : State) (c : Nat) : Bool := s.rdy (10 + c)

/-! ## Events and signals (R27, R28) -/

/-- The first address of a block's registers (R23). -/
def blockBase (blk : Nat) : Nat := 0x40_0000_0000 + 0x0100_0000 * blk

/-- The mailbox agent whose register set lies in a block (R127): CRQ 32 and 35, VLT 33, ICF 34. -/
def agentsOf (blk : Nat) : List Nat :=
  if blk = 13 then [32, 35] else if blk = 12 then [33] else if blk = 15 then [34] else []

/-- Is a doorbell pending at an agent of the block? -/
def State.agentDb (s : State) (blk : Nat) : Bool := (agentsOf blk).any (fun a => s.on (MBX_DB.PEND a))

/-- Is an EMPTY bit set at an agent of the block? -/
def State.agentEmpty (s : State) (blk : Nat) : Bool :=
  (agentsOf blk).any (fun a => s.on (MBX_EMPTY_LO.EMPTY a) || s.on (MBX_EMPTY_HI.EMPTY a))

/-- The mailbox level bits of CRQ_EVT, VLT_EVT and ICF_EVT (R435 to R437). -/
def State.levelBits (s : State) (blk : Nat) : Nat :=
  let b (c : Bool) (f : Fld) : Nat := if c then 2 ^ f.lo else 0
  if blk = 13 then b (s.agentDb 13) CRQ_EVT.MBX_DB + b (s.agentEmpty 13) CRQ_EVT.MBX_EMPTY
  else if blk = 12 then b (s.agentDb 12) VLT_EVT.MBX_DB + b (s.agentEmpty 12) VLT_EVT.MBX_EMPTY
  else if blk = 15 then b (s.agentDb 15) ICF_EVT.MBX_DB + b (s.agentEmpty 15) ICF_EVT.MBX_EMPTY
  else 0

/-- A block's event register as it reads: its stored bits and its level bits. -/
def State.evt (s : State) (blk : Nat) : Nat := (s.reg (blockBase blk + 4)).toNat ||| s.levelBits blk

/-- Does the block signal its targets (R28)? -/
def State.signals (s : State) (blk : Nat) : Bool :=
  (s.evt blk &&& (s.reg (blockBase blk + 8)).toNat) != 0

/-- Does the block signal this lumen thread (R28, R109)? -/
def State.signalsThread (s : State) (blk t : Nat) : Bool :=
  let r := (s.reg (blockBase blk + 0xC)).toNat
  s.signals blk && r % 128 == t && bitsOf r 7 1 == 1

/-- Does the block signal Cirque (R28)? -/
def State.signalsCirque (s : State) (blk : Nat) : Bool :=
  s.signals blk && bitsOf (s.reg (blockBase blk + 0xC)).toNat 9 1 == 1

/-- The bits [23:8] of a thread's event register (R109). -/
def State.blkBits (s : State) (t : Nat) : Nat :=
  (List.range 16).foldl (fun a b => if s.signalsThread b t then a + 2 ^ b else a) 0

/-! ## Network time (R254 to R256) -/

/-- The free-running counter (R254). -/
def State.ctr (s : State) : Nat := (s.now - s.time.up) % 2 ^ 64

/-- The signed value of TIME_RATE, in units of 2^-40 (R255). -/
def State.rate (s : State) : Int := signedOf 32 (s.rd TIME_RATE.RATE)

/-- Network time in units of 2^-32 ns at a counter value (R255). -/
def State.timeAt (s : State) (c : Nat) : Nat :=
  s.time.tA + (c - s.time.cA) * 5 * ((2 ^ 40 + s.rate).toNat) / 1024

/-- Network time now, in whole ns (R255: reads truncate). -/
def State.netNs (s : State) : Nat := s.timeAt s.ctr / 2 ^ 32

/-- Network seconds now. -/
def State.netSec (s : State) : Nat := s.netNs / 1000000000

/-- The counter value at which network time first reaches a number of ns (R256). -/
def State.ctrOf (s : State) (ns : Nat) : Nat :=
  s.time.cA + divUp ((ns * 2 ^ 32 - s.time.tA) * 1024) (5 * ((2 ^ 40 + s.rate).toNat))

/-- Time has passed up to a model time, if that lies ahead (log entry 4). -/
def State.reach (s : State) (t : Nat) : State := { s with now := max s.now t }

/-- Time has passed up to a counter value, if that lies ahead. -/
def State.reachCtr (s : State) (c : Nat) : State := s.reach (s.time.up + c)

/-- Time has passed up to a network time in ns, if that lies ahead. -/
def State.reachNs (s : State) (ns : Nat) : State := if s.netNs < ns then s.reachCtr (s.ctrOf ns) else s

/-- Ticks of the counter in a number of µs. -/
abbrev usTicks (us : Nat) : Nat := us * 800

/-- Ticks of the counter in a number of ms. -/
abbrev msTicks (ms : Nat) : Nat := ms * 800000

/-! ## The command interface (R29 to R31) -/

/-- A command has completed: its status register shows the code, BUSY is clear and the command-done event is set. -/
def State.done (s : State) (stat : Nat) (evt : Fld) (cc : Nat) : State :=
  ((s.wr ⟨stat, 0, 8⟩ cc).wr ⟨stat, 31, 1⟩ 0).up evt

/-- A command has started and goes on: BUSY is set. -/
def State.start (s : State) (stat : Nat) : State := s.wr ⟨stat, 31, 1⟩ 1

/-- Is a command of the interface in progress? -/
def State.busy (s : State) (stat : Nat) : Bool := s.on ⟨stat, 31, 1⟩

/-- A write of the command register: ignored with OVERRUN while BUSY (R31), refused while the block is not ready
(R26), else the command. -/
def State.command (s : State) (blk stat : Nat) (run : State → State) : State :=
  if !s.blkReady blk then s
  else if s.busy stat then s.wr ⟨stat, 30, 1⟩ 1
  else run s

/-! ## HOLD and the output gates (R18, R355, R367) -/

/-- Does this module hold HOLD? -/
def State.holds (s : State) : Bool := s.on PAIR_STATUS.HOLD

/-- The gate of R355 for an output kind, by its bit in SYS_OUT_PERMIT: 0 setpoints and surges, 1 contactors by
programs, 2 pulses, 3 actuating CAN frames. -/
def State.modeGate (s : State) (kind : Nat) : Bool :=
  match s.mode with
  | 2 => ((s.reg SYS_OUT_PERMIT.addr).toNat >>> kind) % 2 == 1
  | 3 => true
  | 5 => !s.on SYS_MODE_RES.NO_OUT
  | _ => false

/-- An output kind may act: HOLD is held and the gate of R355 is open (R18). -/
def State.gate (s : State) (kind : Nat) : Bool := s.holds && s.modeGate kind

/-- Rule r's action applies: the rule is enabled and active and its qualifying rule allows it (R379). -/
def State.ruleEff (s : State) (r : Nat) : Bool :=
  let act (k : Nat) : Bool := ((s.reg RIME_RULE_STATE.addr).toNat >>> k) % 2 == 1
  s.on (RIME_RULE.EN r) && act r &&
    (!s.on (RIME_RULE.QUAL_EN r) || (act (s.rd (RIME_RULE.QUAL r)) != s.on (RIME_RULE.QUAL_INV r)))

/-- Does some effective rule with action a name contactor n? -/
def State.ruleActs (s : State) (a n : Nat) : Bool :=
  (List.range 32).any (fun r => s.ruleEff r && s.rd (RIME_RULE.ACT r) == a &&
    (s.rd (RIME_RULE.CTR r) >>> n) % 2 == 1)

/-- The Rime rule output for contactor n (R379). -/
def State.rimeOut (s : State) (n : Nat) : Bool := s.ruleActs 1 n && !s.ruleActs 2 n

/-- What drives CTRn (R367). -/
def State.ctrWant (s : State) (n : Nat) : Bool :=
  if s.on (SYS_CTR.FALLBACK n) then s.rimeOut n
  else if s.gate 1 then (if s.on (SYS_CTR.OWN n) then s.on (SYS_CTR.CMD n) else s.rimeOut n)
  else false

/-- The driver of CTRn is on: it is driven, and has not switched itself off (R472). -/
def State.ctrDrive (s : State) (n : Nat) : Bool :=
  s.ctrWant n && !s.rime.stopped && (SMap.get (fun _ => none) s.board.off n).isNone

/-- SYS_CTR(n) as it reads. -/
def State.ctrWord (s : State) (n : Nat) : Nat :=
  (s.reg (SYS_CTR.addr n)).toNat % 4 + (if s.rimeOut n then 4 else 0) + (if s.ctrDrive n then 8 else 0)
    + s.rd (SYS_CTR.FALLBACK n) * 16

/-! ## Gnor threads -/

/-- General register r of thread t; g0 reads 0 (R138). -/
def State.greg (s : State) (t : Nat) (r : GReg) : Dword :=
  if r = 0 then 0 else SMap.get (fun _ => 0) s.gnor.g (32 * t + r.toNat)

/-- General register r of thread t written; a write to g0 is discarded (R138). -/
def State.setG (s : State) (t : Nat) (r : GReg) (v : Dword) : State :=
  if r = 0 then s else { s with gnor := { s.gnor with g := SMap.put (fun _ => 0) s.gnor.g (32 * t + r.toNat) v } }

/-- Wide register r of thread t (R139). -/
def State.wreg (s : State) (t : Nat) (r : WReg) : Wide := SMap.get (fun _ => 0) s.gnor.w (8 * t + r.toNat)

/-- Wide register r of thread t written. -/
def State.setW (s : State) (t : Nat) (r : WReg) (v : Wide) : State :=
  { s with gnor := { s.gnor with w := SMap.put (fun _ => 0) s.gnor.w (8 * t + r.toNat) v } }

/-- The program counter of a thread. -/
def State.pc (s : State) (t : Nat) : BitVec 40 := SMap.get (fun _ => 0) s.gnor.pc t

/-- The program counter of a thread written. -/
def State.setPc (s : State) (t : Nat) (v : BitVec 40) : State :=
  { s with gnor := { s.gnor with pc := SMap.put (fun _ => 0) s.gnor.pc t v } }

/-- EVMASK of a thread. -/
def State.evmask (s : State) (t : Nat) : Word := SMap.get (fun _ => 0) s.gnor.evmask t

/-- EVMASK of a thread written; bits [7:6] and [31:24] ignore writes (R140). -/
def State.setEvmask (s : State) (t : Nat) (v : Word) : State :=
  { s with gnor := { s.gnor with evmask := SMap.put (fun _ => 0) s.gnor.evmask t (v &&& 0x00FF_FF3F#32) } }

/-- CC of a thread. -/
def State.cc (s : State) (t : Nat) : Byte := SMap.get (fun _ => 0) s.gnor.cc t

/-- CC of a thread written. -/
def State.setCc (s : State) (t : Nat) (v : Byte) : State :=
  { s with gnor := { s.gnor with cc := SMap.put (fun _ => 0) s.gnor.cc t v } }

/-- XPC of a thread. -/
def State.xpc (s : State) (t : Nat) : BitVec 40 := SMap.get (fun _ => 0) s.gnor.xpc t

/-- XPC of a thread written; bits [1:0] read 0 (R140). -/
def State.setXpc (s : State) (t : Nat) (v : BitVec 40) : State :=
  { s with gnor := { s.gnor with xpc := SMap.put (fun _ => 0) s.gnor.xpc t (v &&& 0xFF_FFFF_FFFC#40) } }

/-- XCAUSE of a thread. -/
def State.xcause (s : State) (t : Nat) : Dword := SMap.get (fun _ => 0) s.gnor.xcause t

/-- XCAUSE of a thread written. -/
def State.setXcause (s : State) (t : Nat) (v : Dword) : State :=
  { s with gnor := { s.gnor with xcause := SMap.put (fun _ => 0) s.gnor.xcause t v } }

/-- XCAUSE.XACT: the thread runs its handler (R140). -/
def State.xact (s : State) (t : Nat) : Bool := (s.xcause t).getLsbD 16

/-- The thread states of R106. -/
abbrev thStopped : Nat := 0
abbrev thRunning : Nat := 1
abbrev thWaiting : Nat := 2
abbrev thStalled : Nat := 3
abbrev thFaulted : Nat := 4
abbrev thStopping : Nat := 5

/-- The state of a lumen thread (R106). -/
def State.thState (s : State) (t : Nat) : Nat := s.rd (LUM_T_STATE.STATE t)

/-- The state of a lumen thread changed. -/
def State.setTh (s : State) (t : Nat) (st : Nat) : State := s.wr (LUM_T_STATE.STATE t) st

/-- The primitive in progress of a thread (R168). -/
def State.prim (s : State) (t : Nat) : Option Prim := SMap.get (fun _ => none) s.lum.prims t

/-- The primitive in progress of a thread changed. -/
def State.setPrim (s : State) (t : Nat) (p : Option Prim) : State :=
  { s with lum := { s.lum with prims := SMap.put (fun _ => none) s.lum.prims t p } }

/-- The core of a thread (R104). -/
abbrev coreOf (t : Nat) : Nat := t / 4

/-- The mailbox agent of a requester (R122). -/
def agentOf (r : Req) : Nat := if r < 128 then r / 4 else r - 96

/-! ## Doorbells and mailbox channels (R122 to R127) -/

/-- The doorbell register of an agent: LUM_DB of a core, or MBX_DB of agents 32 to 35. -/
def dbField (agent : Nat) : Fld := if agent < 32 then LUM_DB.PEND agent else MBX_DB.PEND agent

/-- Doorbell bits set at an agent (R125, R127). -/
def State.ring (s : State) (agent : Nat) (bits : Nat) : State :=
  s.wr (dbField agent) (s.rd (dbField agent) ||| bits)

/-- Doorbell bits cleared at an agent. -/
def State.unring (s : State) (agent : Nat) (bits : Nat) : State :=
  s.wr (dbField agent) (s.rd (dbField agent) &&& (2 ^ 32 - 1 - bits % 2 ^ 32))

/-- The channel from a sender to a receiver (R122). -/
def State.chan (s : State) (snd rcv : Nat) : Option (Word × Nat) :=
  SMap.get (fun _ => none) s.lum.mbx (36 * snd + rcv)

/-- The channel from a sender to a receiver changed. -/
def State.setChan (s : State) (snd rcv : Nat) (v : Option (Word × Nat)) : State :=
  { s with lum := { s.lum with mbx := SMap.put (fun _ => none) s.lum.mbx (36 * snd + rcv) v } }

/-- The doorbell map of receiver r for sender s: whether it rings, and the bit (R123, R127). -/
def State.dbMap (s : State) (snd rcv : Nat) : Bool × Nat :=
  if rcv < 32 then (s.on (LUM_MBX_DB.EN rcv snd), s.rd (LUM_MBX_DB.BIT rcv snd))
  else (s.on (MBX_DBMAP.EN rcv snd), s.rd (MBX_DBMAP.BIT rcv snd))

/-- Is the receiving agent unable to take words: agent 32 to 34 with its ready bit clear (R123)? -/
def State.agentDown (s : State) (agent : Nat) : Bool :=
  (agent == 32 && !s.rdy 2) || (agent == 33 && !s.rdy 3) || (agent == 34 && !s.rdy 25)

/-- The sender is told that its word was read (R124): EMPTY of the sending thread, or of the sending agent. -/
def State.tellEmpty (s : State) (snd rcv tid : Nat) : State :=
  if snd < 32 then s.up (LUM_T_TEV.EMPTY tid)
  else if rcv < 32 then s.wr (MBX_EMPTY_LO.EMPTY snd) (s.rd (MBX_EMPTY_LO.EMPTY snd) ||| 2 ^ rcv)
  else s.wr (MBX_EMPTY_HI.EMPTY snd) (s.rd (MBX_EMPTY_HI.EMPTY snd) ||| 2 ^ (rcv - 32))

/-- A word sent on a channel, with the sending requester (R123): the completion code and the state. The
vault and Icefall drop every word at once (R410). -/
def State.mbxSend (s : State) (snd rcv : Nat) (tid : Nat) (v : Word) : Nat × State :=
  if 35 < rcv || rcv = snd then (ccRange, s)
  else if s.agentDown rcv then (ccBusy, s)
  else match s.chan snd rcv with
    | some _ => (ccFull, s)
    | none =>
      let (en, b) := s.dbMap snd rcv
      let s := if en then s.ring rcv (2 ^ b) else s
      (ccOk, if rcv = 33 || rcv = 34 then s.tellEmpty snd rcv tid else s.setChan snd rcv (some (v, tid)))

/-- A word received from a channel (R124): the completion code, the word and the state. -/
def State.mbxRecv (s : State) (snd rcv : Nat) : Nat × Word × State :=
  if 35 < snd || rcv = snd then (ccRange, 0, s)
  else match s.chan snd rcv with
    | some (v, tid) => (ccOk, v, (s.setChan snd rcv none).tellEmpty snd rcv tid)
    | none => (ccNotFound, 0, s)

/-! ## The launch queues (R270, R273) -/

/-- The time engine changed. -/
def State.onTime (s : State) (f : TimeEng → TimeEng) : State := { s with time := f s.time }

/-- A launch queue. -/
def State.lq (s : State) (q : Nat) : List LFrame := SMap.get (fun _ => []) s.time.queues q

/-- A launch queue changed; TIME_LQ_FILL follows. -/
def State.setLq (s : State) (q : Nat) (l : List LFrame) : State :=
  (s.onTime (fun t => { t with queues := SMap.put (fun _ => []) t.queues q l })).wr (TIME_LQ_FILL.QUEUED q) l.length

/-- The frame of a queue whose attempt on a CAN bus runs; it may come back to the queue (R444), and keeps its place in it and
in the store. -/
def State.inAttempt (s : State) (q : Nat) : Option LFrame :=
  if 16 ≤ q then (SMap.get (fun _ => {}) s.can (q - 16)).tx else none

/-- Octets held in the launch store (R273). -/
def State.storeUse (s : State) : Nat :=
  s.time.queues.foldl (fun a (q : Nat × List LFrame) => q.2.foldl (fun a f => a + f.data.length) a)
    (((List.range 4).filterMap (fun n => s.inAttempt (16 + n))).foldl (fun a f => a + f.data.length) 0)

/-- Has a queue, and the store, room for a frame of a length (R273)? -/
def State.lqRoom (s : State) (q len : Nat) : Bool :=
  (s.lq q).length + (if (s.inAttempt q).isSome then 1 else 0) < 256 && s.storeUse + len ≤ 2 ^ 22

/-! ## Outgoing messages, and the pair as a block sees it -/

/-- Messages sent by the command in progress. -/
def State.say (s : State) (l : List OutMsg) : State := { s with out := s.out ++ l }

/-- Is this module strapped secondary? -/
def State.secondary (s : State) : Bool := s.on PAIR_STATUS.ROLE

/-- The ring index of the partner: the pair's two indices differ in bit 0 (log entry 13). -/
def State.partnerIndex (s : State) : Nat := s.rd FLOE_CFG.INDEX ^^^ 1

/-- The module index under which this module's endpoints are served (R17): the primary's, also on a secondary. -/
def State.servedIndex (s : State) : Nat := if s.secondary then s.partnerIndex else s.rd FLOE_CFG.INDEX

/-- The module stands by in SHADOW (R15). -/
def State.standsBy (s : State) : Bool := s.mode == 4

end Sys2Proof.Machine
end

