-- ==== Sys2Proof/Machine/Memory.lean ====
section
/-!
DEFINITION. Sys2Proof/Machine/Memory.lean: the memories as their users see them: DRAM with Firn's region in it, the
SRAMs, poison marks, the data and instruction caches of the cores, and write-backs.
-/

namespace Sys2Proof.Machine

/-! ## Firn's region as bytes (R52) -/

/-- What an unlisted node-plane entry holds: after a fill OWED 0xFFFF and every other byte 0 (R52), else 0. -/
def nodeDefault (filled : Bool) (_ : Nat) : Wide := if filled then BitVec.ofNat 128 (0xFFFF <<< 48) else 0

abbrev zeroWide (_ : Nat) : Wide := 0
abbrev zeroCal (_ : Nat) : BitVec 512 := 0
abbrev zeroWord (_ : Nat) : Word := 0
abbrev zeroByte (_ : Nat) : Byte := 0

/-- Byte i of a number. -/
def byteAt (x i : Nat) : Byte := BitVec.ofNat 8 (x >>> (8 * i))

/-- A number with its byte i replaced. -/
def setByteAt (x i : Nat) (b : Byte) : Nat := withBits x (8 * i) 8 b.toNat

/-- One bit map as bytes: endpoint e is bit e mod 8 of byte e / 8. -/
def mapByte (m : NSet) (i : Nat) : Byte :=
  BitVec.ofNat 8 ((List.range 8).foldl (fun a k => if m.contains (8 * i + k) then a + 2 ^ k else a) 0)

/-- One bit map with a byte written. -/
def setMapByte (m : NSet) (i : Nat) (b : Byte) : NSet :=
  (List.range 8).foldl (fun m k => if b.getLsbD k then NSet.add m (8 * i + k) else NSet.del m (8 * i + k)) m

/-- The bytes of a delta-log entry as a number (R72). -/
def LogEntry.toNat (e : LogEntry) : Nat :=
  e.ep % 2 ^ 20 + (if e.off then 2 ^ 24 else 0) + (if e.locate then 2 ^ 25 else 0)
    + (e.drives % 2 ^ 64) * 2 ^ 32 + (e.fade % 2 ^ 16) * 2 ^ 96

/-- Byte i of a delta-log slot: its entries, the END entry after the last, and nothing defined beyond. -/
def logByte (k : Nat) (sl : Option LogSlot) (i : Nat) : Byte :=
  match sl with
  | none => 0
  | some l =>
    match l.entries[i / 16]? with
    | some e => byteAt e.toNat (i % 16)
    | none =>
      if i / 16 = l.entries.length then (if i % 16 = 3 then 0x80 else 0)
      else Config.undefByte (0x0A00_0000 + 0x0100_0000 * k + i) l.frame

/-- Byte at an offset of Firn's region as the planes have it (R52). -/
def Planes.plain (p : Planes) (o : Nat) : Byte :=
  if o < 0x0100_0000 then byteAt (SMap.get zeroWide p.fb0 (o / 16)).toNat (o % 16)
  else if o < 0x0200_0000 then byteAt (SMap.get zeroWide p.fb1 ((o - 0x0100_0000) / 16)).toNat (o % 16)
  else if o < 0x0300_0000 then byteAt (SMap.get zeroWide p.ahead ((o - 0x0200_0000) / 16)).toNat (o % 16)
  else if o < 0x0400_0000 then byteAt (SMap.get zeroWide p.dp0 ((o - 0x0300_0000) / 16)).toNat (o % 16)
  else if o < 0x0500_0000 then byteAt (SMap.get zeroWide p.dp1 ((o - 0x0400_0000) / 16)).toNat (o % 16)
  else if o < 0x0900_0000 then byteAt (SMap.get zeroCal p.cal ((o - 0x0500_0000) / 64)).toNat (o % 64)
  else if o < 0x0940_0000 then byteAt (SMap.get zeroWord p.map ((o - 0x0900_0000) / 4)).toNat (o % 4)
  else if o < 0x0980_0000 then byteAt (SMap.get zeroWord p.derate ((o - 0x0940_0000) / 4)).toNat (o % 4)
  else if o < 0x09C0_0000 then byteAt (SMap.get (nodeDefault p.filled) p.node ((o - 0x0980_0000) / 16)).toNat (o % 16)
  else if o < 0x09C2_0000 then mapByte p.dirty0 (o - 0x09C0_0000)
  else if o < 0x09C4_0000 then mapByte p.dirty1 (o - 0x09C2_0000)
  else if o < 0x09C6_0000 then mapByte p.dirtyA (o - 0x09C4_0000)
  else if o < 0x0A00_0000 then 0
  else if o < 0x1200_0000 then
    logByte ((o - 0x0A00_0000) / 0x0100_0000) (SMap.get (fun _ => none) p.log ((o - 0x0A00_0000) / 0x0100_0000))
      (o % 0x0100_0000)
  else 0

/-- Byte at an offset of Firn's region. -/
def Planes.byte (p : Planes) (o : Nat) : Byte := (SMap.get (fun _ => none) p.above o).getD (p.plain o)

/-- One entry of a plane with a byte written. -/
def putEntry {w : Nat} (d : Nat → BitVec w) (m : SMap (BitVec w)) (k i : Nat) (b : Byte) : SMap (BitVec w) :=
  SMap.put d m k (BitVec.ofNat w (setByteAt (SMap.get d m k).toNat i b))

/-- A delta-log slot with a byte written, as the mirror writes it on a standby: the entry that holds the byte. -/
def putLogByte (sl : Option LogSlot) (i : Nat) (b : Byte) : Option LogSlot :=
  let l := sl.getD { frame := 0, entries := [] }
  let n := i / 16
  let zero : LogEntry := { ep := 0, drives := 0, fade := 0, off := false, locate := false }
  let es := l.entries ++ List.replicate (n + 1 - l.entries.length) zero
  let x := setByteAt ((es[n]?).getD zero).toNat (i % 16) b
  let e : LogEntry := ⟨bitsOf x 0 20, bitsOf x 32 64, bitsOf x 96 16, bitsOf x 24 1 == 1, bitsOf x 25 1 == 1⟩
  some { l with entries := if bitsOf x 31 1 == 1 then es.take n else es.set n e }

/-- A byte that stands before what the planes say. -/
def Planes.putOver (p : Planes) (o : Nat) (b : Option Byte) : Planes := { p with above := SMap.put (fun _ => none) p.above o b }

/-- The planes with a byte of the region written, as the mirror writes it on a standby (R53). -/
def Planes.putByte (p : Planes) (o : Nat) (b : Byte) : Planes :=
  if o < 0x0100_0000 then { p with fb0 := putEntry zeroWide p.fb0 (o / 16) (o % 16) b }
  else if o < 0x0200_0000 then { p with fb1 := putEntry zeroWide p.fb1 ((o - 0x0100_0000) / 16) (o % 16) b }
  else if o < 0x0300_0000 then { p with ahead := putEntry zeroWide p.ahead ((o - 0x0200_0000) / 16) (o % 16) b }
  else if o < 0x0400_0000 then { p with dp0 := putEntry zeroWide p.dp0 ((o - 0x0300_0000) / 16) (o % 16) b }
  else if o < 0x0500_0000 then { p with dp1 := putEntry zeroWide p.dp1 ((o - 0x0400_0000) / 16) (o % 16) b }
  else if o < 0x0900_0000 then { p with cal := putEntry zeroCal p.cal ((o - 0x0500_0000) / 64) (o % 64) b }
  else if o < 0x0940_0000 then { p with map := putEntry zeroWord p.map ((o - 0x0900_0000) / 4) (o % 4) b }
  else if o < 0x0980_0000 then { p with derate := putEntry zeroWord p.derate ((o - 0x0940_0000) / 4) (o % 4) b }
  else if o < 0x09C0_0000 then { p with node := putEntry (nodeDefault p.filled) p.node ((o - 0x0980_0000) / 16) (o % 16) b }
  else if o < 0x09C2_0000 then { p with dirty0 := setMapByte p.dirty0 (o - 0x09C0_0000) b }
  else if o < 0x09C4_0000 then { p with dirty1 := setMapByte p.dirty1 (o - 0x09C2_0000) b }
  else if o < 0x09C6_0000 then { p with dirtyA := setMapByte p.dirtyA (o - 0x09C4_0000) b }
  else if o < 0x0A00_0000 then p.putOver o (some b)
  else if o < 0x1200_0000 then
    let k := (o - 0x0A00_0000) / 0x0100_0000
    let sl := putLogByte (SMap.get (fun _ => none) p.log k) (o % 0x0100_0000) b
    { p with log := SMap.put (fun _ => none) p.log k sl }
  else p.putOver o (some b)

/-- The bytes that stand before the planes become the planes' own, as EN comes to 1 by the mirror (R52: no fill is made). -/
def Planes.absorb (p : Planes) : Planes := p.above.foldl (fun q e => q.putByte e.1 (e.2.getD 0)) { p with above := [] }

/-- The size of Firn's region, 512 MiB (R52), and of Moraine's, 2 GiB (R322). -/
abbrev firnSize : Nat := 0x2000_0000
abbrev morSize : Nat := 0x8000_0000

/-- The base named by FIRN_REGION_LO and FIRN_REGION_HI. -/
def State.firnBase (s : State) : Nat := s.rd FIRN_REGION_LO.BASE_LO * 2 ^ 29 + s.rd FIRN_REGION_HI.BASE_HI * 2 ^ 32

/-- The base named by MOR_REGION_LO and MOR_REGION_HI. -/
def State.morBase (s : State) : Nat := s.rd MOR_REGION_LO.BASE_LO * 2 ^ 31 + s.rd MOR_REGION_HI.BASE_HI * 2 ^ 32

/-- A write to this DRAM byte is refused to every agent but the region's owner (R53, R322). -/
def State.protectedAt (s : State) (a : Nat) : Bool :=
  ((s.on FIRN_CTRL.EN || s.planes.filling) && s.firnBase ≤ a && a < s.firnBase + firnSize) ||
  (s.on MOR_CTRL.EN && s.morBase ≤ a && a < s.morBase + morSize)

/-! ## DRAM -/

/-- The offset in Firn's planes of a DRAM byte that lies in them. -/
def State.planeOff (s : State) (a : Nat) : Option Nat :=
  match s.planes.base with
  | some b => if b ≤ a && a < b + firnSize then some (a - b) else none
  | none => none

/-- A DRAM byte: Firn's planes where they lie, Moraine's staging (whose layout the spec does not give) while it is
enabled, else memory. -/
def State.dramByte (s : State) (a : Nat) : Byte :=
  match s.planeOff a with
  | some o => s.planes.byte o
  | none =>
    if s.on MOR_CTRL.EN && s.morBase ≤ a && a < s.morBase + morSize then Config.undefByte a s.now
    else SMap.get zeroByte s.mem.dram a

/-- A DRAM byte written: Firn's region is ordinary DRAM while EN is 0 (R53). -/
def State.putDramByte (s : State) (a : Nat) (b : Byte) : State :=
  match s.planeOff a with
  | some o => { s with planes := if s.on FIRN_CTRL.EN then s.planes.putByte o b else s.planes.putOver o (some b) }
  | none => { s with mem := { s.mem with dram := SMap.put zeroByte s.mem.dram a b } }

/-- Bytes of DRAM. -/
def State.dramBytes (s : State) (a : Nat) : Nat → List Byte
  | 0 => []
  | n + 1 => s.dramByte a :: State.dramBytes s (a + 1) n

/-- Bytes of DRAM written. -/
def State.putDramBytes (s : State) (a : Nat) : List Byte → State
  | [] => s
  | b :: bs => State.putDramBytes (s.putDramByte a b) (a + 1) bs

/-- Is the 64-bit word that holds a DRAM byte poisoned (R39)? -/
def State.dramPoisoned (s : State) (a : Nat) : Bool := s.mem.dramPoison.contains (a / 8)

/-- Does a range touch a word of k bytes? -/
def touches (k a n w : Nat) : Bool := decide (a / k ≤ w) && decide (w * k < a + n)

/-- Does a range cover a word of k bytes whole? -/
def covers (k a n w : Nat) : Bool := decide (a ≤ w * k) && decide (w * k + k ≤ a + n)

/-- The poisoned 64-bit words that a range touches. -/
def State.dramPoisonOf (s : State) (a n : Nat) : List Nat := s.mem.dramPoison.filter (touches 8 a n)

/-- Does any 64-bit word that the range touches hold poison? -/
def State.dramPoisonIn (s : State) (a n : Nat) : Bool := s.mem.dramPoison.any (touches 8 a n)

/-- Some words held a correctable error when they were met: SYS_ECC_CE counts them (R41, R45). -/
def State.eccCe (s : State) (n : Nat) : State :=
  if n = 0 then s else (s.count SYS_ECC_CE.COUNT n).up SYS_EVT.ECC_CE

/-- The correctable errors of the 64-bit words that a read or a narrow write touches are corrected, written back and
counted (R41, R45). -/
def State.mendDram (s : State) (a n : Nat) : State :=
  ({ s with mem := { s.mem with dramCe := s.mem.dramCe.filter (fun w => !touches 8 a n w) } }).eccCe
    (s.mem.dramCe.filter (touches 8 a n)).length

/-- The 64-bit words that a range covers whole get fresh check bits: their error marks are gone (R43). -/
def State.healDram (s : State) (a n : Nat) : State :=
  { s with mem := { s.mem with
      dramPoison := s.mem.dramPoison.filter (fun w => !covers 8 a n w)
      dramCe := s.mem.dramCe.filter (fun w => !covers 8 a n w) } }

/-- An uncorrectable error found at an address (SYS_ECC_UE, R42): the first is kept, a further one sets OVERFLOW. -/
def State.eccUe (s : State) (source a : Nat) : State :=
  let s := s.up SYS_EVT.ECC_UE
  if s.on SYS_ECC_UE_HI.VALID then s.up SYS_ECC_UE_HI.OVERFLOW
  else (((s.wr SYS_ECC_UE_LO.ADDR_LO (a % 2 ^ 32)).wr SYS_ECC_UE_HI.ADDR_HI (a / 2 ^ 32)).wr SYS_ECC_UE_HI.SOURCE
    source).up SYS_ECC_UE_HI.VALID

/-- The address at which an access of a range meets a poisoned word of k bytes. -/
def poisonAt (k a w : Nat) : Nat := max a (k * w)

/-- Uncorrectable errors found in DRAM by an access of a range: each poisoned word is one (R42). -/
def State.dramUe (s : State) (a n : Nat) : State :=
  (s.dramPoisonOf a n).foldl (fun s w => s.eccUe 0 (poisonAt 8 a w)) s

/-- A block reads DRAM: the bytes, or none where the range leaves DRAM or a word it needs is poisoned (R22, R44). -/
def State.dmaRead (s : State) (a n : Nat) : Option (List Byte) :=
  if 2 ^ 36 < a + n || s.dramPoisonIn a n then none else some (s.dramBytes a n)

/-- What a block's read of DRAM leaves where it has its bytes: words met with a correctable error are corrected (R45). -/
def State.dmaMet (s : State) (a n : Nat) : State := s.mendDram a n

/-- The code and the state of a block's read of DRAM that has failed: DENIED outside DRAM, UE on poison (R22, R44). -/
def State.dmaFail (s : State) (a n : Nat) : Nat × State :=
  if 2 ^ 36 < a + n then (ccDenied, s.up SYS_EVT.ACCESS_FAULT) else (ccUe, s.dramUe a n)

/-- Bytes of DRAM written, but for those of the words that a test names. -/
def State.putDramBut (s : State) (keep : Nat → Bool) (a : Nat) : List Byte → State
  | [] => s
  | b :: bs => State.putDramBut (if keep (a / 8) then s else s.putDramByte a b) keep (a + 1) bs

/-- A block, Cirque or a host writes DRAM. The range is refused whole where a byte of it lies outside DRAM or is protected
(R22, R53). A poisoned word that it covers in part keeps its bytes and its mark, and the writer gets UE (R42). -/
def State.dmaWrite (s : State) (a : Nat) (bs : List Byte) : Nat × State :=
  let n := bs.length
  if 2 ^ 36 < a + n then (ccDenied, s.up SYS_EVT.ACCESS_FAULT)
  else if (List.range n).any (fun i => s.protectedAt (a + i)) then (ccDenied, s.up SYS_EVT.ACCESS_FAULT)
  else
    let t := (s.healDram a n).mendDram a n
    if t.dramPoisonIn a n then (ccUe, (t.putDramBut (t.dramPoisonOf a n).contains a bs).dramUe a n)
    else (ccOk, t.putDramBytes a bs)

/-! ## The address map as a core sees it (R22, R116) -/

/-- The regions of the address map. -/
inductive Region where
  | dram | regs | loc | clu | crq | absent
deriving DecidableEq, Repr

/-- The region of an address for a core (32: Cirque, which has its own SRAM and no lumen SRAM). -/
def regionOf (core a : Nat) : Region :=
  if a < 2 ^ 36 then .dram
  else if a / 2 ^ 28 = 0x400 then .regs
  else if core < 32 && 0x80_0000_0000 ≤ a && a < 0x80_0002_0000 then .loc
  else if core < 32 && 0x80_1000_0000 ≤ a && a < 0x80_1020_0000 then .clu
  else if core = 32 && Config.cirqueSram a then .crq
  else .absent

/-- The key of a local SRAM byte. -/
abbrev locKey (core a : Nat) : Nat := 131072 * core + (a - 0x80_0000_0000)

/-- The key of a cluster SRAM byte. -/
abbrev cluKey (core a : Nat) : Nat := 2097152 * (core / 4) + (a - 0x80_1000_0000)

/-- Bytes of an SRAM region. -/
def State.sramBytes (s : State) (r : Region) (core a n : Nat) : List Byte :=
  match r with
  | .loc => SMap.getList zeroByte s.mem.lsram (locKey core a) n
  | .clu => SMap.getList zeroByte s.mem.csram (cluKey core a) n
  | .crq => SMap.getList zeroByte s.mem.crqSram a n
  | _ => List.replicate n 0

/-- Bytes of an SRAM region written. -/
def State.putSram (s : State) (r : Region) (core a : Nat) (bs : List Byte) : State :=
  match r with
  | .loc => { s with mem := { s.mem with lsram := SMap.putList zeroByte s.mem.lsram (locKey core a) bs } }
  | .clu => { s with mem := { s.mem with csram := SMap.putList zeroByte s.mem.csram (cluKey core a) bs } }
  | .crq => { s with mem := { s.mem with crqSram := SMap.putList zeroByte s.mem.crqSram a bs } }
  | _ => s

/-- The poisoned 32-bit words of an SRAM region, and the word-numbering base of a core's view of it. Cirque's own SRAM is
not in the list of R39, and has no SOURCE code in SYS_ECC_UE_HI: it holds no error marks (log entry 37). -/
def State.sramPoison (s : State) (r : Region) : NSet :=
  match r with
  | .loc => s.mem.lsramPoison
  | .clu => s.mem.csramPoison
  | _ => []

/-- The words of an SRAM region that hold a correctable error. -/
def State.sramCe (s : State) (r : Region) : NSet :=
  match r with
  | .loc => s.mem.lsramCe
  | .clu => s.mem.csramCe
  | _ => []

/-- The key of an SRAM byte. -/
def sramKey (r : Region) (core a : Nat) : Nat :=
  match r with
  | .loc => locKey core a
  | .clu => cluKey core a
  | _ => a

/-- Does a 32-bit word that the range touches hold poison in an SRAM region? -/
def State.sramPoisonIn (s : State) (r : Region) (core a n : Nat) : Bool :=
  (s.sramPoison r).any (touches 4 (sramKey r core a) n)

/-- The first address of a range at which a poisoned word of an SRAM region is met. -/
def State.sramPoisonAt (s : State) (r : Region) (core a n : Nat) : Nat :=
  match (s.sramPoison r).find? (touches 4 (sramKey r core a) n) with
  | some w => a + (4 * w - sramKey r core a)
  | none => a

/-- An uncorrectable error met in an SRAM region. -/
def State.sramUe (s : State) (r : Region) (core a n : Nat) : State :=
  s.eccUe (if r = .loc then 1 else 2) (s.sramPoisonAt r core a n)

/-- The marks of an SRAM region's words changed. -/
def State.setMarks (s : State) (r : Region) (ue ce : NSet) : State :=
  match r with
  | .loc => { s with mem := { s.mem with lsramPoison := ue, lsramCe := ce } }
  | .clu => { s with mem := { s.mem with csramPoison := ue, csramCe := ce } }
  | _ => s

/-- The correctable errors of the 32-bit words that a read or a narrow write touches are corrected and counted (R41, R45). -/
def State.mendSram (s : State) (r : Region) (core a n : Nat) : State :=
  let hit := touches 4 (sramKey r core a) n
  (s.setMarks r (s.sramPoison r) ((s.sramCe r).filter (fun w => !hit w))).eccCe ((s.sramCe r).filter hit).length

/-- The 32-bit words that a range covers whole get fresh check bits (R43). -/
def State.healSram (s : State) (r : Region) (core a n : Nat) : State :=
  let cut (m : NSet) : NSet := m.filter (fun w => !covers 4 (sramKey r core a) n w)
  s.setMarks r (cut (s.sramPoison r)) (cut (s.sramCe r))

/-- Bytes written in an SRAM region: whole words get fresh check bits, and the rest are merged (R40, R41, R43). -/
def State.writeSram (s : State) (r : Region) (core a : Nat) (bs : List Byte) : State :=
  ((s.healSram r core a bs.length).mendSram r core a bs.length).putSram r core a bs

/-! ## Write-backs and the data caches (R118, R163) -/

/-- The dirty words of a line. -/
def DLine.words (l : DLine) : List (Nat × List Byte) :=
  l.dirty.map (fun k => (k, (l.data.drop (8 * k)).take 8))

/-- One word of a write-back reaches DRAM: refused, and so discarded, in a protected region (R53). -/
def State.landWord (s : State) (a : Nat) (bs : List Byte) : State :=
  if s.protectedAt a then s.up SYS_EVT.ACCESS_FAULT else (s.healDram a 8).putDramBytes a bs

/-- A write-back lands. -/
def State.landWB (s : State) (w : WB) : State :=
  w.words.foldl (fun s p => s.landWord (w.addr + 8 * p.1) p.2) s

/-- Are two write-backs of one core, and do they hold a word in common? -/
def WB.meets (v w : WB) : Bool :=
  v.core == w.core && v.addr == w.addr && v.words.any (fun p => w.words.any (fun q => p.1 == q.1))

/-- The write-backs of a list, in the order in which they started, that must land no later than those a test picks: these,
and those before one of them that share a word with it (R163). -/
def wbsNeed (p : WB → Bool) (l : List WB) : List WB :=
  l.foldr (fun v need => if p v || need.any v.meets then v :: need else need) []

/-- The started write-backs that a test picks land, in the order in which they were started. -/
def State.landWBs (s : State) (p : WB → Bool) : State :=
  let s' := (s.mem.wbs.filter p).foldl State.landWB s
  { s' with mem := { s'.mem with wbs := s.mem.wbs.filter (fun w => !(p w)) } }

/-- The data-cache line of a core that holds an address. -/
def State.dline (s : State) (core a : Nat) : Option DLine :=
  s.mem.dcache.find? (fun l => l.core == core && l.addr == a / 64 * 64)

/-- A line of a data cache replaced or added. -/
def State.setDline (s : State) (l : DLine) : State :=
  { s with mem := { s.mem with
      dcache := s.mem.dcache.filter (fun m => !(m.core == l.core && m.addr == l.addr)) ++ [l] } }

/-- A line of a data cache dropped. -/
def State.dropDline (s : State) (core addr : Nat) : State :=
  { s with mem := { s.mem with dcache := s.mem.dcache.filter (fun m => !(m.core == core && m.addr == addr)) } }

/-- A write-back of a line's dirty words starts (R163), by a thread's FLUSH or INVAL or, with none, to make room. -/
def State.startWB (s : State) (tid : Option Nat) (l : DLine) : State :=
  if l.dirty.isEmpty then s
  else { s with mem := { s.mem with wbs := s.mem.wbs ++ [⟨l.core, l.addr, l.words, tid⟩] } }

/-- A line leaves a data cache: its dirty words start their write-back. -/
def State.evictD (s : State) (tid : Option Nat) (l : DLine) : State := (s.startWB tid l).dropDline l.core l.addr

/-- Which line a fill pushes out is not specified: free among the core's lines, or none while there is room (log
entry 6). A cache holds 512 lines (R116, R118). -/
def State.makeRoomD (s : State) (core : Nat) : State :=
  let ls := s.mem.dcache.filter (fun l => l.core == core)
  if ls.isEmpty then s
  else
    let (x, s) := s.draw
    match ls[if ls.length < 512 then x % (ls.length + 1) else x % 512]? with
    | some l => s.evictD none l
    | none => s

/-- The line of an address filled into a core's data cache where it is absent (R45, R118). -/
def State.fillD (s : State) (core a : Nat) : State :=
  match s.dline core a with
  | some _ => s
  | none =>
    let b := a / 64 * 64
    let s := s.landWBs (fun w => w.core == core && w.addr == b)
    let s := (s.makeRoomD core).mendDram b 64
    s.setDline ⟨core, b, s.dramBytes b 64, [], (List.range 8).filter (fun k => s.dramPoisoned (b + 8 * k))⟩

/-- The bytes of a cached range. -/
def DLine.bytes (l : DLine) (a n : Nat) : List Byte := (l.data.drop (a % 64)).take n

/-- Does a cached word that the range touches hold poison? -/
def DLine.poisonIn (l : DLine) (a n : Nat) : Bool :=
  l.poison.any (fun k => decide (a % 64 / 8 ≤ k) && decide (k * 8 < a % 64 + n))

/-- The first address of a cached range at which a poisoned word is met. -/
def DLine.poisonAddr (l : DLine) (a n : Nat) : Nat :=
  match l.poison.find? (touches 8 (a % 64) n) with
  | some k => max a (l.addr + 8 * k)
  | none => a

/-- A line with bytes stored: the words become dirty, and those covered whole lose their poison (R45). -/
def DLine.store (l : DLine) (a : Nat) (bs : List Byte) : DLine :=
  let o := a % 64
  { l with
    data := l.data.take o ++ bs ++ l.data.drop (o + bs.length)
    dirty := (List.range 8).foldl (fun d k =>
      if decide (o < 8 * k + 8) && decide (8 * k < o + bs.length) then NSet.add d k else d) l.dirty
    poison := l.poison.filter (fun k => !(decide (o ≤ 8 * k) && decide (8 * k + 8 ≤ o + bs.length))) }

/-- The canonical form of the byte memories. -/
def Mem.wf (m : Mem) : Bool :=
  SMap.wf zeroByte m.dram && SMap.wf zeroByte m.lsram && SMap.wf zeroByte m.csram && SMap.wf zeroByte m.crqSram

/-! ## Data access by a core, register space apart -/

/-- How a data access ended. -/
inductive MemAcc where
  | done
  | denied (cc : Nat)
  | poison
deriving DecidableEq, Repr

/-- A core loads bytes outside register space (R117, R118, R44). -/
def State.loadMem (s : State) (core a n : Nat) : MemAcc × List Byte × State :=
  match regionOf core a with
  | .dram =>
    let s := s.fillD core a
    match s.dline core a with
    | some l => if l.poisonIn a n then (.poison, [], s.eccUe 0 (l.poisonAddr a n)) else (.done, l.bytes a n, s)
    | none => (.done, s.dramBytes a n, s)
  | .absent | .regs => (.denied ccDenied, [], s.up SYS_EVT.ACCESS_FAULT)
  | r =>
    let t := s.mendSram r core a n
    if s.sramPoisonIn r core a n then (.poison, [], t.sramUe r core a n) else (.done, s.sramBytes r core a n, t)

/-- A core stores bytes outside register space (R41, R42, R53, R117, R118, R155). -/
def State.storeMem (s : State) (core a : Nat) (bs : List Byte) : MemAcc × State :=
  let n := bs.length
  match regionOf core a with
  | .dram =>
    if s.protectedAt a then (.denied ccDenied, s.up SYS_EVT.ACCESS_FAULT)
    else
      let s := s.fillD core a
      match s.dline core a with
      | some l => if n < 8 && l.poisonIn a n then (.denied ccUe, s.eccUe 0 a) else (.done, s.setDline (l.store a bs))
      | none => (.done, s.putDramBytes a bs)
  | .absent | .regs => (.denied ccDenied, s.up SYS_EVT.ACCESS_FAULT)
  | r =>
    if n < 4 && s.sramPoisonIn r core a n then (.denied ccUe, s.sramUe r core a n)
    else (.done, s.writeSram r core a bs)

/-! ## Instruction fetch (R116, R158, R166) -/

/-- The instruction-cache line of a core that holds an address. -/
def State.iline (s : State) (core a : Nat) : Option ILine :=
  s.mem.icache.find? (fun l => l.core == core && l.addr == a / 64 * 64)

/-- Room made in an instruction cache, as in a data cache. -/
def State.makeRoomI (s : State) (core : Nat) : State :=
  let ls := s.mem.icache.filter (fun l => l.core == core)
  if ls.isEmpty then s
  else
    let (x, s) := s.draw
    match ls[if ls.length < 512 then x % (ls.length + 1) else x % 512]? with
    | some l => { s with mem := { s.mem with
        icache := s.mem.icache.filter (fun m => !(m.core == l.core && m.addr == l.addr)) } }
    | none => s

/-- The line of an address filled into a core's instruction cache where it is absent (R176). -/
def State.fillI (s : State) (core a : Nat) : State :=
  match s.iline core a with
  | some _ => s
  | none =>
    let b := a / 64 * 64
    let s := (s.makeRoomI core).mendDram b 64
    let l : ILine := ⟨core, b, s.dramBytes b 64, (List.range 8).filter (fun k => s.dramPoisoned (b + 8 * k))⟩
    { s with mem := { s.mem with icache := s.mem.icache ++ [l] } }

/-- A fetch by a core: the completion code of a refusal, or poison, and the state with the line filled. -/
def State.fetch (s : State) (core a : Nat) : MemAcc × State :=
  match regionOf core a with
  | .dram =>
    let s := s.fillI core a
    match s.iline core a with
    | some l => if l.poison.contains (a % 64 / 8) then (.poison, s.eccUe 0 a) else (.done, s)
    | none => (.done, s)
  | .absent | .regs => (.denied ccDenied, if regionOf core a = .absent then s.up SYS_EVT.ACCESS_FAULT else s)
  | r =>
    let t := s.mendSram r core a 4
    if s.sramPoisonIn r core a 4 then (.poison, t.sramUe r core a 4) else (.done, t)

/-! ## Firn's region as the mirror brings it (R52, R335) -/

/-- The bytes of a range of DRAM become the planes' own: the region is taken as it stands, and no fill is made. -/
def State.takeRegion (s : State) (b : Nat) : State :=
  let here (a : Nat) : Bool := decide (b ≤ a) && decide (a < b + firnSize)
  let above := (s.mem.dram.filter (fun e => here e.1)).foldl (fun m e => SMap.put (fun _ => none) m (e.1 - b) (some e.2)) []
  { s with
    mem := { s.mem with dram := s.mem.dram.filter (fun e => !here e.1) }
    planes := { base := some b, above := above } }

/-! ## The SRAM of the blocks (R39 to R45) -/

/-- An uncorrectable error met in a block's SRAM: the address of the word is not in the address map, and free (log entry 37). -/
def State.blockUe (s : State) (source : Nat) : State :=
  let (x, s) := s.draw
  s.eccUe source (x % 2 ^ 40)

/-- What meeting some words' check bits leaves: each correctable error is corrected and counted, each uncorrectable one
recorded. -/
def State.metMark (s : State) (source : Nat) (m : Mark) : State :=
  m.ue.foldl (fun s _ => s.blockUe source) (if m.ce.isEmpty then s else s.eccCe m.ce.length)

/-- The key of a record or slot of a block's storage, and whether a word's key lies in it. -/
def blkKey (source i : Nat) : Nat := 2 ^ 24 * source + i
def inBlk (source i w : Nat) : Bool := w / 128 == blkKey source i

/-- The check bits of a record or slot of a block's storage. -/
def State.blkMark (s : State) (source i : Nat) : Mark :=
  { ce := (s.mem.blkCe.filter (inBlk source i)).map (· % 128), ue := (s.mem.blkUe.filter (inBlk source i)).map (· % 128) }

/-- A record or slot of a block's storage is read: correctable errors are corrected. -/
def State.blkMet (s : State) (source i : Nat) : State :=
  ({ s with mem := { s.mem with blkCe := s.mem.blkCe.filter (fun w => !inBlk source i w) } }).metMark source
    (s.blkMark source i)

/-- A record or slot of a block's storage is written whole: its check bits are fresh (R43). -/
def State.blkHeal (s : State) (source i : Nat) : State :=
  { s with mem := { s.mem with
      blkUe := s.mem.blkUe.filter (fun w => !inBlk source i w)
      blkCe := s.mem.blkCe.filter (fun w => !inBlk source i w) } }

/-- Keys of the control state that R450 names, beside Snowpack's own source: the links of queue q, the launch store of queue q,
the grant table of cell c (log entry 37). -/
def linkKey (q : Nat) : Nat := q
def launchKey (q : Nat) : Nat := 8192 + q
def grantKey (c : Nat) : Nat := 16384 + c

/-- A block uses a part of its control state: an uncorrectable error there is recorded, and is an F2 fault of its island
(R450 cause 0x13). -/
def State.ctlMet (s : State) (island k : Nat) : State :=
  let m := s.blkMark 3 k
  if m.bad then
    let s := (s.blkMet 3 k).blkHeal 3 k
    { s with faults := { s.faults with ctl := NSet.add s.faults.ctl island } }
  else if m = .clean then s
  else s.blkMet 3 k

end Sys2Proof.Machine
end

