-- ==== Sys2Proof/Machine/Ice.lean ====
section
/-!
DEFINITION. Sys2Proof/Machine/Ice.lean: the icecore: what a record holds, how records reach the buffer, the queue of
H2 mode and the MRAM, flushes, and the words a requester's window shows (R395 to R402).
-/

namespace Sys2Proof.Machine

/-! ## Records (R396, R397) -/

/-- SYS_CTR(0) to SYS_CTR(3) packed 8 bits each (R397). -/
def State.ctrPacked (s : State) : Nat :=
  (List.range 4).foldl (fun a n => a + (s.ctrWord n % 256) * 2 ^ (8 * n)) 0

/-- TIME_SYNC.HOLD_MIN as it reads: minutes in HOLDOVER, kept at 65,535. -/
def State.holdMin (s : State) : Nat :=
  if s.rd TIME_SYNC.STATE = 3 then min 65535 ((s.ctr - s.time.holdFrom) / msTicks 60000) else 0

/-- TIME_SYNC as it reads. -/
def State.timeSync (s : State) : Nat := withBits (s.reg TIME_SYNC.addr).toNat 16 16 s.holdMin

/-- The common set of R397, words 0 to 15; 0 while the rails are down. -/
def State.commonSet (s : State) : List Word :=
  if !s.rails then List.replicate 16 0
  else
    [SYS_MODE.addr, SYS_READY.addr, PAIR_STATUS.addr, FLOE_STATUS.addr, FLOE_LEAD.addr, FLOE_TERM.addr].map s.reg
    ++ [BitVec.ofNat 32 s.timeSync]
    ++ [TIME_OFS.addr, FIRN_ACTIVE_LO.addr, FIRN_ACTIVE_HI.addr, FIRN_COMMIT_STAT.addr,
      SYS_ECC_CE.addr, SYS_ECC_UE_LO.addr, SYS_ECC_UE_HI.addr].map s.reg
    ++ [BitVec.ofNat 32 s.ctrPacked, s.reg SYS_MODE_RES.addr]

/-- The Rime set of R397, words 16 to 23. -/
def State.rimeSet (s : State) : List Word :=
  [0, 1, 2, 3, 4, 5, 7].map (fun i => s.reg (RIME_IN.addr i)) ++ [s.reg RIME_RULE_STATE.addr]

/-- A list of words filled up with zeros to a length. -/
def padWords (n : Nat) (ws : List Word) : List Word := (ws ++ List.replicate n 0).take n

/-- The RTC date as a record holds it (R396). -/
def State.recDate (s : State) : Nat :=
  s.rd RIME_RTC_DATE.DAY + s.rd RIME_RTC_DATE.MONTH * 2 ^ 5 + s.rd RIME_RTC_DATE.YEAR * 2 ^ 9

/-- The RTC time as a record holds it (R396). -/
def State.recTime (s : State) : Nat :=
  s.rd RIME_RTC_TIME.SEC + s.rd RIME_RTC_TIME.MIN * 2 ^ 6 + s.rd RIME_RTC_TIME.HOUR * 2 ^ 12

/-- The number of the next record (RIME_ICE_SEQ). -/
def State.iceSeq (s : State) : Nat := s.rd64 RIME_ICE_SEQ_LO.SEQ RIME_ICE_SEQ_HI.SEQ

/-- The record that a trigger makes now (R396, R397). -/
def State.mkRecord (s : State) (trigger source cls : Nat) (base : Bool) (ws : List Word) : IceRec :=
  { seq := s.iceSeq
    netS := if s.rails && s.rdy 4 then s.netSec else 0
    netNs := if s.rails && s.rdy 4 then s.netNs % 1000000000 else 0
    date := s.recDate
    time := s.recTime
    trigger := trigger
    source := source
    cls := cls
    flags := (if base then 1 else 0) + (if s.rails then 2 else 0) + (if s.on RIME_ICE_CFG.H2 then 4 else 0)
      + (if s.on RIME_PWR.PFW then 8 else 0)
    words := s.commonSet ++ s.rimeSet ++ padWords 39 ws
    base := base
    mark := true }

/-- One step of the CRC-32 of IEEE 802.3 over a bit-reflected register. -/
def crcBit (c : BitVec 32) : BitVec 32 := if c.getLsbD 0 then (c >>> 1) ^^^ 0xEDB88320#32 else c >>> 1

/-- CRC-32 with the polynomial of the IEEE 802.3 FCS (R396); initial value, reflection and final complement are the
FCS's own (PRESUMED, log entry 7). -/
def crc32 (bs : List Byte) : BitVec 32 :=
  ~~~ bs.foldl (fun c b =>
    crcBit (crcBit (crcBit (crcBit (crcBit (crcBit (crcBit (crcBit (c ^^^ b.setWidth 32))))))))) 0xFFFF_FFFF#32

/-- Bytes 0 to 27 of a record (R396). -/
def IceRec.head (r : IceRec) : List Byte :=
  leBytes 8 r.seq ++ leBytes 6 r.netS ++ leBytes 4 r.netNs ++ leBytes 2 r.date ++ leBytes 3 r.time ++ [0]
    ++ leBytes 1 r.trigger ++ leBytes 1 r.source ++ leBytes 1 r.cls ++ leBytes 1 r.flags

/-- Bytes 32 to 283 of a record (R396). -/
def IceRec.body (r : IceRec) : List Byte := (r.words.map (fun w => leBytes 4 w.toNat)).flatten

/-- The 288 bytes of a record (R396). -/
def IceRec.bytes (r : IceRec) : List Byte :=
  r.head ++ leBytes 4 (crc32 (r.head ++ r.body)).toNat ++ r.body ++ leBytes 4 (if r.mark then 0x1CE0_0288 else 0)

/-- Word k of the window at a slot (R401); a slot never written reads 0 (log entry 5). -/
def State.iceWord (s : State) (slot k : Nat) : Word :=
  match SMap.get (fun _ => none) s.ice.mram slot with
  | some r => BitVec.ofNat 32 (ofLe ((r.bytes.drop (4 * k)).take 4))
  | none => 0

/-! ## Where records go (R398 to R400) -/

/-- Where a record of an area goes: the next base slot while there is one, else the ring slot at HEAD. -/
def State.iceSlot (s : State) (base : Bool) : Nat :=
  if base && s.rd RIME_ICE_BASE.NEXT < 14336 then s.rd RIME_ICE_BASE.NEXT else s.rd RIME_ICE_HEAD.HEAD

/-- A write in H2 mode that loses its supply (R400): the slot's MARK has been cleared and is not written; whether the slot
still holds the bytes of its old record or those of the new one is free. -/
def State.tornWrite (s : State) (r : IceRec) : State :=
  let (x, s) := s.draw
  let slot := s.iceSlot r.base
  let old := SMap.get (fun _ => none) s.ice.mram slot
  let torn := if x % 2 = 0 then old.map (fun o => { o with mark := false }) else some { r with mark := false }
  { s with ice := { s.ice with mram := SMap.put (fun _ => none) s.ice.mram slot torn } }

/-- A record reaches MRAM: the next base slot for a base record while there is one, else the ring slot at HEAD. -/
def State.toMram (s : State) (r : IceRec) : State :=
  let put (s : State) (slot : Nat) : State :=
    { s with ice := { s.ice with mram := SMap.put (fun _ => none) s.ice.mram slot (some r) } }
  if r.base && s.rd RIME_ICE_BASE.NEXT < 14336 then
    let n := s.rd RIME_ICE_BASE.NEXT
    let s := (put s n).wr RIME_ICE_BASE.NEXT (n + 1)
    if n + 1 = 14336 then (s.up RIME_ICE_STAT.BASE_FULL).up RIME_EVT.BASE_FULL else s
  else
    let h := s.rd RIME_ICE_HEAD.HEAD
    let s := put s h
    if h = 28671 then (s.wr RIME_ICE_HEAD.HEAD 14336).up RIME_ICE_HEAD.WRAPPED else s.wr RIME_ICE_HEAD.HEAD (h + 1)

/-- A record of the buffer or queue reaches MRAM. The buffer is Rime's SRAM (R39, R399): a record of which a word cannot be
corrected is not written, and the error is recorded (R44; log entry 37). -/
def State.bufToMram (s : State) (r : IceRec) : State :=
  let k := r.seq % 2 ^ 24
  let t := (s.blkMet 5 k).blkHeal 5 k
  if (s.blkMark 5 k).bad then t else t.toMram r

/-- The buffer or queue changed, and RIME_ICE_STAT.BUF with it. -/
def State.setIceBuf (s : State) (b : List IceRec) : State :=
  { s with ice := { s.ice with buf := b } }.wr RIME_ICE_STAT.BUF b.length

/-- A flush of the buffer to MRAM starts (R399); in H2 mode there is no buffer to flush. -/
def State.iceFlushStart (s : State) : State :=
  if s.on RIME_ICE_CFG.H2 then s else s.up RIME_ICE_STAT.FLUSHING

/-- Every record of the buffer reaches MRAM. -/
def State.iceDrain (s : State) : State := (s.ice.buf.foldl State.bufToMram s).setIceBuf []

/-- Nothing waits in the buffer any more: ICE_FLUSHED sets, and a FLUSH command that waited completes (R399, R403). -/
def State.iceFlushed (s : State) : State :=
  let s := s.up RIME_EVT.ICE_FLUSHED
  if s.ice.cmdFlush then
    { s with ice := { s.ice with cmdFlush := false } }.done RIME_STAT.addr RIME_EVT.CMD_DONE ccOk
  else s

/-- A flush ends (R399): the buffer is empty. -/
def State.iceFlushEnd (s : State) : State :=
  if s.on RIME_ICE_STAT.FLUSHING then (s.iceDrain.down RIME_ICE_STAT.FLUSHING).iceFlushed else s

/-- A record refused for want of room (R399). -/
def State.iceLost (s : State) : State := (s.count RIME_ICE_STAT.LOST 1).up RIME_EVT.ICE_LOST

/-- A record is made (R396 to R400): the completion code OK or FULL, and the state. -/
def State.record? (s : State) (trigger source cls : Nat) (base : Bool) (ws : List Word) : Nat × State :=
  let r := s.mkRecord trigger source cls base ws
  let next (s : State) : State :=
    (s.blkHeal 5 (r.seq % 2 ^ 24)).wr64 RIME_ICE_SEQ_LO.SEQ RIME_ICE_SEQ_HI.SEQ (r.seq + 1)
  if s.on RIME_ICE_CFG.H2 then
    if s.ice.buf.length < 16 then (ccOk, (next s).setIceBuf (s.ice.buf ++ [r])) else (ccFull, s.iceLost)
  else if !s.rails then (ccOk, (next s).toMram r)
  else if s.ice.buf.length < 910 then
    let t := (next s).setIceBuf (s.ice.buf ++ [r])
    (ccOk, if s.ice.buf.length + 1 = 682 then t.iceFlushStart else t)
  else (ccFull, s.iceLost)

/-- A record made where nobody waits for its code. -/
def State.record (s : State) (trigger source cls : Nat) (base : Bool) (ws : List Word) : State :=
  (s.record? trigger source cls base ws).2

/-- May the oldest record of the queue be in the middle of its write in H2 mode: six writes have not ended within the last
second (R400)? -/
def State.h2Writing (s : State) : Bool :=
  match s.ice.h2At[5]? with
  | some t => decide (t + msTicks 1000 ≤ s.now)
  | none => true

/-- Rime's supply goes while records wait (R399, R400): of a flush under way any number of records may have been written, and
of a queue in H2 mode the oldest may be torn; the rest is lost. -/
def State.iceCut (s : State) : State :=
  let (x, s) := s.draw
  let s :=
    if s.on RIME_ICE_CFG.H2 then
      match s.ice.buf with
      | r :: _ => if s.h2Writing && x % 2 == 1 then s.tornWrite r else s
      | [] => s
    else if s.on RIME_ICE_STAT.FLUSHING then (s.ice.buf.take (x % (s.ice.buf.length + 1))).foldl State.bufToMram s
    else s
  { s.setIceBuf [] with ice := { s.ice with
    buf := []
    cmdFlush := false } }

/-- In H2 mode the oldest waiting record has been written (R400): the seventh of any seven writes ends 1 s or more after the
first. A FLUSH command that waited completes with the last record of the queue. -/
def State.h2WriteDone (s : State) : State :=
  match s.on RIME_ICE_CFG.H2, s.ice.buf with
  | true, r :: rs =>
    let s := match s.ice.h2At[5]? with
      | some t => s.reach (t + msTicks 1000)
      | none => s
    let s := { s with ice := { s.ice with h2At := (s.now :: s.ice.h2At).take 6 } }
    let s := (s.bufToMram r).setIceBuf rs
    if rs.isEmpty && s.ice.cmdFlush then s.iceFlushed else s
  | _, _ => s

/-- The record of a mode change (trigger 0x50, R397): old mode, new mode, the word that names
the cause. -/
def State.recordMode (s : State) (old new cause : Nat) : State :=
  s.record 0x50 128 0xFF false [BitVec.ofNat 32 old, BitVec.ofNat 32 new, BitVec.ofNat 32 (Config.modeCause cause)]

end Sys2Proof.Machine
end

