-- ==== Sys2Proof/Machine/FaultRec.lean ====
section
/-!
DEFINITION. Sys2Proof/Machine/FaultRec.lean: how Cirque records and defers faults (R450, R452, R457). The recoveries
themselves stand in Machine/Faults.lean.
-/

namespace Sys2Proof.Machine

/-- The class of a cause code (R450). -/
def faultClass (cause : Nat) : Nat :=
  if cause < 8 then 0 else if cause < 0x10 then 1 else if cause < 0x18 then 2 else 3

/-- The dispositions of R457. -/
abbrev dispStarted : Nat := 0
abbrev dispDeferred : Nat := 1
abbrev dispPreempting : Nat := 2
abbrev dispMerged : Nat := 3
abbrev dispDone : Nat := 4
abbrev dispAbandoned : Nat := 5
abbrev dispLost : Nat := 6
abbrev dispEscalated : Nat := 7

/-- CRQ_FAULT follows the recovery in progress and the deferred list. -/
def State.faultRegs (s : State) : State :=
  let s := s.wr CRQ_FAULT.PENDING s.faults.deferred.length
  match s.faults.cur with
  | some f => ((s.wr CRQ_FAULT.CLASS f.cls).wr CRQ_FAULT.CAUSE f.cause).up CRQ_FAULT.BUSY
  | none => ((s.wr CRQ_FAULT.CLASS 0).wr CRQ_FAULT.CAUSE 0).down CRQ_FAULT.BUSY

/-- The trigger words of R457. -/
def State.faultWords (s : State) (f : FaultRec) (disp : Nat) : List Word :=
  [BitVec.ofNat 32 (f.cause + f.island * 2 ^ 8 + disp * 2 ^ 16 + f.case * 2 ^ 24),
    BitVec.ofNat 32 ((s.faults.cur.map (·.seq)).getD 0), s.reg CRQ_FAULT.addr]

/-- The record of a fault when it is raised: trigger class + 1, base area for F2 and F3 (R397, R457). The heartbeat
carries its class (R334), HEALTHY looks back at F2 (R346), and F2 and F3 begin the confirmation anew (R430). -/
def State.recordFault (s : State) (f : FaultRec) (disp : Nat) : State :=
  let s := s.record (f.cls + 1) 128 f.cls (2 ≤ f.cls) (s.faultWords f disp)
  let s := { s with pair := { s.pair with
      lastClass := f.cls
      faults := s.pair.faults + 1
      f2At := if f.cls = 2 then some s.ctr else s.pair.f2At } }
  let s := if 2 ≤ f.cls && s.icf.runFrom.isSome then { s with icf := { s.icf with runFrom := some s.ctr } } else s
  if 2 ≤ f.cls then s.iceFlushStart else s

/-- The record of a recovery when it ends: trigger 0x41, in the ring (R457). -/
def State.recordEnd (s : State) (f : FaultRec) (disp : Nat) : State :=
  s.record 0x41 128 f.cls false (s.faultWords f disp)

/-- Does the recovery in progress restart the island of a fault (R452)? -/
def State.merges (s : State) (f : FaultRec) : Bool :=
  match s.faults.cur with
  | some c => (c.cause == 0x08 || c.cause == 0x10 || c.cause == 0x13 || c.cause == 0x14) && c.island == f.island
  | none => false

/-- A fault of equal or lower class than the recovery in progress: merged, deferred, or lost (R452). -/
def State.deferFault (s : State) (f : FaultRec) : State :=
  if s.merges f then s.recordFault f dispMerged
  else if s.faults.deferred.length < 16 then
    ({ (s.recordFault f dispDeferred) with faults := { s.faults with deferred := s.faults.deferred ++ [f] } }).faultRegs
  else (s.recordFault f dispLost).count CRQ_FAULT.LOST 1

/-- Inside the takeover window, which opens with the active module's fault and closes at most 20 ms later (R454). -/
def State.inWindow (s : State) : Bool :=
  match s.pair.window with
  | some c => decide (s.ctr ≤ c + msTicks 20)
  | none => false

/-- The case of R456 that a second fault makes; 0 where none applies. `lost` is how many drives of the group are lost. The
first case in the order of the table's handling that fits is taken (log entry 19). -/
def State.faultCase (s : State) (cause chain lost : Nat) : Nat :=
  let flush := s.on RIME_PWR.PFW && s.on RIME_ICE_STAT.FLUSHING
  let cls := faultClass cause
  if 2 ≤ cls && flush then (if cls = 3 then 12 else 10)
  else if cls = 3 then (if s.faults.cur.isSome then 14 else 0)
  else if cause = 0x10 then 8
  else if s.inWindow && cause = 0x04 then 2
  else if s.inWindow && cause = 0x03 then 3
  else if s.inWindow && cause = 0x0A then 4
  else if s.inWindow && cause = 0x09 then 5
  else if cause = 0x09 then
    (match s.faults.cur with | some c => if c.cause = 0x09 && c.chain = chain then 6 else 0 | none => 0)
  else if cause = 0x0A && lost = 2 then 7
  else if cause = 0x03 && s.on FLOE_STATUS.WRAPPED_W && s.on FLOE_STATUS.WRAPPED_E then 9
  else 0

/-- A fault whose recovery is "none" (R450): recorded, and complete at once unless it has to be deferred. -/
def State.raiseSimple (s : State) (cause island case : Nat) : State :=
  let f : FaultRec := ⟨cause, faultClass cause, island, case, s.iceSeq, 0⟩
  match s.faults.cur with
  | some _ => s.deferFault f
  | none => s.recordFault f dispStarted

end Sys2Proof.Machine
end

