-- ==== Sys2Proof/Machine/Snow.lean ====
section
/-!
DEFINITION. Sys2Proof/Machine/Snow.lean: Snowpack: admission, gap markers, notices, quotas, and the operations that
take packets out and put them in (R296 to R306, R308).
-/

namespace Sys2Proof.Machine

/-! ## Queues (R296, R297) -/

/-- The descriptors of a queue. -/
def State.queue (s : State) (q : Nat) : List QItem := SMap.get (fun _ => []) s.snow.queues q

/-- The descriptors of a queue replaced; SNOW_Q_OCC.GAP_OPEN follows. -/
def State.setQueue (s : State) (q : Nat) (l : List QItem) : State :=
  ({ s with snow := { s.snow with queues := SMap.put (fun _ => []) s.snow.queues q l } }).bit (SNOW_Q_OCC.GAP_OPEN q)
    (l.any (fun i => match i with | .gap _ _ _ _ _ => true | _ => false))

/-- The pool cells of a packet (R296). -/
def cellsOf (len : Nat) : Nat := (len + 255) / 256

/-- Cells of its reserve that a queue does not use (R300). -/
def State.spare (s : State) (q : Nat) : Nat := s.rd (SNOW_Q_RES.RESERVE q) - s.rd (SNOW_Q_OCC.OCC q)

/-- A queue that R297 reserves. -/
def queueReserved (q : Nat) : Bool := (3264 ≤ q && q < 4048) || 4096 ≤ q

/-- A queue whose consumer is set by Q_CFG (R297). -/
def queueGeneral (q : Nat) : Bool := q < 3072

/-- The free pool changes: SNOW_POOL, SNOW_SHARED, and POOL_LOW when FREE falls below LOW (R308). SNOW_SHARED is the free pool
less the unused reserves of every queue (R300); where those exceed it, which the register cannot show, it reads 0 (log entry
10). -/
def State.setPool (s : State) (free spare : Nat) : State :=
  let low := s.rd SNOW_LOW.LOW
  let was := s.rd SNOW_POOL.FREE
  let s := { s with snow := { s.snow with spareSum := spare } }
  let s := (s.wr SNOW_POOL.FREE free).wr SNOW_SHARED.SHARED (free - spare)
  if low ≤ was && free < low then s.up SNOW_EVT.POOL_LOW else s

/-- The cells of a queue change by a packet taken or freed: pool, shared pool and OCC (R300). -/
def State.setOcc (s : State) (q : Nat) (occ : Nat) : State :=
  let free := s.rd SNOW_POOL.FREE + s.rd (SNOW_Q_OCC.OCC q) - occ
  let t := s.wr (SNOW_Q_OCC.OCC q) occ
  t.setPool free (s.snow.spareSum - s.spare q + t.spare q)

/-! ## Admission (R300, R301) -/

/-- How admission decides (R300). -/
inductive Admit where
  | accept | noConsumer | quota | full
deriving DecidableEq, Repr

/-- The admission test of R300. -/
def State.admits (s : State) (q len : Nat) : Admit :=
  let n := cellsOf len
  if s.rd (SNOW_Q_CFG.KIND q) = 0 then .noConsumer
  else if s.on (SNOW_Q_OCC.QUOTA_OVER q) || s.rd (SNOW_Q_CFG.QUOTA q) < s.rd (SNOW_Q_OCC.OCC q) + n then .quota
  else if s.spare q + s.rd SNOW_POOL.FREE < n + s.snow.spareSum then .full
  else .accept

/-- A packet joins the tail of its queue (R300). -/
def State.enqueue (s : State) (q : Nat) (data : List Byte) (source node : Nat) : State :=
  let s := s.ctlMet 12 (linkKey q)
  (s.setOcc q (s.rd (SNOW_Q_OCC.OCC q) + cellsOf data.length)).setQueue q
    (s.queue q ++ [.pkt data source node s.netNs .clean])

/-- A gap marker added to or begun (R301): counts saturate at 2^32 - 1. One of which a word cannot be corrected stays as it
is (R42). -/
def addGap (ns len : Nat) : List QItem → List QItem
  | [] => [.gap 1 len ns false .clean]
  | .gap p o t m k :: rest =>
    (if k.bad then .gap p o t m k
      else .gap (min (p + 1) (2 ^ 32 - 1)) (min (o + len) (2 ^ 32 - 1)) t (m || !rest.isEmpty) .clean) :: rest
  | i :: rest => i :: addGap ns len rest

/-- The check bits of a list's gap marker. -/
def gapMark (l : List QItem) : Mark :=
  (l.findSome? (fun i => match i with | .gap _ _ _ _ k => some k | .pkt _ _ _ _ _ => none)).getD .clean

/-- An arrival dropped (R301): counted, and marked unless the queue has no consumer. The registers of a reserved queue read 0
(R308). -/
def State.dropArrival (s : State) (q len : Nat) (mark : Bool) : State :=
  let s := if queueReserved q then s else s.countMod (SNOW_Q_DROP.DROPS q) 1
  if mark then (s.metMark 3 (gapMark (s.queue q))).setQueue q (addGap s.netNs len (s.queue q)) else s

/-- An arrival at a queue: accepted whole, or dropped (R300, R301). -/
def State.arrive (s : State) (q : Nat) (data : List Byte) (source node : Nat) : State :=
  match s.admits q data.length with
  | .accept => s.enqueue q data source node
  | .noConsumer => s.dropArrival q data.length false
  | _ => s.dropArrival q data.length true

/-- A queue that has one producer: Firn's setpoint downlink, and Sastrugi's MAC management (R297). -/
def soleProducer (q : Nat) : Bool := (3072 ≤ q && q < 3136) || (3200 ≤ q && q < 3264)

/-- An arrival that a prefix hit, a miss queue, DQ or RQ sends to a queue. Where the queue is kept for another producer it is
dropped as where there is no consumer (R297; log entry 10). -/
def State.deliver (s : State) (q : Nat) (data : List Byte) (source node : Nat) : State :=
  if soleProducer q then s.dropArrival q data.length false else s.arrive q data source node

/-! ## Notices (R302) -/

/-- Does a descriptor of some queue that notifies a consumer wait: kind 1 a thread, 2 Cirque? -/
def State.noticed (s : State) (kind t q : Nat) : Bool :=
  s.rd (SNOW_Q_CFG.KIND q) == kind && (kind != 1 || s.rd (SNOW_Q_CFG.TID q) == t)

/-- QNOTICE of a lumen thread (R109, R302). -/
def State.noticeWaits (s : State) (t : Nat) : Bool :=
  s.snow.queues.any (fun p => !p.2.isEmpty && s.noticed 1 t p.1)

/-! ## Taking a packet out (R303, R306) -/

/-- Cells of a queue are freed; QUOTA_OVER clears when its occupancy falls below its quota (R306). -/
def State.freeCells (s : State) (q n : Nat) : State :=
  let s := s.setOcc q (s.rd (SNOW_Q_OCC.OCC q) - n)
  if s.on (SNOW_Q_OCC.QUOTA_OVER q) && s.rd (SNOW_Q_OCC.OCC q) < s.rd (SNOW_Q_CFG.QUOTA q) then
    (s.down (SNOW_Q_OCC.QUOTA_OVER q)).up SNOW_EVT.QUOTA_CLEAR
  else s

/-- The head descriptor removed, and its cells freed. -/
def State.dequeue (s : State) (q : Nat) : Option QItem × State :=
  let s := s.ctlMet 12 (linkKey q)
  match s.queue q with
  | [] => (none, s)
  | i :: rest =>
    let s := s.setQueue q rest
    match i with
    | .pkt data _ _ _ _ => (some i, s.freeCells q (cellsOf data.length))
    | .gap _ _ _ _ _ => (some i, s)

/-- The receive buffer of a consumer: 0 to 127 threads, 128 Cirque (SNOW_RXBUF). -/
def State.rxbuf (s : State) (r : Nat) : Nat :=
  s.rd (SNOW_RXBUF_LO.ADDR_LO r) * 64 + s.rd (SNOW_RXBUF_HI.ADDR_HI r) * 2 ^ 32

/-- The arrival header of a receive buffer (R303). -/
def rxHeader (ns : Nat) : List Byte :=
  leBytes 6 (ns / 1000000000) ++ [0, 0] ++ leBytes 4 (ns % 1000000000) ++ [0, 0, 0, 0]

/-- The first 16 bytes as a wide value. -/
def wideOf (bs : List Byte) : Wide := BitVec.ofNat 128 (ofLe (bs.take 16))

/-- A gap marker in the layout of w (R303). -/
def gapWide (p o ns : Nat) : Wide :=
  BitVec.ofNat 128 (p + o * 2 ^ 32 + (ns / 1000000000 % 2 ^ 32) * 2 ^ 64 + (ns % 1000000000) * 2 ^ 96)

/-- What a pop returns: code, rd, w. -/
structure PopOut where
  cc : Nat
  rd : Nat
  w : Wide
deriving DecidableEq, Repr

/-- The queue that ANY takes for a consumer: the next in round-robin order with a notice (R303). -/
def State.anyQueue (s : State) (kind t : Nat) : Option Nat :=
  let qs := (s.snow.queues.filter (fun p => !p.2.isEmpty && s.noticed kind t p.1)).map (·.1)
  let from_ := SMap.get (fun _ => 0) s.snow.rr (if kind = 2 then 128 else t)
  match qs.find? (fun q => decide (from_ ≤ q)) with
  | some q => some q
  | none => qs.head?

/-- A pop by a consumer (R303): kind 1 thread t, kind 2 Cirque. -/
def State.pop (s : State) (kind t : Nat) (ra : Nat) : PopOut × State :=
  let r := if kind = 2 then 128 else t
  let any := bitsOf ra 15 1 == 1
  let stop (cc : Nat) : PopOut × State := (⟨cc, 0, 0⟩, s)
  if !s.rdy 7 then stop ccBusy
  else if ra / 2 ^ 16 != 0 || bitsOf ra 12 3 != 0 || (any && bitsOf ra 0 12 != 0) then stop ccRange
  else if s.rxbuf r = 0 then stop ccDenied
  else
    match (if any then s.anyQueue kind t else some (bitsOf ra 0 12)) with
    | none => stop ccNotFound
    | some q =>
      if !s.noticed kind t q then stop ccDenied
      else
        let took (s : State) : State := { s with snow := { s.snow with rr := SMap.put (fun _ => 0) s.snow.rr r (q + 1) } }
        match s.dequeue q with
        | (none, s) => (⟨ccNotFound, 0, 0⟩, s)
        | (some (.gap p o ns m mark), s) =>
          let s := (took s).metMark 3 mark
          let rd := 2 ^ 14 + (if m then 2 ^ 15 else 0) + q * 2 ^ 16
          if mark.bad then
            let (x, s) := s.draw
            (⟨ccUe, rd, BitVec.ofNat 128 x⟩, s.up SNOW_EVT.UE)
          else (⟨ccOk, rd, gapWide p o ns⟩, s)
        | (some (.pkt data src node ns mark), s) =>
          let s := took s
          let rd := data.length + q * 2 ^ 16 + src * 2 ^ 28 + node * 2 ^ 32
          let s := s.metMark 3 mark
          if mark.bad then
            let (x, s) := s.draw
            let junk := (List.range (data.length + 16)).map (fun i => Config.undefByte i x)
            (⟨ccUe, rd, BitVec.ofNat 128 x⟩, (s.dmaWrite (s.rxbuf r) junk).2.up SNOW_EVT.UE)
          else
            let (cc, s) := s.dmaWrite (s.rxbuf r) (rxHeader ns ++ data)
            (if cc = ccOk then ⟨ccOk, rd, wideOf data⟩ else ⟨cc, 0, 0⟩, s)

/-! ## Putting a packet in (R305) -/

/-- The node-table entry of a node (R287). -/
def State.nodeEnt (s : State) (n : Nat) : Option NodeEnt := SMap.get (fun _ => none) s.src.nodes n

/-- Is a node associated in a cell (R305, R486)? -/
def State.assocIn (s : State) (n cell : Nat) : Bool :=
  match s.nodeEnt n with
  | some e => e.assoc && e.head == cell && !e.suspect
  | none => false

/-- A push from DRAM (R305): address, rb, and the node ID word. -/
def State.push (s : State) (addr rb node : Nat) : Nat × State :=
  let len := bitsOf rb 0 14
  let q := bitsOf rb 16 12
  let dn := 3136 ≤ q && q < 3200
  if !s.rdy 7 then (ccBusy, s)
  else if 2 ^ 40 ≤ addr || addr % 8 != 0 || rb / 2 ^ 28 != 0 || bitsOf rb 14 2 != 0 || len = 0
    || s.rd SNOW_MAXPKT.LEN < len || 2 ^ 36 < addr + len || (if dn then 2 ^ 18 ≤ node else node != 0) then (ccRange, s)
  else if queueReserved q || (3072 ≤ q && q < 3136) || (3200 ≤ q && q < 3264)
    || s.rd (SNOW_Q_CFG.KIND q) = 0 then (ccDenied, s)
  else if dn && !s.assocIn node (q - 3136) then (ccNotFound, s)
  else match s.admits q len with
    | .accept =>
      match s.dmaRead addr len with
      | some bs => (ccOk, (s.dmaMet addr len).enqueue q bs 7 (if dn then node else 0))
      | none => s.dmaFail addr len
    | .quota => (ccQuota, s)
    | _ => (ccFull, s)

/-! ## The SNOW commands (R298, R299, R308) -/

/-- A command of the SNOW interface ends. -/
def State.snowDone (s : State) (cc : Nat) : State := s.done SNOW_STAT.addr SNOW_EVT.CMD_DONE cc

/-- Q_CFG (R298, R306). -/
def State.qCfg (s : State) : State :=
  let q := bitsOf (s.rd SNOW_KEY.VALUE) 0 12
  let quota := bitsOf (s.rd SNOW_DATA0.VALUE) 0 18
  let res := bitsOf (s.rd SNOW_DATA1.VALUE) 0 18
  let cons := bitsOf (s.rd SNOW_DATA2.VALUE) 0 2
  let tid := bitsOf (s.rd SNOW_DATA2.VALUE) 2 7
  let old := s.rd (SNOW_Q_RES.RESERVE q)
  if quota < 36 || 192512 < quota || quota < res || queueReserved q || (queueGeneral q && cons = 3) then
    s.snowDone ccRange
  else if 192512 < s.snow.resSum - old + res then s.snowDone ccFull
  else
    let sp := s.spare q
    let s := { s with snow := { s.snow with resSum := s.snow.resSum - old + res } }
    let s := (s.wr (SNOW_Q_CFG.QUOTA q) quota).wr (SNOW_Q_RES.RESERVE q) res
    let s := s.setPool (s.rd SNOW_POOL.FREE) (s.snow.spareSum - sp + s.spare q)
    let s := if queueGeneral q then
      (s.wr (SNOW_Q_CFG.KIND q) cons).wr (SNOW_Q_CFG.TID q) (if cons = 1 then tid else 0) else s
    let occ := s.rd (SNOW_Q_OCC.OCC q)
    let s := if quota < occ then (s.up (SNOW_Q_OCC.QUOTA_OVER q)).up SNOW_EVT.QUOTA_OVER
      else if s.on (SNOW_Q_OCC.QUOTA_OVER q) && occ < quota then
        (s.down (SNOW_Q_OCC.QUOTA_OVER q)).up SNOW_EVT.QUOTA_CLEAR
      else s
    s.snowDone ccOk

/-- The quota of every queue that is not reserved is at least a number of cells. -/
def State.quotasAtLeast (s : State) (n : Nat) : Bool :=
  (List.range 4096).all (fun q => queueReserved q || decide (n ≤ s.rd (SNOW_Q_CFG.QUOTA q)))

/-- MAXPKT_SET (R299). -/
def State.maxpktSet (s : State) : State :=
  let len := bitsOf (s.rd SNOW_DATA0.VALUE) 0 14
  if len < 60 || 9216 < len || !s.quotasAtLeast (cellsOf len) then s.snowDone ccRange
  else (s.wr SNOW_MAXPKT.LEN len).snowDone ccOk

/-- POP, for Cirque only (R308): rd in DATA0 and DATA1; a gap's fields go to bytes 0 to 15 of the buffer. -/
def State.popCmd (s : State) (r : Req) : State :=
  if r != 128 then s.snowDone ccDenied
  else
    let (o, s) := s.pop 2 128 (s.rd SNOW_KEY.VALUE)
    let s := (s.wr SNOW_DATA0.VALUE (o.rd % 2 ^ 32)).wr SNOW_DATA1.VALUE (o.rd / 2 ^ 32)
    let s := if o.cc = ccOk && bitsOf o.rd 14 1 == 1 then (s.dmaWrite (s.rxbuf 128) (leBytes 16 o.w.toNat)).2 else s
    s.snowDone o.cc

/-- PUSH, for Cirque only (R308). -/
def State.pushCmd (s : State) (r : Req) : State :=
  if r != 128 then s.snowDone ccDenied
  else
    let (cc, s) := s.push (s.rd SNOW_KEY.VALUE + bitsOf (s.rd SNOW_DATA0.VALUE) 0 8 * 2 ^ 32)
      (s.rd SNOW_DATA1.VALUE) (s.rd SNOW_DATA2.VALUE)
    s.snowDone cc

end Sys2Proof.Machine
end

