-- ==== Sys2Proof/Machine/Lum.lean ====
section
/-!
DEFINITION. Sys2Proof/Machine/Lum.lean: the lumen array: events and WAIT, timers, threads starting, stopping, faulting
and restarting, the LUM commands and cluster clocks (R104 to R137).
-/

namespace Sys2Proof.Machine

/-- A command of the LUM interface ends. -/
def State.lumDone (s : State) (cc : Nat) : State := s.done LUM_STAT.addr LUM_EVT.CMD_DONE cc

/-! ## Events and WAIT (R109, R110) -/

/-- LUM_T_TEV of a thread as it reads: its sticky bits and its level bits (R109). -/
def State.tev (s : State) (t : Nat) : Nat :=
  (if (s.reg (LUM_DB.addr (coreOf t)) &&& s.reg (LUM_T_DBMASK.addr t)) = 0 then 0 else 1)
    ||| ((s.reg (LUM_T_TEV.addr t)).toNat &&& 0b101110)
    ||| (if s.noticeWaits t then 16 else 0) ||| (s.blkBits t * 2 ^ 8)

/-- The events that end a WAIT of the thread (R110). -/
def State.wakeBits (s : State) (t : Nat) : Nat := s.tev t &&& (s.evmask t).toNat

/-- WAIT returns these events: they go to its destination, their sticky bits clear, CC is OK (R110). -/
def State.waitReturn (s : State) (t : Nat) (rd : GReg) (v : Nat) : State :=
  let a := LUM_T_TEV.addr t
  let s := s.setReg a (s.reg a &&& ~~~ (BitVec.ofNat 32 (v &&& 0b101110)))
  (s.setG t rd (BitVec.ofNat 64 v)).setCc t 0

/-- A WAIT whose timeout has passed ends with LATE and 0 (R110). -/
def State.waitLate (s : State) (t : Nat) (rd : GReg) : State :=
  (((s.setG t rd 0).setCc t (BitVec.ofNat 8 ccLate)).setPrim t none).setTh t thRunning

/-- A thread whose WAIT's events have come goes on, and so does one whose timeout passed first; any other thread stays as it
is (R110). -/
def State.settleWait (s : State) (t : Nat) : State :=
  match s.prim t with
  | some (.wait rd d) =>
    let v := s.wakeBits t
    let past (n : Nat) : Bool := match d with | some d => decide (d + n ≤ s.ctr) | none => false
    if past 1 then s.waitLate t rd
    else if v ≠ 0 then ((s.waitReturn t rd v).setPrim t none).setTh t thRunning
    else if past 0 then s.waitLate t rd
    else s
  | _ => s

/-! ## Timers (R112) -/

/-- The compare value of a timer. -/
def State.tmrCmp (s : State) (t n : Nat) : Nat := s.rd64 (LUM_T_TMR_LO.CMP_LO t n) (LUM_T_TMR_HI.CMP_HI t n)

/-- The sticky bit of a timer. -/
def tmrBit (t n : Nat) : Fld := if n = 0 then LUM_T_TEV.TIMER0 t else LUM_T_TEV.TIMER1 t

/-- A timer disarmed; its compare value reads 0. -/
def State.tmrOff (s : State) (t n : Nat) : State :=
  ({ s with lum := { s.lum with armed := NSet.del s.lum.armed (2 * t + n) } }).wr64 (LUM_T_TMR_LO.CMP_LO t n)
    (LUM_T_TMR_HI.CMP_HI t n) 0

/-- A timer fires: the sticky bit sets once; a periodic timer's compare value moves into the future. -/
def State.tmrFire (s : State) (t n : Nat) : State :=
  let cmp := s.tmrCmp t n
  let per := s.rd (LUM_T_TMR_PER.PER t n)
  let s := s.up (tmrBit t n)
  if per = 0 then s.tmrOff t n
  else s.wr64 (LUM_T_TMR_LO.CMP_LO t n) (LUM_T_TMR_HI.CMP_HI t n) (cmp + ((s.ctr - cmp) / per + 1) * per)

/-- TMRn_HI written: the timer is armed, fires at once where its value is past, and is disarmed by 0 in both words. -/
def State.tmrArm (s : State) (t n : Nat) (v : Word) : State :=
  let s := s.setReg (LUM_T_TMR_HI.addr t n) v
  if s.tmrCmp t n = 0 then s.tmrOff t n
  else
    let s := { s with lum := { s.lum with armed := NSet.add s.lum.armed (2 * t + n) } }
    if s.tmrCmp t n ≤ s.ctr then s.tmrFire t n else s

/-- TMRn_LO written: it arms nothing; 0 in both words disarms, and an armed timer whose value is now past fires at once. -/
def State.tmrLo (s : State) (t n : Nat) (v : Word) : State :=
  let s := s.setReg (LUM_T_TMR_LO.addr t n) v
  if s.tmrCmp t n = 0 then s.tmrOff t n
  else if s.lum.armed.contains (2 * t + n) && s.tmrCmp t n ≤ s.ctr then s.tmrFire t n else s

/-- The counter reaches an armed timer's compare value. -/
def State.tmrReach (s : State) (t n : Nat) : State :=
  if s.lum.armed.contains (2 * t + n) then (s.reachCtr (s.tmrCmp t n)).tmrFire t n else s

/-! ## Threads (R106, R108, R129, R130, R132, R141) -/

/-- Every general and wide register of a thread is 0. -/
def State.clearRegs (s : State) (t : Nat) : State :=
  { s with gnor := { s.gnor with
      g := s.gnor.g.filter (fun p => p.1 / 32 != t)
      w := s.gnor.w.filter (fun p => p.1 / 8 != t) } }

/-- A pending restart withdrawn. -/
def State.dropRestart (s : State) (t : Nat) : State :=
  { s with lum := { s.lum with restartAt := s.lum.restartAt.filter (fun p => p.1 != t) } }

/-- The start address of a thread. -/
def State.startAddr (s : State) (t : Nat) : Nat :=
  s.rd (LUM_T_START_LO.ADDR_LO t) + s.rd (LUM_T_START_HI.ADDR_HI t) * 2 ^ 32

/-- A thread begins at its start address in the state of R108 and R141. -/
def State.beginThread (s : State) (t : Nat) : State :=
  let s := (s.clearRegs t).setPc t (BitVec.ofNat 40 (s.startAddr t))
  let s := (((s.setEvmask t 0).setCc t 0).setXpc t 0).setXcause t 0
  let s := ((s.tmrOff t 0).tmrOff t 1).setReg (LUM_T_TEV.addr t) 0
  ((s.setPrim t none).dropRestart t).setTh t thRunning

/-- A thread stops at an instruction boundary; a THREAD_STOP that waited for it ends with OK (R132, R137). -/
def State.haltThread (s : State) (t : Nat) : State :=
  let s := ((s.setPrim t none).dropRestart t).setTh t thStopped
  if s.lum.busy = some (.stop t) then { s with lum := { s.lum with busy := none } }.lumDone ccOk else s

/-- A thread is stopped as THREAD_STOP stops it: a primitive in progress other than WAIT completes first (R132). -/
def State.stopThread (s : State) (t : Nat) : State :=
  match s.prim t with
  | some (.wait _ _) | none => if s.thState t = thStopped then s else s.haltThread t
  | some _ => s.setTh t thStopping

/-- Threads may run: in every mode but DORMANT and RECOVERY, and in RECOVERY from the moment Cirque starts them at boot
until the target mode is entered (R105). -/
def State.threadsRun (s : State) : Bool := 2 ≤ s.mode || (s.mode == 1 && s.crq.phase == 4)

/-- A thread enters FAULTED (R129); its restart, or its giving up, is decided 10 ms later (R130). -/
def State.threadFault (s : State) (t code : Nat) : State :=
  let s := s.setTh t thFaulted
  let s := (s.wr (LUM_T_EXC.CAUSE t) code).up (LUM_T_EXC.VALID t)
  let s := (s.wr LUM_FAULT.TID t).up LUM_FAULT.VALID
  let s := (s.up LUM_EVT.THREAD_FAULT).raiseSimple 0x01 (t / 16) 0
  { s with lum := { s.lum with restartAt := s.lum.restartAt ++ [(t, s.now + msTicks 10)] } }

/-- Restarts of a thread in the last 60 s (R130). -/
def State.recentRestarts (s : State) (t : Nat) : Nat :=
  (s.lum.restarts.filter (fun p => p.1 == t && decide (s.now < p.2 + msTicks 60000))).length

/-- 10 ms after a fault: the thread restarts, or stays FAULTED for good (R130). -/
def State.threadRestart (s : State) (t : Nat) : State :=
  match s.lum.restartAt.find? (fun p => p.1 == t) with
  | none => s
  | some (_, at_) =>
    let s := (s.reach at_).dropRestart t
    if s.on (LUM_T_STATE.RESTART t) && s.threadsRun && s.recentRestarts t < 3 then
      let s := { s with lum := { s.lum with restarts := s.lum.restarts ++ [(t, s.now)] } }
      (s.beginThread t).wr (LUM_T_STATE.RESTARTS t) (s.recentRestarts t)
    else s.up LUM_EVT.THREAD_GIVEUP

/-- Is a thread STOPPED or FAULTED? -/
def State.atRest (s : State) (t : Nat) : Bool := s.thState t == thStopped || s.thState t == thFaulted

/-- Are all four threads of a core at rest (R133)? -/
def State.coreAtRest (s : State) (core : Nat) : Bool := (List.range 4).all (fun k => s.atRest (4 * core + k))

/-! ## Caches of a core (R119, R133) -/

/-- Every dirty word of a core's data cache reaches DRAM, after the write-backs it had started. -/
def State.writeBackCore (s : State) (core : Nat) : State :=
  let s := s.landWBs (fun w => w.core == core)
  let ls := s.mem.dcache.filter (fun l => l.core == core)
  let s := ls.foldl (fun s l => s.landWB ⟨l.core, l.addr, l.words, none⟩) s
  { s with mem := { s.mem with
      dcache := s.mem.dcache.map (fun l => if l.core == core then { l with dirty := [] } else l) } }

/-- A core's data cache emptied. -/
def State.invalD (s : State) (core : Nat) : State :=
  { s with mem := { s.mem with dcache := s.mem.dcache.filter (fun l => l.core != core) } }

/-- A core's instruction cache emptied. -/
def State.invalI (s : State) (core : Nat) : State :=
  { s with mem := { s.mem with icache := s.mem.icache.filter (fun l => l.core != core) } }

/-- Every channel to a core emptied; each sender is told as if the word had been read (R133). -/
def State.drainChannels (s : State) (core : Nat) : State :=
  (List.range 36).foldl (fun s snd =>
    match s.chan snd core with
    | some (_, tid) => (s.setChan snd core none).tellEmpty snd core tid
    | none => s) s

/-- What CORE_RESET does (R133). -/
def State.resetCore (s : State) (core : Nat) : State :=
  let s := (((s.writeBackCore core).invalD core).invalI core).drainChannels core
  let s := s.setReg (LUM_DB.addr core) 0
  (List.range 4).foldl (fun s k =>
    let t := 4 * core + k
    (((s.tmrOff t 0).tmrOff t 1).setReg (LUM_T_TEV.addr t) 0).setReg (LUM_T_EXC.addr t) 0) s

/-! ## Cluster clocks (R113 to R115) -/

/-- The supply of an operating point in mV (R113). -/
def supplyOf (freq : Nat) : Nat :=
  match freq with
  | 4 => 650 | 5 => 671 | 6 => 692 | 7 => 713 | 8 => 733 | 9 => 754 | 10 => 775 | 11 => 796 | 12 => 817
  | 13 => 838 | 14 => 858 | 15 => 879 | 16 => 900 | _ => 0

/-- The highest clock an island may run at, in MHz. -/
def State.cap (s : State) (isl : Nat) : Nat :=
  min (SMap.get (fun _ => 100000) s.crq.capX isl) (SMap.get (fun _ => 100000) s.crq.capT isl)

/-- FREQ_EFF and LIMITED of a cluster follow its request and its limits (R115); while a change runs the cluster issues at
the lower of the old and the new clock (R114). -/
def State.clusterClock (s : State) (c : Nat) : State :=
  let req := s.rd (LUM_CL.FREQ_REQ c)
  let lim := min (req * 100) (s.cap c) / 100
  let eff := if s.on (LUM_CL.CHANGING c) then min (s.rd (LUM_CL.FREQ_EFF c)) lim else lim
  (s.wr (LUM_CL.FREQ_EFF c) eff).bit (LUM_CL.LIMITED c) (decide (lim < req))

/-- Would the set point break the 0.35 V of R48 against another cluster, or an island at 0.750 V? -/
def State.supplyClash (s : State) (c freq : Nat) : Bool :=
  let v := supplyOf freq
  let far (u : Nat) : Bool := decide (u + 350 < v) || decide (v + 350 < u)
  far 750 || (List.range 8).any (fun k => k != c && far (supplyOf (s.rd (LUM_CL.FREQ_REQ k))))

/-! ## The LUM commands (R137) -/

/-- Is an address one that a program may start at: DRAM, local or cluster SRAM, 4-byte aligned? -/
def startable (a : Nat) : Bool :=
  a % 4 == 0 && (regionOf 0 a == .dram || regionOf 0 a == .loc || regionOf 0 a == .clu)

/-- THREAD_START (R108, R137). The order of the codes is the model's choice, and so is DENIED where no thread may run
(log entry 17). -/
def State.lumStart (s : State) : State :=
  let t := bitsOf (s.rd LUM_KEY.VALUE) 0 7
  let d1 := s.rd LUM_DATA1.VALUE
  let a := s.rd LUM_DATA0.VALUE + bitsOf d1 0 8 * 2 ^ 32
  if !s.clusterReady (t / 16) then s.lumDone ccBusy
  else if !startable a then s.lumDone ccRange
  else if !s.atRest t || !s.threadsRun then s.lumDone ccDenied
  else
    let s := (s.wr (LUM_T_START_LO.ADDR_LO t) (a % 2 ^ 32)).wr (LUM_T_START_HI.ADDR_HI t) (a / 2 ^ 32)
    ((s.bit (LUM_T_STATE.PRIO t) (bitsOf d1 8 1 == 1)).beginThread t).lumDone ccOk

/-- THREAD_STOP (R132): BUSY lasts until the thread is STOPPED. -/
def State.lumStop (s : State) : State :=
  let t := bitsOf (s.rd LUM_KEY.VALUE) 0 7
  if !s.clusterReady (t / 16) then s.lumDone ccBusy
  else
    let s := s.stopThread t
    if s.thState t = thStopping then
      let s := s.start LUM_STAT.addr
      { s with lum := { s.lum with busy := some (.stop t) } }
    else s.lumDone ccOk

/-- CORE_RESET (R133). -/
def State.lumReset (s : State) : State :=
  let c := bitsOf (s.rd LUM_KEY.VALUE) 0 5
  if !s.clusterReady (c / 4) then s.lumDone ccBusy
  else if !s.coreAtRest c then s.lumDone ccDenied
  else (s.resetCore c).lumDone ccOk

/-- CACHE_SYNC (R137). -/
def State.lumSync (s : State) : State :=
  let c := bitsOf (s.rd LUM_KEY.VALUE) 0 5
  let d := s.rd LUM_DATA0.VALUE
  let wb := bitsOf d 0 1 == 1
  let iv := bitsOf d 1 1 == 1
  if !s.clusterReady (c / 4) then s.lumDone ccBusy
  else if iv && !wb && !s.coreAtRest c then s.lumDone ccDenied
  else
    let s := if wb then s.writeBackCore c else s
    let s := if iv then s.invalD c else s
    let s := if bitsOf d 2 1 == 1 then s.invalI c else s
    s.lumDone ccOk

/-- DVFS (R114): the change runs until its supply ramp has ended. -/
def State.lumDvfs (s : State) : State :=
  let c := bitsOf (s.rd LUM_KEY.VALUE) 0 3
  let f := bitsOf (s.rd LUM_DATA0.VALUE) 0 5
  if !s.clusterReady c then s.lumDone ccBusy
  else if f < 4 || 16 < f || s.supplyClash c f then s.lumDone ccRange
  else
    let s := (((s.wr (LUM_CL.FREQ_REQ c) f).up (LUM_CL.CHANGING c)).clusterClock c).start LUM_STAT.addr
    { s with lum := { s.lum with busy := some (.dvfs c f) } }

/-- A cluster's change ends (R114). -/
def State.dvfsDone (s : State) (c : Nat) : State :=
  match s.lum.busy with
  | some (.dvfs c' f) =>
    if c = c' then
      let s := (s.down (LUM_CL.CHANGING c)).clusterClock c
      let s := (s.wr (SYS_ISL.VDD c) (supplyOf f)).up LUM_EVT.DVFS_DONE
      { s with lum := { s.lum with busy := none } }.lumDone ccOk
    else s
  | _ => s

/-- A primitive other than WAIT has completed: its thread goes on, or stops where it was STOPPING (R132, R168). -/
def State.primDone (s : State) (t : Nat) (cc : Nat) : State :=
  let s := (s.setCc t (BitVec.ofNat 8 cc)).setPrim t none
  if s.thState t = thStopping then s.haltThread t else s.setTh t thRunning

/-- Every thread stopped as THREAD_STOP stops it, as Cirque does on entry to RECOVERY (R105, R132). -/
def State.stopAll (s : State) : State := (List.range 128).foldl State.stopThread s

/-! ## Loading programs (R131, R135) -/

/-- The bytes of a section reach the memory that its type names: DRAM directly, SRAM through the window (R131). Words
written whole get fresh check bits; a poisoned word written in part keeps its bytes and is an uncorrectable error (R42,
R43). -/
def State.putSection (s : State) (x : Section) : State :=
  let sram (s : State) (g : Region) (core a : Nat) : State :=
    let n := x.data.length
    let t := s.healSram g core a n
    let bad (i : Nat) : Bool := (t.sramPoison g).contains ((sramKey g core a + i) / 4)
    let bs := (x.data.zip (t.sramBytes g core a n)).zipIdx.map (fun p => if bad p.2 then p.1.2 else p.1.1)
    (if t.sramPoisonIn g core a n then t.sramUe g core a n else t).writeSram g core a bs
  match x.space with
  | 0 => (s.dmaWrite x.addr x.data).2
  | 1 => sram s .loc x.unit (0x80_0000_0000 + x.addr)
  | _ => sram s .clu (4 * x.unit) (0x80_1000_0000 + x.addr)

/-- Does a section lie inside the memory its type names, and outside the regions of R131? -/
def State.sectionOk (s : State) (x : Section) : Bool :=
  let n := x.data.length
  let apart (b len : Nat) : Bool := decide (x.addr + n ≤ b) || decide (b + len ≤ x.addr)
  match x.space with
  | 0 => decide (x.addr + n ≤ 2 ^ 36) && (!s.on FIRN_CTRL.EN || apart s.firnBase firnSize)
      && (!s.on MOR_CTRL.EN || apart s.morBase morSize)
  | 1 => decide (x.unit < 32) && decide (x.addr + n ≤ 131072)
  | 2 => decide (x.unit < 8) && decide (x.addr + n ≤ 2097152)
  | _ => false

/-- An entry of the thread table applied (R131 step 5): RESTART, and the start as THREAD_START makes it. That an entry whose
start is refused leaves the rest of the load to go on is the model's choice (log entry 44). -/
def State.startEntry (s : State) (e : ThreadEntry) : State :=
  let t := e.tid
  let s := s.bit (LUM_T_STATE.RESTART t) e.restart
  if !startable e.start || !s.threadsRun then s
  else
    let s := (s.wr (LUM_T_START_LO.ADDR_LO t) (e.start % 2 ^ 32)).wr (LUM_T_START_HI.ADDR_HI t) (e.start / 2 ^ 32)
    (s.bit (LUM_T_STATE.PRIO t) e.prio).beginThread t

/-- LUM_T_VEC and LUM_T_DBMASK of an entry. -/
def State.vecEntry (s : State) (e : ThreadEntry) : State :=
  ((s.setReg (LUM_T_VEC_LO.addr e.tid) (BitVec.ofNat 32 (e.vec % 2 ^ 32 / 4 * 4))).setReg (LUM_T_VEC_HI.addr e.tid)
    (BitVec.ofNat 32 (e.vec / 2 ^ 32 % 256))).setReg (LUM_T_DBMASK.addr e.tid) e.dbmask

/-- Cirque loads an image onto the cores it names (R131): the code and the state. What R131 issues on a core of a cluster that
is not ready is refused BUSY (R26, R137), and so is the load. That an operating point of the cluster table is not checked is
the model's choice (log entry 44). -/
def State.loadImage (s : State) (im : Image) : Nat × State :=
  if !(im.sections.all s.sectionOk) then (ccRange, s)
  else if !(im.cores.all (fun c => s.clusterReady (c / 4))) then (ccBusy, s)
  else
    let s := im.cores.foldl (fun s c => (List.range 4).foldl (fun s k => s.haltThread (4 * c + k)) s) s
    let s := im.cores.foldl State.resetCore s
    let s := im.sections.foldl State.putSection s
    let s := im.clusters.foldl (fun s p =>
      ((s.wr (LUM_CL.FREQ_REQ p.1) p.2).clusterClock p.1).wr (SYS_ISL.VDD p.1) (supplyOf p.2)) s
    let s := im.mailboxes.foldl (fun s p => s.setReg (LUM_MBX_DB.addr p.1 p.2.1) p.2.2) s
    let s := im.threads.foldl State.vecEntry s
    let s := im.threads.foldl State.startEntry s
    (ccOk, { s with lum := { s.lum with image := im } })

/-- A cluster comes back after an F1 fault (R135): its SRAM sections are loaded again from the image last loaded on any core
(log entry 17), and every thread with RESTART set starts again at its start address; the others stay STOPPED. That such a
start counts in no RESTARTS is the model's choice (log entry 44). -/
def State.reviveCluster (s : State) (c : Nat) : State :=
  let mine (x : Section) : Bool := (x.space == 1 && x.unit / 4 == c) || (x.space == 2 && x.unit == c)
  let s := (List.range 16).foldl (fun s k => s.haltThread (16 * c + k)) s
  let s := (s.lum.image.sections.filter mine).foldl State.putSection s
  (List.range 16).foldl (fun s k =>
    if s.on (LUM_T_STATE.RESTART (16 * c + k)) && s.threadsRun then s.beginThread (16 * c + k) else s) s

end Sys2Proof.Machine
end

