-- ==== Sys2Proof/Machine/Gnor.lean ====
section
/-!
DEFINITION. Sys2Proof/Machine/Gnor.lean: how a Gnor thread issues one instruction: fetch, the exceptions and their
entry, Cirque's interrupt, and the system group (R138 to R146, R150, R170 to R179).
-/

namespace Sys2Proof.Machine

/-- The outcome of a command. -/
abbrev Out := Host.Outcome State Fault Refusal

/-! ## Taking an exception (R172, R173, R177) -/

/-- The vector of a thread: LUM_T_VEC, or CRQ_VEC for Cirque (R177). -/
def State.vec (s : State) (t : Nat) : BitVec 40 :=
  if t = 128 then BitVec.ofNat 40 (s.rd CRQ_VEC_LO.VEC_LO * 4 + s.rd CRQ_VEC_HI.VEC_HI * 2 ^ 32)
  else BitVec.ofNat 40 (s.rd (LUM_T_VEC_LO.VEC_LO t) * 4 + s.rd (LUM_T_VEC_HI.VEC_HI t) * 2 ^ 32)

/-- Cirque restarts at its boot ROM entry and records an F1 fault (R177, R450 cause 0x0C). -/
def State.cirqueRestart (s : State) : State :=
  let f : FaultRec := ⟨0x0C, 1, 18, 0, s.iceSeq, 0⟩
  let s := (s.setPc 128 (BitVec.ofNat 40 Config.bootEntry)).setXcause 128 0
  match s.faults.cur with
  | some _ => s.deferFault f
  | none => (s.recordFault f dispStarted).recordEnd f dispDone

/-- A thread cannot enter its handler: FAULTED under R129, or Cirque's restart under R177. -/
def State.noHandler (s : State) (t code : Nat) : State :=
  if t = 128 then s.cirqueRestart else s.threadFault t code

/-- An exception is taken: cause code, completion code carried, ADDR, and the address that XPC receives (R172, R173). -/
def State.takeException (s : State) (t code xcc addr : Nat) (pc : BitVec 40) : State :=
  let s := if xcc = 0 then s else s.setCc t (BitVec.ofNat 8 xcc)
  if s.xact t then s.noHandler t code
  else
    let s := (s.setXpc t pc).setXcause t (BitVec.ofNat 64 (code + xcc * 2 ^ 8 + 2 ^ 16 + (addr % 2 ^ 40) * 2 ^ 24))
    if s.vec t = 0 then s.noHandler t code else s.setPc t (s.vec t)

/-! ## Cirque's event input (R178, R179) -/

/-- Cirque's event input is signalled: some block signals Cirque and CRQ_IRQ_EN lets it (R178). -/
def State.cirqueInput (s : State) : Bool :=
  (List.range 16).any (fun b => s.signalsCirque b && ((s.reg CRQ_IRQ_EN.addr).toNat >>> b) % 2 == 1)

/-- The interrupt is taken (R172, R178): XPC receives the address of the next instruction. -/
def State.takeInterrupt (s : State) : State :=
  if s.cirqueInput && !s.xact 128 then s.takeException 128 0x10 0 0 (s.pc 128) else s

/-- An IDLE whose event input is signalled completes; with XACT 0 the interrupt is taken at once (R179). -/
def State.settleIdle (s : State) : State :=
  if s.crq.idle && s.cirqueInput then { s with crq := { s.crq with idle := false } }.takeInterrupt else s

/-- Every WAIT and IDLE whose end has come is over (R110, R179). -/
def State.settleAll (s : State) : State :=
  ((s.lum.prims.map (·.1)).foldl State.settleWait s).settleIdle

/-- Where the register file has changed since u, the WAITs and IDLEs whose end has come are over (R110, R179). -/
def State.settled (u v : State) : State := if v.regs = u.regs then v else v.settleAll

/-! ## Issue -/

/-- How the execution of an instruction ends. -/
inductive Res where
  /-- The next instruction follows. -/
  | go (s : State)
  /-- The program goes on at a target. -/
  | jump (s : State) (pc : BitVec 40)
  /-- An exception: code, completion code carried, ADDR. -/
  | exc (s : State) (code xcc addr : Nat)

/-- The core of a thread as the caches know it; Cirque's is 32. -/
def cacheCore (t : Nat) : Nat := if t = 128 then 32 else t / 4

/-- May the thread issue: a RUNNING lumen thread (R106), or Cirque with the rails up and not in IDLE? -/
def State.mayIssue (s : State) (t : Nat) : Bool :=
  if t = 128 then s.rails && !s.crq.idle else s.thState t == thRunning

/-- A WAIT or an IDLE whose end has come is over before the thread issues again. -/
def State.settle (s : State) (t : Nat) : State := if t = 128 then s.settleIdle else s.settleWait t

/-- The end of an instruction at a program counter. -/
def State.retire (t : Nat) (pc : BitVec 40) : Res → State
  | .go s => s.setPc t (pc + 4)
  | .jump s p => s.setPc t p
  | .exc s code xcc addr => s.takeException t code xcc addr pc

/-- A thread issues one instruction: its fetch, then its body (R171), and the waits that what it signals ends; a thread that
may not issue changes nothing. -/
def State.issue (s : State) (t : Nat) (body : State → Res) : State :=
  let s := s.settle t
  if !s.mayIssue t then s
  else
    let pc := s.pc t
    match s.fetch (cacheCore t) pc.toNat with
    | (.denied cc, u) => s.settled (u.takeException t 0x03 cc pc.toNat pc)
    | (.poison, u) => s.settled (u.takeException t 0x04 ccUe pc.toNat pc)
    | (.done, u) => s.settled (State.retire t pc (body u))

/-- An ILLEGAL exception of an instruction (R145, R170). -/
def illegal (i : Instr) (s : State) : Res := .exc s 0x01 0 (encode i).toNat

/-- An instruction that Cirque does not have (R177). -/
def notCirque (i : Instr) (t : Tid) (body : State → Res) (s : State) : Res :=
  if t.val = 128 then illegal i s else body s

/-! ## The system group (R140, R150, R164, R174) -/

/-- The special register that MFS reads; none where the number is reserved for the thread (R140, R177). -/
def State.special (s : State) (t : Nat) (n : Nat) : Option Dword :=
  match n with
  | 0 => some ((s.pc t).setWidth 64)
  | 1 => some (BitVec.ofNat 64 t)
  | 2 => if t = 128 then none else some ((s.evmask t).setWidth 64)
  | 3 => some ((s.cc t).setWidth 64)
  | 4 => some ((s.xpc t).setWidth 64)
  | 5 => some (s.xcause t)
  | 6 => some (BitVec.ofNat 64 s.ctr)
  | _ => none

def execMfs (t : Tid) (rd : GReg) (n : BitVec 5) (s : State) : Out :=
  .next (s.issue t (fun s =>
    match s.special t n.toNat with
    | some v => .go (s.setG t rd v)
    | none => illegal (.mfs t rd n) s))

def execMts (t : Tid) (n : BitVec 5) (ra : GReg) (s : State) : Out :=
  .next (s.issue t (fun s =>
    let v := s.greg t ra
    if n = 2 && t.val != 128 then .go (s.setEvmask t (v.setWidth 32))
    else if n = 3 then .go (s.setCc t (v.setWidth 8))
    else if n = 4 then .go (s.setXpc t (v.setWidth 40))
    else illegal (.mts t n ra) s))

/-- FENCE (R164): the write-backs that the thread started have landed, and those before them that R163 orders. -/
def execFence (t : Tid) (s : State) : Out :=
  .next (s.issue t (fun s => .go (s.landWBs (wbsNeed (fun w => w.tid == some t.val) s.mem.wbs).contains)))

/-- XRET (R174). -/
def execXret (t : Tid) (s : State) : Out :=
  .next (s.issue t (fun s =>
    if s.xact t then .jump (s.setXcause t (s.xcause t &&& ~~~ 0x1_0000#64)) (s.xpc t) else illegal (.xret t) s))

def execTrap (t : Tid) (n : BitVec 5) (s : State) : Out := .next (s.issue t (fun s => .exc s 0x0A 0 n.toNat))

def execBrk (t : Tid) (s : State) : Out := .next (s.issue t (fun s => .exc s 0x0B 0 0))

/-- IDLE (R179): Cirque stops issuing until its event input is signalled, which `State.settleIdle` sees at once. -/
def execIdle (t : Tid) (s : State) : Out :=
  .next ((s.issue t (fun s =>
    if t.val = 128 then .go { s with crq := { s.crq with idle := true } } else illegal (.idle t) s)).settleIdle)

/-- INTERRUPT (R178): taken at an instruction boundary while the input is signalled and XACT is 0. -/
def execInterrupt (s : State) : Out :=
  .next (
    let s := s.settleIdle
    if s.mayIssue 128 then s.takeInterrupt else s)

/-! ## Branches and jumps (R157, R158) -/

/-- The target of a branch: off words from the branch, modulo 2^40. -/
def branchTarget (pc : BitVec 40) (off : Imm16) : BitVec 40 := pc + (off.signExtend 40 <<< 2)

/-- A branch taken where its condition holds. -/
def State.branch (s : State) (t : Tid) (off : Imm16) (c : State → Bool) : State :=
  s.issue t (fun s => if c s then .jump s (branchTarget (s.pc t) off) else .go s)

def execBeq (t : Tid) (ra rb : GReg) (off : Imm16) (s : State) : Out :=
  .next (s.branch t off (fun s => s.greg t ra == s.greg t rb))
def execBne (t : Tid) (ra rb : GReg) (off : Imm16) (s : State) : Out :=
  .next (s.branch t off (fun s => s.greg t ra != s.greg t rb))
def execBlt (t : Tid) (ra rb : GReg) (off : Imm16) (s : State) : Out :=
  .next (s.branch t off (fun s => (s.greg t ra).slt (s.greg t rb)))
def execBge (t : Tid) (ra rb : GReg) (off : Imm16) (s : State) : Out :=
  .next (s.branch t off (fun s => !(s.greg t ra).slt (s.greg t rb)))
def execBltu (t : Tid) (ra rb : GReg) (off : Imm16) (s : State) : Out :=
  .next (s.branch t off (fun s => (s.greg t ra).ult (s.greg t rb)))
def execBgeu (t : Tid) (ra rb : GReg) (off : Imm16) (s : State) : Out :=
  .next (s.branch t off (fun s => !(s.greg t ra).ult (s.greg t rb)))
def execBccz (t : Tid) (off : Imm16) (s : State) : Out := .next (s.branch t off (fun s => s.cc t == 0))
def execBccnz (t : Tid) (off : Imm16) (s : State) : Out := .next (s.branch t off (fun s => s.cc t != 0))

/-- The target of J and JAL. -/
def jumpTarget (pc : BitVec 40) (off : BitVec 26) : BitVec 40 := pc + (off.signExtend 40 <<< 2)

def execJ (t : Tid) (off : BitVec 26) (s : State) : Out :=
  .next (s.issue t (fun s => .jump s (jumpTarget (s.pc t) off)))

def execJal (t : Tid) (off : BitVec 26) (s : State) : Out :=
  .next (s.issue t (fun s => .jump (s.setG t 31 ((s.pc t + 4).setWidth 64)) (jumpTarget (s.pc t) off)))

/-- JALR: a misaligned or too wide target raises FETCH_MISALIGN and writes nothing. -/
def execJalr (t : Tid) (rd ra : GReg) (imm : Imm16) (s : State) : Out :=
  .next (s.issue t (fun s =>
    let target := s.greg t ra + imm.signExtend 64
    if target.toNat % 4 != 0 || 2 ^ 40 ≤ target.toNat then .exc s 0x02 0 target.toNat
    else .jump (s.setG t rd ((s.pc t + 4).setWidth 64)) (target.setWidth 40)))

/-! ## Cache maintenance (R163) -/

/-- The effective address of format M and of register plus immediate (R151). -/
def State.ea (s : State) (t : Nat) (ra : GReg) (disp : Imm16) : Dword := s.greg t ra + disp.signExtend 64

/-- The data-cache line that holds an effective address, where it is a DRAM address and the line is present. -/
def State.cacheLine (s : State) (t : Nat) (ea : Dword) : Option DLine :=
  if ea.toNat < 2 ^ 36 then s.dline (cacheCore t) ea.toNat else none

def execFlush (t : Tid) (ra : GReg) (disp : Imm16) (s : State) : Out :=
  .next (s.issue t (fun s =>
    match s.cacheLine t (s.ea t ra disp) with
    | some l => .go ((s.startWB (some t.val) l).setDline { l with dirty := [] })
    | none => .go s))

def execInval (t : Tid) (ra : GReg) (disp : Imm16) (s : State) : Out :=
  .next (s.issue t (fun s =>
    match s.cacheLine t (s.ea t ra disp) with
    | some l => .go (s.evictD (some t.val) l)
    | none => .go s))

/-- WRITEBACK (R163): a started write-back of a core lands, after those of the same word that started before it. -/
def execWriteback (core idx : Nat) (s : State) : Out :=
  .next (
    let mine := s.mem.wbs.filter (fun w => w.core == core)
    match mine[idx]? with
    | some w =>
      let land := wbsNeed w.meets (mine.take idx) ++ [w]
      let s' := land.foldl State.landWB s
      { s' with mem := { s'.mem with wbs := land.foldl (fun l v => l.erase v) s.mem.wbs } }
    | none => s)

end Sys2Proof.Machine
end

