-- ==== Sys2Proof/Machine/Alu.lean ====
section
/-!
DEFINITION. Sys2Proof/Machine/Alu.lean: the integer operations of Gnor: register, immediate, multiply and divide
(R147 to R149).
-/

namespace Sys2Proof.Machine

/-- A register operation: rd receives a function of ra and rb (R138, R147). -/
def State.gop (s : State) (t : Tid) (rd ra rb : GReg) (f : Dword → Dword → Dword) : State :=
  s.issue t (fun s => .go (s.setG t rd (f (s.greg t ra) (s.greg t rb))))

/-- A register operation on one source. -/
def State.gop1 (s : State) (t : Tid) (rd ra : GReg) (f : Dword → Dword) : State :=
  s.issue t (fun s => .go (s.setG t rd (f (s.greg t ra))))

/-- 1 where a comparison holds, else 0. -/
def truth (b : Bool) : Dword := if b then 1 else 0

/-- sx32 of R147's notation: the low 32 bits sign-extended. -/
def sx32 (x : Dword) : Dword := (x.setWidth 32).signExtend 64

/-- Leading zero bits among the low n bits of x. -/
def leadZeros (x : Dword) : Nat → Nat
  | 0 => 0
  | n + 1 => if x.getLsbD n then 0 else leadZeros x n + 1

/-- 1 bits among the low n bits of x. -/
def onesIn (x : Dword) : Nat → Nat
  | 0 => 0
  | n + 1 => onesIn x n + (if x.getLsbD n then 1 else 0)

/-- The high 64 bits of the signed product. -/
def mulHigh (a b : Dword) : Dword := ((a.signExtend 128 * b.signExtend 128) >>> 64).setWidth 64

/-- The high 64 bits of the unsigned product. -/
def mulHighU (a b : Dword) : Dword := ((a.setWidth 128 * b.setWidth 128) >>> 64).setWidth 64

/-- Division as R149 gives it: by 0 the quotient has every bit set and the remainder is the dividend; the most
negative value by -1 gives the dividend and remainder 0. -/
def quotS {w : Nat} (a b : BitVec w) : BitVec w := if b = 0 then BitVec.allOnes w else a.sdiv b
def quotU {w : Nat} (a b : BitVec w) : BitVec w := if b = 0 then BitVec.allOnes w else a / b
def remS {w : Nat} (a b : BitVec w) : BitVec w := if b = 0 then a else a.srem b
def remU {w : Nat} (a b : BitVec w) : BitVec w := if b = 0 then a else a % b

/-- A 32-bit operation on the low words, its result passed through sx32. -/
def word32 (f : BitVec 32 → BitVec 32 → BitVec 32) (a b : Dword) : Dword :=
  (f (a.setWidth 32) (b.setWidth 32)).signExtend 64


/-! ## Register operations (R147) -/

def execAdd (t : Tid) (rd ra rb : GReg) (s : State) : Out := .next (s.gop t rd ra rb (fun a b => a + b))
def execSub (t : Tid) (rd ra rb : GReg) (s : State) : Out := .next (s.gop t rd ra rb (fun a b => a - b))
def execAddw (t : Tid) (rd ra rb : GReg) (s : State) : Out := .next (s.gop t rd ra rb (fun a b => sx32 (a + b)))
def execSubw (t : Tid) (rd ra rb : GReg) (s : State) : Out := .next (s.gop t rd ra rb (fun a b => sx32 (a - b)))
def execAnd (t : Tid) (rd ra rb : GReg) (s : State) : Out := .next (s.gop t rd ra rb (fun a b => a &&& b))
def execOr (t : Tid) (rd ra rb : GReg) (s : State) : Out := .next (s.gop t rd ra rb (fun a b => a ||| b))
def execXor (t : Tid) (rd ra rb : GReg) (s : State) : Out := .next (s.gop t rd ra rb (fun a b => a ^^^ b))
def execAndn (t : Tid) (rd ra rb : GReg) (s : State) : Out := .next (s.gop t rd ra rb (fun a b => a &&& ~~~b))
def execSll (t : Tid) (rd ra rb : GReg) (s : State) : Out := .next (s.gop t rd ra rb (fun a b => a <<< (b.toNat % 64)))
def execSrl (t : Tid) (rd ra rb : GReg) (s : State) : Out := .next (s.gop t rd ra rb (fun a b => a >>> (b.toNat % 64)))
def execSra (t : Tid) (rd ra rb : GReg) (s : State) : Out := .next (s.gop t rd ra rb (fun a b => a.sshiftRight (b.toNat % 64)))
def execSlt (t : Tid) (rd ra rb : GReg) (s : State) : Out := .next (s.gop t rd ra rb (fun a b => truth (a.slt b)))
def execSltu (t : Tid) (rd ra rb : GReg) (s : State) : Out := .next (s.gop t rd ra rb (fun a b => truth (a.ult b)))
def execMin (t : Tid) (rd ra rb : GReg) (s : State) : Out := .next (s.gop t rd ra rb (fun a b => if a.slt b then a else b))
def execMax (t : Tid) (rd ra rb : GReg) (s : State) : Out := .next (s.gop t rd ra rb (fun a b => if a.slt b then b else a))
def execMinu (t : Tid) (rd ra rb : GReg) (s : State) : Out := .next (s.gop t rd ra rb (fun a b => if a.ult b then a else b))
def execMaxu (t : Tid) (rd ra rb : GReg) (s : State) : Out := .next (s.gop t rd ra rb (fun a b => if a.ult b then b else a))
def execMovz (t : Tid) (rd ra rb : GReg) (s : State) : Out :=
  .next (s.issue t (fun s => .go (if s.greg t rb == 0 then s.setG t rd (s.greg t ra) else s)))
def execMovn (t : Tid) (rd ra rb : GReg) (s : State) : Out :=
  .next (s.issue t (fun s => .go (if s.greg t rb != 0 then s.setG t rd (s.greg t ra) else s)))
def execSxb (t : Tid) (rd ra : GReg) (s : State) : Out := .next (s.gop1 t rd ra (fun a => (a.setWidth 8).signExtend 64))
def execSxh (t : Tid) (rd ra : GReg) (s : State) : Out := .next (s.gop1 t rd ra (fun a => (a.setWidth 16).signExtend 64))
def execSxw (t : Tid) (rd ra : GReg) (s : State) : Out := .next (s.gop1 t rd ra (fun a => sx32 a))
def execZxb (t : Tid) (rd ra : GReg) (s : State) : Out := .next (s.gop1 t rd ra (fun a => (a.setWidth 8).setWidth 64))
def execZxh (t : Tid) (rd ra : GReg) (s : State) : Out := .next (s.gop1 t rd ra (fun a => (a.setWidth 16).setWidth 64))
def execZxw (t : Tid) (rd ra : GReg) (s : State) : Out := .next (s.gop1 t rd ra (fun a => (a.setWidth 32).setWidth 64))
def execClz (t : Tid) (rd ra : GReg) (s : State) : Out := .next (s.gop1 t rd ra (fun a => BitVec.ofNat 64 (leadZeros a 64)))
def execPopc (t : Tid) (rd ra : GReg) (s : State) : Out := .next (s.gop1 t rd ra (fun a => BitVec.ofNat 64 (onesIn a 64)))

/-! ## Immediate operations (R148) -/

def execAddi (t : Tid) (rd ra : GReg) (imm : Imm16) (s : State) : Out :=
  .next (s.gop1 t rd ra (fun a => a + imm.signExtend 64))
def execAndi (t : Tid) (rd ra : GReg) (imm : Imm16) (s : State) : Out :=
  .next (s.gop1 t rd ra (fun a => a &&& imm.setWidth 64))
def execOri (t : Tid) (rd ra : GReg) (imm : Imm16) (s : State) : Out :=
  .next (s.gop1 t rd ra (fun a => a ||| imm.setWidth 64))
def execXori (t : Tid) (rd ra : GReg) (imm : Imm16) (s : State) : Out :=
  .next (s.gop1 t rd ra (fun a => a ^^^ imm.setWidth 64))
def execSlti (t : Tid) (rd ra : GReg) (imm : Imm16) (s : State) : Out :=
  .next (s.gop1 t rd ra (fun a => truth (a.slt (imm.signExtend 64))))
def execSltiu (t : Tid) (rd ra : GReg) (imm : Imm16) (s : State) : Out :=
  .next (s.gop1 t rd ra (fun a => truth (a.ult (imm.signExtend 64))))
def execOrh (t : Tid) (rd ra : GReg) (imm : Imm16) (s : State) : Out :=
  .next (s.gop1 t rd ra (fun a => a ||| (imm.setWidth 64 <<< 32)))
def execLui (t : Tid) (rd : GReg) (imm : Imm16) (s : State) : Out :=
  .next (s.issue t (fun s => .go (s.setG t rd (imm.setWidth 64 <<< 16))))
def execSlli (t : Tid) (rd ra : GReg) (n : BitVec 6) (s : State) : Out := .next (s.gop1 t rd ra (fun a => a <<< n.toNat))
def execSrli (t : Tid) (rd ra : GReg) (n : BitVec 6) (s : State) : Out := .next (s.gop1 t rd ra (fun a => a >>> n.toNat))
def execSrai (t : Tid) (rd ra : GReg) (n : BitVec 6) (s : State) : Out := .next (s.gop1 t rd ra (fun a => a.sshiftRight n.toNat))

/-! ## Multiply and divide (R149) -/

def execMul (t : Tid) (rd ra rb : GReg) (s : State) : Out := .next (s.gop t rd ra rb (fun a b => a * b))
def execMulh (t : Tid) (rd ra rb : GReg) (s : State) : Out := .next (s.gop t rd ra rb (fun a b => mulHigh a b))
def execMulhu (t : Tid) (rd ra rb : GReg) (s : State) : Out := .next (s.gop t rd ra rb (fun a b => mulHighU a b))
def execMulw (t : Tid) (rd ra rb : GReg) (s : State) : Out := .next (s.gop t rd ra rb (fun a b => word32 (· * ·) a b))
def execDiv (t : Tid) (rd ra rb : GReg) (s : State) : Out := .next (s.gop t rd ra rb (fun a b => quotS a b))
def execDivu (t : Tid) (rd ra rb : GReg) (s : State) : Out := .next (s.gop t rd ra rb (fun a b => quotU a b))
def execRem (t : Tid) (rd ra rb : GReg) (s : State) : Out := .next (s.gop t rd ra rb (fun a b => remS a b))
def execRemu (t : Tid) (rd ra rb : GReg) (s : State) : Out := .next (s.gop t rd ra rb (fun a b => remU a b))
def execDivw (t : Tid) (rd ra rb : GReg) (s : State) : Out := .next (s.gop t rd ra rb (fun a b => word32 quotS a b))
def execDivuw (t : Tid) (rd ra rb : GReg) (s : State) : Out := .next (s.gop t rd ra rb (fun a b => word32 quotU a b))
def execRemw (t : Tid) (rd ra rb : GReg) (s : State) : Out := .next (s.gop t rd ra rb (fun a b => word32 remS a b))
def execRemuw (t : Tid) (rd ra rb : GReg) (s : State) : Out := .next (s.gop t rd ra rb (fun a b => word32 remU a b))

end Sys2Proof.Machine
end

