-- ==== Sys2Proof/Machine/Samples.lean ====
section
/-!
DEFINITION. Sys2Proof/Machine/Samples.lean: from the DATA lane of a pod to samples, and from samples to sums: word alignment
and parity (R226, R228), the filter chain (R229 to R231), the sums of a phase (R235), and the spectral lines (R240).
-/

namespace Sys2Proof.Machine

/-- A signed quotient, its rounding left open. -/
def sdivOpen (n : Int) (d : Nat) : Int := if n < 0 then -(divOpen n.natAbs d : Int) else divOpen n.natAbs d

/-! ## The DATA lane (R226, R228) -/

/-- Is the parity of a DATA word right: odd over bits 1 to 10 and their parity bit? -/
def wordGood (w : Nat) : Bool := (List.range 11).foldl (fun a i => a + bitsOf w (i + 1) 1) 0 % 2 == 1

/-- The DATA words in which a parity error stands. -/
def badWords (ws : List Nat) : Nat := (ws.filter (fun w => !wordGood w)).length

/-- Each word with a parity error is replaced by the one before it. -/
def mendWords : Nat → List Nat → List Nat
  | _, [] => []
  | p, w :: ws =>
    let x := if wordGood w then w else p
    x :: mendWords x ws

/-- Where the words of a lane begin: the marker, bit 0 of a word, is 1 in 16 consecutive words. -/
def alignOf (lane : List Bool) : Option Nat :=
  (List.range 12).find? (fun o => (List.range 16).all (fun i => lane.getD (o + 12 * i) false))

/-- The words of a lane from a place on. -/
def laneWords (lane : List Bool) (o : Nat) : List Nat :=
  (List.range ((lane.length - o) / 12)).map (fun i =>
    (List.range 12).foldl (fun a k => a + if lane.getD (o + 12 * i + k) false then 2 ^ k else 0) 0)

/-! ## The filter chain (R229, R230) -/

/-- The current bit of modulator k in a word, as a value. -/
def modBit (k w : Nat) : Int := if bitsOf w (k + 1) 1 = 1 then 1 else -1

/-- The sums over n consecutive values. -/
def boxcar (n : Nat) : List Int → List Int
  | [] => []
  | x :: xs => if xs.length + 1 < n then [] else ((x :: xs).take n).foldl (· + ·) 0 :: boxcar n xs

/-- The fourth-order sinc filter, decimating by 125: four sums over 125 values, one result in 125. -/
def sinc4 (l : List Int) : List Int :=
  let y := boxcar 125 (boxcar 125 (boxcar 125 (boxcar 125 l)))
  (List.range (divUp y.length 125)).map (fun i => y.getD (125 * i) 0)

/-- The 95-tap FIR filter, decimating by 5: result j. -/
def firAt (y : List Int) (j : Nat) : Int := (List.range 95).foldl (fun a i => a + Config.firTap i * y.getD (5 * j + i) 0) 0

/-- A sample code: 24 bits signed, at ±(2^23 - 1) at the most. -/
def clampCode (x : Int) : Int := max (-8388607) (min 8388607 x)

/-- A value after the FIR filter in sample codes. -/
def codeAt (y : List Int) (j : Nat) : Int := sdivOpen (firAt y j * 2 ^ 23) (125 ^ 4 * Config.firUnit)

/-- The words that the filters need before the first word of a stretch: 94 × 125 + 497 - 625 for the chain, and 255 for the
phase trim. -/
abbrev histLen : Nat := 11877

/-- The last words of a stream, filled up to the length that the filters need. -/
def lastWords (ws : List Nat) : List Nat := List.replicate (histLen - ws.length) 1 ++ ws.drop (ws.length - histLen)

/-- DC removal over a run of codes: what the filter remembers, and the samples. -/
def dcRun : Int → List Int → Int × List Int
  | m, [] => (m, [])
  | m, x :: xs =>
    let (m', y) := Config.dcRemove m x
    let (e, ys) := dcRun m' xs
    (e, clampCode y :: ys)

/-- The group delay of the chain in ns, which a sample's stamp has removed (R229). -/
abbrev chainDelay : Nat := 612300

/-- The samples of input k over a stretch that follows the words a feeder has kept: the phase trim delays the bitstream by
PHASE MCLK cycles (R230), and the delay of the chain itself is the same for all inputs. -/
def samplesOf (hist ws : List Nat) (k : Nat) (phase mem : Int) : Int × List Int :=
  let n := ws.length / 625
  let bits := (((hist ++ ws).drop (127 - phase).toNat).take (11622 + 625 * n)).map (modBit k)
  dcRun mem ((List.range n).map (codeAt (sinc4 bits)))

/-! ## Sums of a phase (R235) -/

/-- The sums of one phase over the samples of a stretch of time, in sample codes: v squared, normal-path and low-path
current squared, v times each current, and h(v) times each. -/
structure PhaseSum where
  vv : Nat
  ii : Nat
  ll : Nat
  vi : Int
  vl : Int
  hi : Int
  hl : Int
deriving DecidableEq, Repr

/-- The sum of the products of two runs. -/
def dot (a b : List Int) : Int := (a.zip b).foldl (fun t p => t + p.1 * p.2) 0

/-- The sums of a phase from the samples of its voltage and of its two current paths; `old` are the voltage samples before
these, through which the filter h has gone. -/
def phaseSum (old v i l : List Int) : PhaseSum :=
  let h := (List.range v.length).map (fun j => Config.hilbert (old ++ v) (old.length + j))
  ⟨(dot v v).toNat, (dot i i).toNat, (dot l l).toNat, dot v i, dot v l, dot h i, dot h l⟩

/-! ## Spectral lines (R240) -/

/-- The powers of e^(2πi / 2048), 2^60 to the unit (log entry 23). -/
def twiddle : Nat → Int × Int
  | 0 => (1152921504606846976, 0)
  | n + 1 =>
    let (c, s) := twiddle n
    ((c * 1152916078738702569 - s * 3537113327227485) / 2 ^ 60,
      (s * 1152916078738702569 + c * 3537113327227485) / 2 ^ 60)

/-- The square of the magnitude of line m of the 2,048-point transform of a window, 2^120 to the unit. -/
def lineSq (x : List Int) (m : Nat) : Nat :=
  let pt (i : Nat) : Int × Int :=
    let (c, s) := twiddle (m * i % 2048)
    let y := Config.resample x i
    (y * c, y * s)
  let (a, b) := (List.range 2048).foldl (fun (t : Int × Int) i => (t.1 + (pt i).1, t.2 + (pt i).2)) (0, 0)
  a.natAbs ^ 2 + b.natAbs ^ 2

end Sys2Proof.Machine
end

