-- ==== Sys2Proof/Machine/Serac.lean ====
section
/-!
DEFINITION. Sys2Proof/Machine/Serac.lean: Serac: the node, prefix and L2 tables, lookups, learning, eviction, parity
and the SRC commands (R287 to R295, R486, R307).
-/

namespace Sys2Proof.Machine

/-! ## Tables as lists -/

/-- The entries that are there, with their indices. -/
def present {α : Type} (m : SMap (Option α)) : List (Nat × α) :=
  m.filterMap (fun p => p.2.map (fun e => (p.1, e)))

/-- The lowest index below a bound that a rising list of indices leaves out. -/
def firstFreeAux : Nat → Nat → List Nat → Option Nat
  | 0, _, _ => none
  | n + 1, i, [] => if n + 1 = 0 then none else some i
  | n + 1, i, k :: ks => if k = i then firstFreeAux n (i + 1) ks else some i

def firstFree {α : Type} (size : Nat) (m : SMap (Option α)) : Option Nat :=
  firstFreeAux size 0 ((present m).map (·.1))

/-- The entry with the smallest use, ties to the lowest index (R292). -/
def oldest (l : List (Nat × Nat)) : Option Nat :=
  (l.foldl (fun (best : Option (Nat × Nat)) p =>
    match best with
    | some b => if p.2 < b.2 then some p else some b
    | none => some p) none).map (·.1)

/-- A victim among the evictable entries (index, use) by the table's policy: RANDOM is a free choice (R292). -/
def State.victim (s : State) (t : Nat) (l : List (Nat × Nat)) : Option Nat × State :=
  if l.isEmpty then (none, s)
  else if s.on (SRC_TBL.POLICY t) then (oldest l, s)
  else
    let (x, s) := s.draw
    ((l[x % l.length]?).map (·.1), s)

/-- SRC_EVICT and SRC_PERR: index, table, count and VALID (R307). -/
def State.srcNote (s : State) (a idx t : Nat) : State :=
  (((s.wr ⟨a, 0, 18⟩ idx).wr ⟨a, 18, 2⟩ t).count ⟨a, 20, 10⟩ 1).wr ⟨a, 31, 1⟩ 1

/-- An eviction recorded (R292). -/
def State.noteEvict (s : State) (idx t : Nat) : State := (s.srcNote SRC_EVICT.addr idx t).up SRC_EVT.EVICT

/-- A parity error recorded (R294). -/
def State.notePerr (s : State) (idx t : Nat) : State := (s.srcNote SRC_PERR.addr idx t).up SRC_EVT.PERR

/-- A learning fails for want of room (R292). -/
def State.learnFail (s : State) : State :=
  ({ s with src := { s.src with fails := s.src.fails + 1 } }).up SRC_EVT.LEARN_FAIL

/-- The next value of the use order. -/
def State.useTick (s : State) : Nat × State := (s.src.use, { s with src := { s.src with use := s.src.use + 1 } })

/-! ## Node table -/

/-- A node-table entry written. -/
def State.setNode (s : State) (n : Nat) (e : Option NodeEnt) : State :=
  { s with src := { s.src with nodes := SMap.put (fun _ => none) s.src.nodes n e } }

/-- The node with an EUI-64 (R288 table 0); a SUSPECT entry never matches (R294). -/
def State.nodeByEui (s : State) (eui : Nat) : Option Nat :=
  ((present s.src.nodes).find? (fun p => p.2.eui == eui && !p.2.suspect)).map (·.1)

/-- The node with a head and short address (R288 table 1, R486): 0xFFFE never matches. -/
def State.nodeByShort (s : State) (head short : Nat) : Option Nat :=
  if short = 0xFFFE then none
  else ((present s.src.nodes).find? (fun p => p.2.head == head && p.2.short == short && !p.2.suspect)).map (·.1)

/-- A lookup meets the check bits of the node entries whose key it seeks (R287, R294): a correctable error is corrected, an
uncorrectable one marks the entry SUSPECT. -/
def State.nodeCheck (s : State) (key : NodeEnt → Bool) : State :=
  ((present s.src.nodes).filter (fun p => key p.2 && !p.2.suspect && p.2.mark != .clean)).foldl (fun s p =>
    let t := s.metMark 4 p.2.mark
    if p.2.mark.bad then (t.setNode p.1 (some { p.2 with suspect := true })).notePerr p.1 0
    else t.setNode p.1 (some { p.2 with mark := .clean })) s

/-- A lookup of a head and short address meets its entry's check bits. -/
def State.shortCheck (s : State) (head short : Nat) : State := s.nodeCheck (fun e => e.head == head && e.short == short)

/-- A lookup of an EUI-64 meets its entry's check bits. -/
def State.euiCheck (s : State) (eui : Nat) : State := s.nodeCheck (fun e => e.eui == eui)

/-- A node-table entry was hit (R292). -/
def State.touchNode (s : State) (n : Nat) : State :=
  match s.nodeEnt n with
  | some e => let (u, s) := s.useTick; s.setNode n (some { e with use := u })
  | none => s

/-- The image of a node-table entry as w gives it (R288). -/
def NodeEnt.image (e : NodeEnt) : Nat :=
  e.eui + e.head * 2 ^ 64 + (1 + (if e.static then 2 else 0) + (if e.assoc then 4 else 0)) * 2 ^ 72
    + e.short * 2 ^ 80 + e.dq * 2 ^ 96 + e.rq * 2 ^ 112

/-- Is a node's short address held: associated, or reserved under R218? -/
def NodeEnt.bound (e : NodeEnt) : Bool := e.assoc || e.short != 0xFFFE

/-- Where a new node entry goes when an insertion needs room: the lowest free index, else a victim (R292). -/
def State.nodeRoom (s : State) (ok : NodeEnt → Bool) : Option Nat × State :=
  match firstFree 262144 s.src.nodes with
  | some i => (some i, s)
  | none =>
    let l := ((present s.src.nodes).filter (fun p => !p.2.static && ok p.2)).map (fun p => (p.1, p.2.use))
    let (v, s) := s.victim 0 l
    match v with
    | some i => (some i, s.noteEvict i 0)
    | none => (none, s)

/-- A node learned from an ASSOC_REQ (R290): the node ID, or none where no entry can be had. -/
def State.learnNode (s : State) (eui : Nat) : Option Nat × State :=
  let q := s.rd (SRC_TBL.DEFQ 0)
  let sus := ((present s.src.nodes).find? (fun p => p.2.suspect)).map (·.1)
  let (i, s) := match sus with
    | some i => (some i, s)
    | none => s.nodeRoom (fun e => !e.bound)
  match i with
  | some i =>
    let (u, s) := s.useTick
    (some i, s.setNode i (some ⟨eui, 0, 0xFFFE, false, false, q, q, false, u, .clean⟩))
  | none => (none, s.learnFail)

/-! ## Prefix table (R293) -/

/-- Does an entry match an address and extension? -/
def PfxEnt.hits (e : PfxEnt) (addr ext : Nat) : Bool :=
  !e.suspect && addr / 2 ^ (128 - e.plen) == e.addr / 2 ^ (128 - e.plen) && (ext &&& e.mask) == (e.ext &&& e.mask)

/-- The number of 1 bits of a 16-bit mask. -/
def popCount (n x : Nat) : Nat := (List.range n).foldl (fun a k => a + bitsOf x k 1) 0

/-- Does a stand before b in the table: longer prefix, then more mask bits (R293)? -/
def PfxEnt.before (a b : PfxEnt) : Bool :=
  b.plen < a.plen || (a.plen == b.plen && popCount 16 b.mask ≤ popCount 16 a.mask)

/-- An entry put in its place, after every entry of its rank. -/
def pfxInsert (e : PfxEnt) : List PfxEnt → List PfxEnt
  | [] => [e]
  | f :: l => if f.before e then f :: pfxInsert e l else e :: f :: l

/-- Is a list of entries in the order of R293? -/
def pfxSorted : List PfxEnt → Bool
  | a :: b :: l => a.before b && pfxSorted (b :: l)
  | _ => true

/-- The key of a prefix entry. -/
def PfxEnt.sameKey (a b : PfxEnt) : Bool :=
  a.plen == b.plen && a.addr / 2 ^ (128 - a.plen) == b.addr / 2 ^ (128 - b.plen) && a.ext == b.ext && a.mask == b.mask

/-- The prefix table written. -/
def State.setPfx (s : State) (l : List PfxEnt) : State := { s with src := { s.src with pfx := l } }

/-- A lookup in the prefix table: the first match, with its index (R293). -/
def State.pfxFind (s : State) (addr ext : Nat) : Option (Nat × PfxEnt) :=
  match s.src.pfx.findIdx? (fun e => e.hits addr ext) with
  | some i => (s.src.pfx[i]?).map (fun e => (i, e))
  | none => none

/-- A prefix entry is found to have a parity error (R294). -/
def State.suspectPfx (s : State) (i : Nat) : State :=
  match s.src.pfx[i]? with
  | some e => if e.suspect then s else (s.setPfx (s.src.pfx.set i { e with suspect := true })).notePerr i 1
  | none => s

/-- A lookup checks the parity of every entry that matches (R287, R294). -/
def State.pfxCheck (s : State) (addr ext : Nat) : State :=
  ((s.src.pfx.zipIdx).filter (fun p => p.1.hits addr ext && p.1.bad)).foldl (fun s p => s.suspectPfx p.2) s

/-- A prefix entry was hit. -/
def State.touchPfx (s : State) (i : Nat) : State :=
  let (u, s) := s.useTick
  s.setPfx (s.src.pfx.modify i (fun e => { e with use := u }))

/-- The 128-bit number of an address whose byte 0 stands first: byte 0 is the most significant (R288). -/
def addrOfWide (w : Nat) : Nat := ofBe (leBytes 16 w)

/-! ## L2 table (R291) -/

/-- An L2 entry written. -/
def State.setL2 (s : State) (n : Nat) (e : Option L2Ent) : State :=
  { s with src := { s.src with l2 := SMap.put (fun _ => none) s.src.l2 n e } }

/-- The L2 entry at an index. -/
def State.l2Ent (s : State) (n : Nat) : Option L2Ent := SMap.get (fun _ => none) s.src.l2 n

/-- The L2 entry of a MAC address and VLAN ID. -/
def State.l2Find (s : State) (mac vlan : Nat) : Option (Nat × L2Ent) :=
  (present s.src.l2).find? (fun p => p.2.mac == mac && p.2.vlan == vlan && !p.2.suspect)

/-- A lookup meets the check bits of the L2 entry that it seeks (R287, R294). -/
def State.l2Check (s : State) (mac vlan : Nat) : State :=
  match s.l2Find mac vlan with
  | some (i, e) =>
    let t := s.metMark 4 e.mark
    if e.mark.bad then (t.setL2 i (some { e with suspect := true })).notePerr i 2
    else if e.mark != .clean then t.setL2 i (some { e with mark := .clean })
    else s
  | none => s

/-- An L2 entry was hit. -/
def State.touchL2 (s : State) (n : Nat) : State :=
  match s.l2Ent n with
  | some e => let (u, s) := s.useTick; s.setL2 n (some { e with use := u })
  | none => s

/-- Where a new L2 entry goes: a SUSPECT entry when learning (R294), the lowest free index, else a victim (R292). -/
def State.l2Room (s : State) (learning : Bool) : Option Nat × State :=
  match (if learning then ((present s.src.l2).find? (fun p => p.2.suspect)).map (·.1) else none) with
  | some i => (some i, s)
  | none =>
    match firstFree 65536 s.src.l2 with
    | some i => (some i, s)
    | none =>
      let (v, s) := s.victim 2 (((present s.src.l2).filter (fun p => !p.2.static)).map (fun p => (p.1, p.2.use)))
      match v with
      | some i => (some i, s.noteEvict i 2)
      | none => (none, s)

/-- A source address learned on a port (R291). -/
def State.learnL2 (s : State) (mac vlan port : Nat) : State :=
  let s := s.l2Check mac vlan
  match s.l2Find mac vlan with
  | some (i, e) =>
    if e.static then s
    else
      let (u, s) := s.useTick
      let s := s.setL2 i (some { e with port := port, use := u, seen := s.now })
      if e.port = port then s else s.up SRC_EVT.MOVE
  | none =>
    let (i, s) := s.l2Room true
    match i with
    | some i =>
      let (u, s) := s.useTick
      s.setL2 i (some ⟨mac, vlan, port, false, false, u, s.now, .clean⟩)
    | none => s.learnFail

/-- A learned entry not refreshed for AGE seconds is removed (R291). -/
def State.l2Age (s : State) (i : Nat) : State :=
  match s.l2Ent i with
  | some e =>
    let age := s.rd (SRC_TBL.AGE 2)
    if e.static || age = 0 then s else (s.reach (e.seen + msTicks (1000 * age)).toNat).setL2 i none
  | none => s

/-! ## Lookups (R288, R289) -/

/-- What a lookup gives: code, index, image of w. -/
structure Found where
  cc : Nat
  idx : Nat
  w : Nat
deriving DecidableEq, Repr

/-- A lookup by table, ra and w (R288). -/
def State.lookup (s : State) (table ra w : Nat) : Found × State :=
  let miss : Found := ⟨ccNotFound, 0, 0⟩
  let bad : Found := ⟨ccRange, 0, 0⟩
  match table with
  | 0 =>
    let s := s.euiCheck ra
    match s.nodeByEui ra with
    | some n => (⟨ccOk, n, ((s.nodeEnt n).map NodeEnt.image).getD 0⟩, s.touchNode n)
    | none => (miss, s)
  | 1 =>
    if ra / 2 ^ 22 != 0 then (bad, s)
    else
      let s := s.shortCheck (bitsOf ra 0 6) (bitsOf ra 6 16)
      match s.nodeByShort (bitsOf ra 0 6) (bitsOf ra 6 16) with
      | some n => (⟨ccOk, n, ((s.nodeEnt n).map NodeEnt.image).getD 0⟩, s.touchNode n)
      | none => (miss, s)
  | 2 =>
    if ra / 2 ^ 16 != 0 then (bad, s)
    else
      let s := s.pfxCheck (addrOfWide w) ra
      match s.pfxFind (addrOfWide w) ra with
      | some (i, e) => (⟨ccOk, i, e.queue + e.nextL2 * 2 ^ 16 + e.plen * 2 ^ 32⟩, s.touchPfx i)
      | none => (miss, s)
  | _ =>
    if ra / 2 ^ 60 != 0 then (bad, s)
    else
      let s := s.l2Check (bitsOf ra 0 48) (bitsOf ra 48 12)
      match s.l2Find (bitsOf ra 0 48) (bitsOf ra 48 12) with
      | some (i, e) => (⟨ccOk, i, e.port + (if e.static then 8 else 0)⟩, s.touchL2 i)
      | none => (miss, s)

/-! ## The SRC commands (R307) -/

/-- A command of the SRC interface ends, with the index it found or wrote. -/
def State.srcDone (s : State) (cc idx : Nat) : State :=
  (s.wr SRC_STAT.INDEX idx).done SRC_STAT.addr SRC_EVT.CMD_DONE cc

/-- The TLOOK table of KEY4. -/
def State.srcTable (s : State) : Nat := bitsOf (s.rd SRC_KEY4.VALUE) 0 2

/-- KEY0 and KEY1 as one number: ra of R288. -/
def State.srcRa (s : State) : Nat := s.rd64 SRC_KEY0.VALUE SRC_KEY1.VALUE

/-- DATA0 to DATA3 as one number: w of R288. -/
def State.srcW (s : State) : Nat :=
  s.rd64 SRC_DATA0.VALUE SRC_DATA1.VALUE + 2 ^ 64 * s.rd64 SRC_DATA2.VALUE SRC_DATA3.VALUE

/-- w of R288 put into DATA0 to DATA3. -/
def State.setSrcW (s : State) (w : Nat) : State :=
  (s.wr64 SRC_DATA0.VALUE SRC_DATA1.VALUE (w % 2 ^ 64)).wr64 SRC_DATA2.VALUE SRC_DATA3.VALUE (w / 2 ^ 64)

/-- STATIC of KEY4; an entry is STATIC where KEY4 or w says so (log entry 9). -/
def State.srcStatic (s : State) : Bool := bitsOf (s.rd SRC_KEY4.VALUE) 10 1 == 1

/-- The prefix entry that the key and data words spell. -/
def State.srcPfx (s : State) (u : Nat) : PfxEnt :=
  let k := s.rd64 SRC_KEY0.VALUE SRC_KEY1.VALUE + 2 ^ 64 * s.rd64 SRC_KEY2.VALUE SRC_KEY3.VALUE
  let k4 := s.rd SRC_KEY4.VALUE
  let k5 := s.rd SRC_KEY5.VALUE
  let w := s.srcW
  { addr := addrOfWide k
    plen := bitsOf k4 2 8
    ext := bitsOf k5 0 16
    mask := bitsOf k5 16 16
    queue := bitsOf w 0 12
    nextL2 := bitsOf w 16 16
    static := s.srcStatic
    suspect := false
    use := u }

/-- LOOKUP, as TLOOK (R307). -/
def State.lookupCmd (s : State) : State :=
  let t := s.srcTable
  let (f, s) := if t = 2 then
      s.lookup 2 (bitsOf (s.rd SRC_KEY5.VALUE) 0 16)
        (s.rd64 SRC_KEY0.VALUE SRC_KEY1.VALUE + 2 ^ 64 * s.rd64 SRC_KEY2.VALUE SRC_KEY3.VALUE)
    else s.lookup t s.srcRa 0
  (if f.cc = ccOk then s.setSrcW f.w else s).srcDone f.cc f.idx

/-- The result part of a node image over an entry that Sastrugi's fields come from (R486). -/
def nodeFrom (st : Bool) (eui w : Nat) (old : Option NodeEnt) (u : Nat) : NodeEnt :=
  let keep := old.getD ⟨0, 0, 0xFFFE, false, false, 0, 0, false, 0, .clean⟩
  { eui := eui
    head := keep.head
    short := keep.short
    assoc := keep.assoc
    static := st || bitsOf w 73 1 == 1
    dq := bitsOf w 96 12
    rq := bitsOf w 112 12
    suspect := false
    use := u }

/-- INSERT (R292, R293, R307). -/
def State.insertCmd (s : State) : State :=
  let w := s.srcW
  match s.srcTable with
  | 0 =>
    let eui := s.srcRa
    let hit := ((present s.src.nodes).find? (fun p => p.2.eui == eui)).map (·.1)
    let (i, s) := match hit with
      | some i => (some i, s)
      | none => s.nodeRoom (fun _ => true)
    match i with
    | some i =>
      let (u, s) := s.useTick
      (s.setNode i (some (nodeFrom s.srcStatic eui w (if hit = none then none else s.nodeEnt i) u))).srcDone ccOk i
    | none => s.srcDone ccFull 0
  | 1 => s.srcDone ccDenied 0
  | 2 =>
    let (u, s) := s.useTick
    let e := s.srcPfx u
    if 128 < e.plen then s.srcDone ccRange 0
    else match s.src.pfx.findIdx? (fun f => f.sameKey e) with
      | some i => (s.setPfx (s.src.pfx.set i e)).srcDone ccOk i
      | none =>
        let put (s : State) : State :=
          let l := pfxInsert e s.src.pfx
          (s.setPfx l).srcDone ccOk ((l.findIdx? (fun f => f.sameKey e)).getD 0)
        if s.src.pfx.length < 32768 then put s
        else
          let (v, s) := s.victim 1 (((s.src.pfx.zipIdx).filter (fun p => !p.1.static)).map (fun p => (p.2, p.1.use)))
          match v with
          | some i => put ((s.setPfx (s.src.pfx.eraseIdx i)).noteEvict i 1)
          | none => s.srcDone ccFull 0
  | _ =>
    let ra := s.srcRa
    if ra / 2 ^ 60 != 0 then s.srcDone ccRange 0
    else
      let mac := bitsOf ra 0 48
      let vlan := bitsOf ra 48 12
      let hit := ((present s.src.l2).find? (fun p => p.2.mac == mac && p.2.vlan == vlan)).map (·.1)
      let (i, s) := match hit with
        | some i => (some i, s)
        | none => s.l2Room false
      match i with
      | some i =>
        let (u, s) := s.useTick
        (s.setL2 i (some ⟨mac, vlan, bitsOf w 0 3, s.srcStatic || bitsOf w 3 1 == 1, false, u, s.now, .clean⟩)).srcDone ccOk i
      | none => s.srcDone ccFull 0

/-- DELETE (R307): by key, and for table 1 by head and short address; a SUSPECT entry too (R294). -/
def State.deleteCmd (s : State) : State :=
  match s.srcTable with
  | 0 =>
    match ((present s.src.nodes).find? (fun p => p.2.eui == s.srcRa)).map (·.1) with
    | some i => (s.setNode i none).srcDone ccOk i
    | none => s.srcDone ccNotFound 0
  | 1 =>
    match (if bitsOf s.srcRa 6 16 = 0xFFFE then none else (present s.src.nodes).find? (fun p =>
        p.2.head == bitsOf s.srcRa 0 6 && p.2.short == bitsOf s.srcRa 6 16)).map (·.1) with
    | some i => (s.setNode i none).srcDone ccOk i
    | none => s.srcDone ccNotFound 0
  | 2 =>
    let e := s.srcPfx 0
    match s.src.pfx.findIdx? (fun f => f.sameKey e) with
    | some i => (s.setPfx (s.src.pfx.eraseIdx i)).srcDone ccOk i
    | none => s.srcDone ccNotFound 0
  | _ =>
    match ((present s.src.l2).find? (fun p => p.2.mac == bitsOf s.srcRa 0 48 && p.2.vlan == bitsOf s.srcRa 48 12)).map
      (·.1) with
    | some i => (s.setL2 i none).srcDone ccOk i
    | none => s.srcDone ccNotFound 0

/-- The index of KEY4. -/
def State.srcIdx (s : State) : Nat := bitsOf (s.rd SRC_KEY4.VALUE) 12 18

/-- READ meets the check bits of the entry it names (R39, R294). -/
def State.readCheck (s : State) (t i : Nat) : State :=
  match t with
  | 2 => if ((s.src.pfx[i]?).map PfxEnt.bad).getD false then s.suspectPfx i else s
  | 3 => match s.l2Ent i with
    | some e => if e.suspect then s else s.l2Check e.mac e.vlan
    | none => s
  | _ => match s.nodeEnt i with
    | some e => s.nodeCheck (fun x => x.eui == e.eui)
    | none => s

/-- READ by index (R294, R307): the entry's key in KEY0 to KEY5, its result in DATA0 to DATA3. -/
def State.srcRead (s : State) : State :=
  let i := s.srcIdx
  let s := s.readCheck s.srcTable i
  let k4 (plen : Nat) (st : Bool) : Nat := s.srcTable + plen * 4 + (if st then 2 ^ 10 else 0) + i * 2 ^ 12
  match s.srcTable with
  | 2 =>
    if 32768 ≤ i then s.srcDone ccRange i
    else match s.src.pfx[i]? with
      | none => s.srcDone ccNotFound i
      | some e =>
        if e.suspect then s.srcDone ccParity i
        else
          let a := ofLe (beBytes 16 e.addr)
          let s := (s.wr64 SRC_KEY0.VALUE SRC_KEY1.VALUE (a % 2 ^ 64)).wr64 SRC_KEY2.VALUE SRC_KEY3.VALUE (a / 2 ^ 64)
          let s := (s.wr SRC_KEY4.VALUE (k4 e.plen e.static)).wr SRC_KEY5.VALUE (e.ext + e.mask * 2 ^ 16)
          (s.setSrcW (e.queue + e.nextL2 * 2 ^ 16 + e.plen * 2 ^ 32)).srcDone ccOk i
  | 3 =>
    if 65536 ≤ i then s.srcDone ccRange i
    else match s.l2Ent i with
      | none => s.srcDone ccNotFound i
      | some e =>
        if e.suspect then s.srcDone ccParity i
        else
          let s := (s.wr64 SRC_KEY0.VALUE SRC_KEY1.VALUE (e.mac + e.vlan * 2 ^ 48)).wr SRC_KEY4.VALUE (k4 0 e.static)
          (s.setSrcW (e.port + (if e.static then 8 else 0))).srcDone ccOk i
  | t =>
    match s.nodeEnt i with
    | none => s.srcDone ccNotFound i
    | some e =>
      if e.suspect then s.srcDone ccParity i
      else
        let key := if t = 0 then e.eui else e.head + e.short * 2 ^ 6
        let s := (s.wr64 SRC_KEY0.VALUE SRC_KEY1.VALUE key).wr SRC_KEY4.VALUE (k4 0 e.static)
        (s.setSrcW e.image).srcDone ccOk i

/-- WRITE by index, the whole entry (R307, R486). -/
def State.srcWrite (s : State) : State :=
  let i := s.srcIdx
  let w := s.srcW
  let (u, s) := s.useTick
  match s.srcTable with
  | 2 =>
    let e := s.srcPfx u
    let l := if i < s.src.pfx.length then s.src.pfx.set i e else s.src.pfx ++ [e]
    if 32768 ≤ i || s.src.pfx.length < i || 128 < e.plen || !pfxSorted l then s.srcDone ccRange i
    else (s.setPfx l).srcDone ccOk i
  | 3 =>
    if 65536 ≤ i then s.srcDone ccRange i
    else (s.setL2 i (some ⟨bitsOf s.srcRa 0 48, bitsOf s.srcRa 48 12, bitsOf w 0 3, s.srcStatic || bitsOf w 3 1 == 1, false, u,
      s.now, .clean⟩)).srcDone ccOk i
  | _ =>
    if bitsOf w 72 1 = 0 then (s.setNode i none).srcDone ccOk i
    else (s.setNode i (some (nodeFrom s.srcStatic (bitsOf w 0 64) w (s.nodeEnt i) u))).srcDone ccOk i

/-- The scrub of the TCAM found parity errors at these indices (R287, R294). -/
def State.tcamScrub (s : State) (bad : List Nat) : State :=
  let mine := ((s.src.pfx.zipIdx).filter (fun p => p.1.bad)).map (·.2)
  (bad ++ mine).foldl State.suspectPfx s

end Sys2Proof.Machine
end

