-- ==== Sys2Proof/Machine/Frame.lean ====
section
/-!
DEFINITION. Sys2Proof/Machine/Frame.lean: Firn's planes: frame entries and their views, the drive arithmetic of the
calibration, the fill and copy-forward, and thermal derating (R52 to R63, R89 to R97).
-/

namespace Sys2Proof.Machine

/-! ## Entries -/

/-- LEVEL, TINT, FADE_MS, FLAGS and CLASS of a frame entry (R55). -/
def entLevel (e : Wide) : Nat := bitsOf e.toNat 0 16
def entTint (e : Wide) : Nat := bitsOf e.toNat 16 16
def entFade (e : Wide) : Nat := bitsOf e.toNat 32 16
def entFlags (e : Wide) : Nat := bitsOf e.toNat 48 8
def entClass (e : Wide) : Nat := bitsOf e.toNat 56 8
def entOff (e : Wide) : Bool := bitsOf e.toNat 48 1 == 1
def entHold (e : Wide) : Bool := bitsOf e.toNat 49 1 == 1
def entLocate (e : Wide) : Bool := bitsOf e.toNat 50 1 == 1
def entNocal (e : Wide) : Bool := bitsOf e.toNat 51 1 == 1

/-- May FWRITE store the entry (R56)? -/
def entryOk (e : Wide) : Bool :=
  (entTint e == 0 || (180 ≤ entTint e && entTint e ≤ 650)) && entClass e ≤ 63 && entFlags e < 16 &&
    bitsOf e.toNat 96 32 == 0

/-- The endpoint-map fields (R54). -/
def mapValid (m : Word) : Bool := m.getLsbD 31
def mapNode (m : Word) : Nat := bitsOf m.toNat 0 18
def mapIndex (m : Word) : Nat := bitsOf m.toNat 18 4

/-- Fields of a calibration record (R89). -/
def calGain (c : BitVec 512) (ch : Nat) : Nat := bitsOf c.toNat (56 * ch) 16
def calMax (c : BitVec 512) (ch : Nat) : Nat := bitsOf c.toNat (56 * ch + 40) 16
def calMix (c : BitVec 512) (i : Nat) : Nat := bitsOf c.toNat (224 + 16 * i) 16
def calType (c : BitVec 512) : Nat := bitsOf c.toNat 480 8
def calMask (c : BitVec 512) : Nat := bitsOf c.toNat 488 8
def calTint (c : BitVec 512) : Nat := bitsOf c.toNat 496 16
def calHas (c : BitVec 512) (ch : Nat) : Bool := bitsOf c.toNat (488 + ch) 1 == 1

/-- May CAL_LOAD load the record (R90)? -/
def calOk (c : BitVec 512) : Bool :=
  calMask c != 0 && calMask c < 16 && (List.range 4).all (fun ch => !calHas c ch || calGain c ch != 0) &&
    180 ≤ calTint c && calTint c ≤ 650

/-! ## Drives (R91 to R93) -/

/-- The cool share for a tint (R91). -/
def coolShare (c : BitVec 512) (tint : Nat) : Nat :=
  let i := (tint - 180) / 32
  let f := (tint - 180) - 32 * i
  if !calHas c 1 && !calHas c 3 then 0
  else if !calHas c 0 && !calHas c 2 then 65536
  else ((calMix c i : Int) + ((calMix c (i + 1) : Int) - (calMix c i : Int)) * f / 32).toNat

/-- The drive of a channel before MAXDRIVE (R92, R93): l is LEVEL with 0xFFFF as 65,536 and OFF as 0. -/
def rawDrive (c : BitVec 512) (cool l : Nat) (nocal : Bool) (ch : Nat) : Nat :=
  if !calHas c ch then 0
  else
    let n := (if calHas c (ch % 2) then 1 else 0) + (if calHas c (ch % 2 + 2) then 1 else 0)
    let s := if ch % 2 = 1 then cool else 65536 - cool
    l * s / (65536 * n) * 16384 / (if nocal then 16384 else calGain c ch)

/-- The four drives packed, and whether one was limited to MAXDRIVE. -/
def drives (c : BitVec 512) (level tint : Nat) (off nocal : Bool) : Nat × Bool :=
  let l := if off then 0 else if level = 65535 then 65536 else level
  let cool := coolShare c tint
  (List.range 4).foldl (fun a ch =>
    let d := rawDrive c cool l nocal ch
    let m := calMax c ch
    (a.1 + (if m < d then m else d) * 2 ^ (16 * ch), a.2 || decide (m < d && calHas c ch))) (0, false)

/-- The TINT used (R55, R58). -/
def tintOf (c : BitVec 512) (tint : Nat) : Nat := if tint = 0 then calTint c else tint

/-- The drive-plane entry of a frame entry (R58). -/
def driveEntry (c : BitVec 512) (e : Wide) : Wide :=
  let t := tintOf c (entTint e)
  let (d, clamp) := drives c (entLevel e) t (entOff e) (entNocal e)
  let fl := (if clamp then 1 else 0) + (if entNocal e then 2 else 0) + (if entOff e then 4 else 0)
    + (if entLocate e then 8 else 0)
  BitVec.ofNat 128 (d + t * 2 ^ 64 + fl * 2 ^ 80 + calMask c * 2 ^ 88)

/-- The drives of a drive-plane entry, and its DFLAGS. -/
def deDrives (e : Wide) : Nat := bitsOf e.toNat 0 64
def deFlags (e : Wide) : Nat := bitsOf e.toNat 80 8

/-! ## The planes -/

/-- The number of the active buffer. -/
def State.actBuf (s : State) : Nat := s.rd FIRN_BUF.ACTIVE_BUF

/-- A frame buffer, its drive plane and its dirty map, by number. -/
def Planes.fb (p : Planes) (b : Nat) : SMap Wide := if b = 0 then p.fb0 else p.fb1
def Planes.dp (p : Planes) (b : Nat) : SMap Wide := if b = 0 then p.dp0 else p.dp1
def Planes.dirty (p : Planes) (b : Nat) : NSet := if b = 0 then p.dirty0 else p.dirty1
def Planes.setFb (p : Planes) (b : Nat) (m : SMap Wide) : Planes := if b = 0 then { p with fb0 := m } else { p with fb1 := m }
def Planes.setDp (p : Planes) (b : Nat) (m : SMap Wide) : Planes := if b = 0 then { p with dp0 := m } else { p with dp1 := m }
def Planes.setDirty (p : Planes) (b : Nat) (m : NSet) : Planes :=
  if b = 0 then { p with dirty0 := m } else { p with dirty1 := m }

/-- The offset of a buffer's entry, and of its drive-plane entry (R52). -/
def fbOff (b e : Nat) : Nat := 0x0100_0000 * b + 16 * e
def dpOff (b e : Nat) : Nat := 0x0300_0000 + 0x0100_0000 * b + 16 * e
def aheadOff (e : Nat) : Nat := 0x0200_0000 + 16 * e
def calOff (e : Nat) : Nat := 0x0500_0000 + 64 * e

/-- The offset of the byte of a dirty map that holds an endpoint's bit: of buffers 0 and 1, and of the write-ahead plane as 2
(R52). -/
def dirtyOff (b e : Nat) : Nat := 0x09C0_0000 + 0x2_0000 * b + e / 8

/-- Does a range of the region hold poison? -/
def State.firnPoison (s : State) (off n : Nat) : Bool :=
  match s.planes.base with
  | some b => s.dramPoisonIn (b + off) n
  | none => false

/-- A range of the region written whole gets fresh check bits (R43). -/
def State.firnHeal (s : State) (off n : Nat) : State :=
  match s.planes.base with
  | some b => s.healDram (b + off) n
  | none => s

/-- Firn meets the poisoned words of a range of its region (R42, R44). -/
def State.firnUe (s : State) (off n : Nat) : State :=
  match s.planes.base with
  | some b => s.dramUe (b + off) n
  | none => s

/-- Firn reads a range of its region: correctable errors are corrected (R45). -/
def State.firnMend (s : State) (off n : Nat) : State :=
  match s.planes.base with
  | some b => s.mendDram (b + off) n
  | none => s

/-- Firn writes a range of its region that is narrower than a word: refused on poison (R42), else merged (R41). -/
def State.firnMerge (s : State) (off n : Nat) (put : State → State) : State :=
  if s.firnPoison off n then s.firnUe off n else put (s.firnMend off n)

/-- The words of DRAM between which a word of the region lies, by offset: is this word in the range? -/
def regionWord (base off n w : Nat) : Bool := covers 8 (base + off) n w

/-- Marks of the destination as Firn copies words whose source may be poisoned: each destination word that `dst` names gets
fresh check bits, each poisoned source word that `src` moves is met by Firn and leaves its copy poisoned, and a correctable
error in one is corrected and counted (R43 to R45). -/
def State.moveMarks (s : State) (dst : Nat → Bool) (src : Nat → Option Nat) : State :=
  let hit := s.mem.dramPoison.filter (fun w => (src w).isSome)
  let keep := s.mem.dramPoison.filter (fun w => !dst w)
  let t := { s with mem := { s.mem with
    dramPoison := (hit.filterMap src).foldl NSet.add keep
    dramCe := s.mem.dramCe.filter (fun w => !dst w && !(src w).isSome) } }
  hit.foldl (fun s w => s.eccUe 0 (8 * w)) (t.eccCe (s.mem.dramCe.filter (fun w => (src w).isSome)).length)

/-- One 16-byte entry of the region copied to another place: its error marks. -/
def State.moveEntry (s : State) (src dst : Nat) : State :=
  match s.planes.base with
  | some b =>
    if s.mem.dramPoison.isEmpty && s.mem.dramCe.isEmpty then s
    else s.moveMarks (regionWord b dst 16) (fun w => if regionWord b src 16 w then some (w + dst / 8 - src / 8) else none)
  | none => s

/-- Is the frame sealed, checking, copying? -/
def State.isSealed (s : State) : Bool := s.rd FIRN_COMMIT_STAT.STATE == 2
def State.isChecking (s : State) : Bool := s.rd FIRN_COMMIT_STAT.STATE == 1
def State.copying (s : State) : Bool := s.on FIRN_BUF.COPYING

def State.activeEntry (s : State) (e : Nat) : Wide := SMap.get zeroWide (s.planes.fb s.actBuf) e
def State.pendEntry (s : State) (e : Nat) : Wide := SMap.get zeroWide (s.planes.fb (1 - s.actBuf)) e
def State.activeDrive (s : State) (e : Nat) : Wide := SMap.get zeroWide (s.planes.dp s.actBuf) e
def State.pendDrive (s : State) (e : Nat) : Wide := SMap.get zeroWide (s.planes.dp (1 - s.actBuf)) e
def State.pendDirty (s : State) (e : Nat) : Bool := (s.planes.dirty (1 - s.actBuf)).contains e
def State.aheadDirty (s : State) (e : Nat) : Bool := s.planes.dirtyA.contains e
def State.calRec (s : State) (e : Nat) : BitVec 512 := SMap.get zeroCal s.planes.cal e
def State.mapEntry (s : State) (e : Nat) : Word := SMap.get zeroWord s.planes.map e
def State.nodePlane (s : State) (n : Nat) : Wide := SMap.get (nodeDefault s.planes.filled) s.planes.node n

/-- The offset of a byte of a node's node-plane entry, and of an endpoint's map and derating-plane entries. -/
def nodeOff (n i : Nat) : Nat := 0x0980_0000 + 16 * n + i
def mapOff (e : Nat) : Nat := 0x0900_0000 + 4 * e
def derateOff (e : Nat) : Nat := 0x0940_0000 + 4 * e

/-- The node-plane entry of a node with a run of bits changed (R71); a poisoned word keeps what it holds (R42). -/
def State.setNodeBits (s : State) (n lo w v : Nat) : State :=
  s.firnMerge (nodeOff n (lo / 8)) (divUp (lo % 8 + w) 8) (fun s =>
    { s with planes := { s.planes with
      node := SMap.put (nodeDefault s.planes.filled) s.planes.node n
        (BitVec.ofNat 128 (withBits (s.nodePlane n).toNat lo w v)) } })

/-- The pending buffer's entry written and marked dirty: its bit is merged into the dirty map (R41, R42). -/
def State.putPend (s : State) (e : Nat) (v : Wide) : State :=
  let b := 1 - s.actBuf
  { s with planes := s.planes.setFb b (SMap.put zeroWide (s.planes.fb b) e v) }.firnMerge (dirtyOff b e) 1 (fun s =>
    { s with planes := s.planes.setDirty b (NSet.add (s.planes.dirty b) e) })

/-- The write-ahead entry written and marked dirty. -/
def State.putAhead (s : State) (e : Nat) (v : Wide) : State :=
  { s with planes := { s.planes with ahead := SMap.put zeroWide s.planes.ahead e v } }.firnMerge (dirtyOff 2 e) 1 (fun s =>
    { s with planes := { s.planes with dirtyA := NSet.add s.planes.dirtyA e } })

/-- The pending drive-plane entry written. -/
def State.putPendDrive (s : State) (e : Nat) (v : Wide) : State :=
  let b := 1 - s.actBuf
  { s with planes := s.planes.setDp b (SMap.put zeroWide (s.planes.dp b) e v) }

/-- Where the value of FREAD's pending entry lies: its offset and the entry (R62). -/
def State.pendView (s : State) (e : Nat) : Nat × Wide :=
  if s.isSealed && s.aheadDirty e then (aheadOff e, SMap.get zeroWide s.planes.ahead e)
  else if s.copying && !s.pendDirty e then
    if s.aheadDirty e then (aheadOff e, SMap.get zeroWide s.planes.ahead e) else (fbOff s.actBuf e, s.activeEntry e)
  else (fbOff (1 - s.actBuf) e, s.pendEntry e)

/-- Where the value of FREAD's pending drive-plane entry lies (R100 selector 3). -/
def State.pendDriveView (s : State) (e : Nat) : Nat × Wide :=
  if s.copying && !s.pendDirty e && !s.aheadDirty e then (dpOff s.actBuf e, s.activeDrive e)
  else (dpOff (1 - s.actBuf) e, s.pendDrive e)

/-! ## Fill and copy-forward (R52, R61) -/

/-- The bytes of the region's former place reach DRAM when the region moves. -/
def State.spillPlanes (s : State) (b : Nat) : State :=
  { s with mem := { s.mem with
      dram := (List.range firnSize).foldl (fun m o => SMap.put zeroByte m (b + o) (s.planes.byte o)) s.mem.dram } }

/-- The fill of R52 begins: the region is empty, at the base that the registers name. What is no part of the region stays: the K
that each endpoint was last sent (R96), the epoch of the last commit landed (R103), whether a COMMIT has completed (R76). -/
def State.fillStart (s : State) : State :=
  let s := match s.planes.base with
    | some b => if b = s.firnBase then s else s.spillPlanes b
    | none => s
  let s := s.healDram s.firnBase firnSize
  let s := (s.wr FIRN_LAG.NODES 0).down FIRN_BUF.COPYING
  { s with planes := { base := some s.firnBase, filling := true, filled := true }
           firn := { hadCommit := s.firn.hadCommit, lastEpoch := s.firn.lastEpoch, kSent := s.firn.kSent } }

/-- The fill ends: EN reads 1. FIRN_REGION may be written while the fill runs, for EN still reads 0; the planes lie where it
stood when EN was written (DESIGN CHOICE, log entry 43). -/
def State.fillDone (s : State) : State :=
  if s.planes.filling then ({ s with planes := { s.planes with filling := false } }).up FIRN_CTRL.EN else s

/-- The index of the 16-byte entry of a plane in which a word of DRAM lies, where it lies in that plane. -/
def planeEntry (b off w : Nat) : Option Nat :=
  if b + off ≤ 8 * w && 8 * w < b + off + 0x0100_0000 then some ((8 * w - b - off) / 16) else none

/-- The error marks of a copy-forward (R43, R61): entries that it writes get fresh check bits, or their source's poison. -/
def State.copyMarks (s : State) (pd keep : NSet) : State :=
  match s.planes.base with
  | some b =>
    if s.mem.dramPoison.isEmpty && s.mem.dramCe.isEmpty then s
    else
      let a := s.actBuf
      let fbA := fbOff a 0
      let fbP := fbOff (1 - a) 0
      let dpA := dpOff a 0
      let dpP := dpOff (1 - a) 0
      let dst (w : Nat) : Bool :=
        (match planeEntry b fbP w with | some e => !pd.contains e | none => false) ||
        (match planeEntry b dpP w with | some e => !keep.contains e | none => false)
      let src (w : Nat) : Option Nat :=
        match planeEntry b fbA w, planeEntry b (aheadOff 0) w, planeEntry b dpA w with
        | some e, _, _ => if keep.contains e then none else some (w + fbP / 8 - fbA / 8)
        | _, some e, _ => if keep.contains e && !pd.contains e then some (w + fbP / 8 - aheadOff 0 / 8) else none
        | _, _, some e => if keep.contains e then none else some (w + dpP / 8 - dpA / 8)
        | _, _, _ => none
      s.moveMarks dst src
  | none => s

/-- The error marks of bits merged into a dirty map (R41, R42). -/
def State.mergeBits (s : State) (b : Nat) (es : List Nat) : State :=
  es.foldl (fun s e => s.firnMerge (dirtyOff b e) 1 id) s

/-- Copy-forward ends (R61): every entry that no FWRITE has written holds its write-ahead or its active value. -/
def State.copyDone (s : State) : State :=
  if !s.copying then s
  else
    let a := s.actBuf
    let p := s.planes
    let pd := p.dirty (1 - a)
    let keep := p.dirtyA.foldl NSet.add pd
    let src (e : Nat) : Wide :=
      if pd.contains e then SMap.get zeroWide (p.fb (1 - a)) e else SMap.get zeroWide p.ahead e
    let fb := keep.foldl (fun m e => SMap.put zeroWide m e (src e)) (p.fb a)
    let dp := keep.foldl (fun m e => SMap.put zeroWide m e (SMap.get zeroWide (p.dp (1 - a)) e)) (p.dp a)
    let bits := p.dirtyA.filter (fun e => pd.contains e || !s.firnPoison (dirtyOff (1 - a) e) 1)
    let q := ((p.setFb (1 - a) fb).setDp (1 - a) dp).setDirty (1 - a) (bits.foldl NSet.add pd)
    let s := { (s.copyMarks pd keep).mergeBits (1 - a) (p.dirtyA.filter (fun e => !pd.contains e)) with
      planes := { q with dirtyA := [] } }
    (((s.firnHeal (dirtyOff 2 0) 0x2_0000).down FIRN_BUF.COPYING).up FIRN_EVT.COPY_DONE)

/-! ## Thermal derating (R94 to R97) -/

/-- The derating plane entry of an endpoint: K, state, second of the last change, CHANGED (R95). -/
def State.derateEnt (s : State) (e : Nat) : Nat := (SMap.get zeroWord s.planes.derate e).toNat

/-- The factor of a curve at a temperature (R94). -/
def State.curveK (s : State) (typ : Nat) (t : Int) : Nat :=
  let knee := signedOf 8 (s.rd (FIRN_DERATE.KNEE typ))
  let slope : Int := s.rd (FIRN_DERATE.SLOPE typ)
  let k : Int := 32768 - slope * (t - knee) * 32768 / 1000
  (max k (s.rd (FIRN_DERATE.FLOOR typ) * 32768 / 100 : Nat)).toNat

/-- The endpoints that a VALID map entry gives a node, in ascending order. -/
def State.endpointsOf (s : State) (n : Nat) : List Nat :=
  (s.planes.map.filter (fun p => mapValid p.2 && mapNode p.2 == n)).map (·.1)

/-- One endpoint's derating state and K follow a filtered temperature (R94, R95). DWELL runs from the last change; where
only the plane tells of it, as after a takeover, from its second (log entry 21). -/
def State.derateEp (t : Int) (s : State) (e : Nat) : State :=
  let old := s.derateEnt e
  let typ := calType (s.calRec e)
  let knee := signedOf 8 (s.rd (FIRN_DERATE.KNEE typ))
  let act := bitsOf old 16 1 == 1
  let now := s.netSec % 16384
  let may := bitsOf old 31 1 == 0 || (match SMap.get (fun _ => none) s.firn.changedAt e with
    | some t => decide (t + msTicks (1000 * s.rd FIRN_DERATE_CFG.DWELL) ≤ s.now)
    | none => decide (s.rd FIRN_DERATE_CFG.DWELL ≤ (now + 16384 - bitsOf old 17 14) % 16384))
  let want := if act then !decide (t < knee - (s.rd FIRN_DERATE_CFG.HYST : Int)) else decide (knee ≤ t)
  let chg := want != act && may
  let act' := if chg then want else act
  let k := if act' && decide (knee < t) then s.curveK typ t else 32768
  let w := k % 65536 + (if act' then 2 ^ 16 else 0) + (if chg then now else bitsOf old 17 14) * 2 ^ 17
    + (if chg || bitsOf old 31 1 == 1 then 2 ^ 31 else 0)
  if s.firnPoison (derateOff e) 4 then s.firnUe (derateOff e) 4
  else
    let s := s.firnMend (derateOff e) 4
    let s := { s with planes := { s.planes with derate := SMap.put zeroWord s.planes.derate e (BitVec.ofNat 32 w) } }
    if chg then
      ({ s with firn := { s.firn with changedAt := SMap.put (fun _ => none) s.firn.changedAt e (some s.now) } }).up
        FIRN_EVT.DERATE
    else s

/-- The K last sent for an endpoint. -/
def State.kLast (s : State) (e : Nat) : Nat := SMap.get (fun _ => 32768) s.firn.kSent e

/-- The K that Firn would send for an endpoint now (R96). -/
def State.kNow (s : State) (e : Nat) : Nat :=
  if s.on FIRN_CTRL.DERATE_EN && SMap.get zeroWord s.planes.derate e != 0 then bitsOf (s.derateEnt e) 0 16 else 32768

/-- Does a derate message have to carry the endpoint (R96)? -/
def State.kDue (s : State) (e : Nat) : Bool :=
  let k := s.kNow e
  let l := s.kLast e
  let d := if l ≤ k then k - l else l - k
  let floor := s.rd (FIRN_DERATE.FLOOR (calType (s.calRec e))) * 32768 / 100
  k != l && (s.rd FIRN_DERATE_CFG.DEADBAND ≤ d || k == 32768 || k == floor)

/-- A node's endpoints are compared with what was last sent; a derate message waits where one is due. -/
def State.derateCheck (s : State) (n : Nat) : State :=
  if (s.endpointsOf n).any s.kDue then { s with firn := { s.firn with derates := NSet.add s.firn.derates n } }
  else { s with firn := { s.firn with derates := NSet.del s.firn.derates n } }

/-- A node's filtered temperature acts on its endpoints (R94 to R96). -/
def State.derateNode (s : State) (n : Nat) (t : Int) : State :=
  ((s.endpointsOf n).foldl (State.derateEp t) s).derateCheck n

/-- The nodes that some VALID map entry names. -/
def State.mappedNodes (s : State) : NSet :=
  s.planes.map.foldl (fun a p => if mapValid p.2 then NSet.add a (mapNode p.2) else a) []

/-- Every node's derate messages follow DERATE_EN and the derating registers (R96). -/
def State.derateAll (s : State) : State := s.mappedNodes.foldl State.derateCheck s

/-- The median of three numbers. -/
def median (a b c : Int) : Int := max (min a b) (min (max a b) c)

/-- A node has a filtered temperature from now on. -/
def State.hasTemp (s : State) (n : Nat) : State := { s with firn := { s.firn with filt := NSet.add s.firn.filt n } }

/-- A node's temperature report (R95, R97): it replaces the oldest sample; from the third report on there is a filtered
temperature. -/
def State.tempReport (s : State) (n : Nat) (t : Int) : State :=
  let s := s.setNodeBits n 67 1 0
  if bitsOf (s.nodePlane n).toNat 66 1 == 1 then s
  else
    let c := SMap.get (fun _ => 0) s.firn.reports n
    let s := s.setNodeBits n (8 * (c % 3)) 8 (codeOf 8 t)
    let s := { s with firn := { s.firn with reports := SMap.put (fun _ => 0) s.firn.reports n (c + 1) } }
    if c + 1 < 3 then s
    else
      let x := (s.nodePlane n).toNat
      let m := median (signedOf 8 (bitsOf x 0 8)) (signedOf 8 (bitsOf x 8 8)) (signedOf 8 (bitsOf x 16 8))
      ((s.setNodeBits n 24 8 (codeOf 8 m)).hasTemp n).derateNode n m

/-- The filtered temperatures are judged again, as a superframe begins: a change of state that its dwell has held back is
made once the dwell has passed (R95); nodes with TEMP_STALE keep their K (R97). -/
def State.judgeTemps (s : State) : State :=
  if !s.on FIRN_CTRL.EN then s
  else s.firn.filt.foldl (fun s n =>
    let x := (s.nodePlane n).toNat
    if bitsOf x 67 1 = 1 then s else s.derateNode n (signedOf 8 (bitsOf x 24 8))) s

end Sys2Proof.Machine
end

