-- ==== Sys2Proof/Machine/Firn.lean ====
section
/-!
DEFINITION. Sys2Proof/Machine/Firn.lean: commits, their check and sealing, delivery to the nodes, the epoch, aborts,
resyncs, surges, and Firn's commands (R63 to R88, R96 to R103).
-/

namespace Sys2Proof.Machine

/-! ## What Sastrugi tells Firn -/

/-- The cell in which a node is associated. -/
def State.cellOf (s : State) (n : Nat) : Option Nat :=
  match s.nodeEnt n with
  | some e => if e.assoc && !e.suspect then some e.head else none
  | none => none

/-- A cell's record in the active plan, where it is used. -/
def State.cellRec (s : State) (c : Nat) : Option CellRec :=
  match s.sast.plan with
  | some p => match p.cells[c]? with
    | some r => if r.used then some r else none
    | none => none
  | none => none

/-- The type of slot-channel i of slot k (R206). -/
def CellRec.typ (r : CellRec) (k i : Nat) : Nat := bitsOf ((r.slots[k]?).getD 0) (4 * i) 4

/-- The DOWN slot-channels of a record in order (R485). -/
def CellRec.downs (r : CellRec) : List (Nat × Nat) :=
  (List.range 200).flatMap (fun k => ((List.range 8).filter (fun i => r.typ k i == 4)).map (fun i => (k, i)))

/-- Entries that one slot-channel carries in a mode (R195). -/
def perChannel (phy : Nat) : Nat :=
  match phy with | 2 => 3 | 3 => 5 | 6 => 4 | 7 => 6 | 8 => 9 | _ => 0

/-! ## Nodes' deliveries (R69 to R73) -/

/-- What a node owes. -/
def State.owed (s : State) (n : Nat) : List Owed := SMap.get (fun _ => []) s.firn.owed n

/-- Parts of a delivery: 1 for an empty catch-up (R73). -/
def Owed.parts (o : Owed) : Nat := if o.items.isEmpty then 1 else divUp o.items.length (max o.pc 1)

/-- Has every part been acknowledged? -/
def Owed.whole (o : Owed) : Bool := o.pc != 0 && (List.range o.parts).all (fun k => o.acks.contains k)

/-- Does a node lag: it owes a landed frame or a catch-up (FIRN_LAG)? -/
def lags (l : List Owed) : Bool := l.any (fun o => o.landed && !o.whole)

/-- A node's deliveries changed: OWED, LAG, RESYNC of its node-plane entry and FIRN_LAG follow (R71). -/
def State.setOwed (s : State) (n : Nat) (l : List Owed) : State :=
  let s := { s with firn := { s.firn with owed := SMap.put (fun _ => []) s.firn.owed n l } }
  let s := s.setNodeBits n 48 16 (match l.find? (fun o => !o.whole) with
    | some o => o.frame % 65536
    | none => 0xFFFF)
  let s := s.setNodeBits n 64 1 (if l.any (fun o => o.landed && !o.catchup && !o.whole) then 1 else 0)
  let s := s.setNodeBits n 65 1 (if l.any (fun o => o.catchup && !o.whole) then 1 else 0)
  s.wr FIRN_LAG.NODES (s.firn.owed.filter (fun p => lags p.2)).length

/-- The last frame or label that a node holds whole. -/
def State.baseOf (s : State) (n : Nat) : Nat := SMap.get (fun _ => 0) s.firn.base n

def State.setBase (s : State) (n v : Nat) : State :=
  { s with firn := { s.firn with base := SMap.put (fun _ => 0) s.firn.base n v } }

/-- The active frame number. -/
def State.frameNo (s : State) : Nat := s.rd64 FIRN_ACTIVE_LO.NUM_LO FIRN_ACTIVE_HI.NUM_HI

/-- A log entry from an endpoint's drives and frame entry (R72). -/
def logEntry (e : Nat) (d f : Wide) : LogEntry := ⟨e, deDrives d, entFade f, entOff f, entLocate f⟩

/-- The words of an endpoint that a catch-up is made of: its map entry and its active entry and drives (R73). -/
def State.catchupWords (s : State) (e : Nat) : List (Nat × Nat) :=
  [(mapOff e, 4), (dpOff s.actBuf e, 16), (fbOff s.actBuf e, 16)]

/-- A catch-up of a node from the active frame (R73). An endpoint of which a word is poisoned is left out: Firn has no value for it
(R44; log entry 37). -/
def State.catchup (s : State) (n : Nat) : Owed :=
  { frame := s.frameNo
    epoch := s.firn.landed
    catchup := true
    landed := true
    first := 0
    items := ((s.endpointsOf n).filter (fun e => !(s.catchupWords e).any (fun r => s.firnPoison r.1 r.2))).map (fun e =>
      (mapIndex (s.mapEntry e), logEntry e (s.activeDrive e) (s.activeEntry e)))
    pc := 0
    acks := []
    sent := [] }

/-- Is a node waited for under a frame (R74 step 8)? -/
def State.waits (s : State) (n frame : Nat) : Bool := s.firn.waiting.any (fun p => p.1 == frame && p.2.contains n)

/-- A node leaves the nodes waited for under the frames that a test names; DELIVERED where it was the last of one (R74
step 8). -/
def State.unwait (s : State) (n : Nat) (hit : Nat → Bool) : State :=
  let w := s.firn.waiting.map (fun p => if hit p.1 then (p.1, NSet.del p.2 n) else p)
  let ended := s.firn.waiting.any (fun p => hit p.1 && p.2 == [n])
  let s := { s with firn := { s.firn with waiting := w.filter (fun p => !p.2.isEmpty) } }
  if ended then s.up FIRN_EVT.DELIVERED else s

/-- What reading the words of a catch-up leaves: poison recorded, correctable errors corrected (R44, R45). -/
def State.catchupMet (s : State) (n : Nat) : State :=
  (s.endpointsOf n).foldl (fun s e =>
    (s.catchupWords e).foldl (fun s r => if s.firnPoison r.1 r.2 then s.firnUe r.1 r.2 else s.firnMend r.1 r.2) s) s

/-- A catch-up put before what a node owes of frames that have not landed; it supersedes the landed ones. Parts of a sealed frame
that the node has acknowledged stay acknowledged, though they went with the former base (DESIGN CHOICE, log entry 43). -/
def State.putCatchup (s : State) (n : Nat) : State :=
  let rest := (s.owed n).filter (fun o => !o.landed)
  ((s.catchupMet n).setBase n s.frameNo).setOwed n (s.catchup n :: rest)

/-- A resync of a node (R73), counted. -/
def State.resync (s : State) (n : Nat) : State :=
  ((s.putCatchup n).countMod FIRN_RESYNC_CNT.COUNT 1).up FIRN_EVT.RESYNC

/-- The base frame of the first delivery of a list of frames (R69). -/
def State.firstBase (s : State) (n : Nat) (l : List Owed) : Nat :=
  match (l.takeWhile (fun o => o.whole)).getLast? with
  | some o => o.frame
  | none => s.baseOf n

/-! ## Building a commit (R63, R64, R66) -/

/-- The endpoints whose pending entry is dirty. -/
def State.dirtySet (s : State) : NSet := s.planes.dirty (1 - s.actBuf)

/-- The drives of every dirty entry computed into the pending drive plane (R64), whole entries each (R43). -/
def State.computeDirty (s : State) : State :=
  s.dirtySet.foldl (fun s e =>
    (s.firnHeal (dpOff (1 - s.actBuf) e) 16).putPendDrive e (driveEntry (s.calRec e) (s.pendEntry e))) s

/-- Is a dirty entry changed, its drives being computed (R63)? -/
def State.isChanged (s : State) (e : Nat) : Bool :=
  let p := s.pendDrive e
  let a := s.activeDrive e
  !entHold (s.pendEntry e) && mapValid (s.mapEntry e) &&
    (deDrives p != deDrives a || (deFlags p &&& 12) != (deFlags a &&& 12))

/-- The changed endpoints. -/
def State.changed (s : State) : NSet := s.dirtySet.filter s.isChanged

/-- Changed endpoints by node, nodes ascending. -/
def State.byNode (s : State) (es : List Nat) : List (Nat × List Nat) :=
  let ns := es.foldl (fun a e => NSet.add a (mapNode (s.mapEntry e))) []
  ns.map (fun n => (n, es.filter (fun e => mapNode (s.mapEntry e) == n)))

/-- need of a cell (R66). -/
def State.need (s : State) (c : Nat) (l : List (Nat × List Nat)) : Nat :=
  let pc := match s.cellRec c with | some r => perChannel r.phy | none => 1
  l.foldl (fun a p => if s.cellOf p.1 = some c then a + divUp p.2.length (max pc 1) else a) 0

/-- avail of a cell for a number of superframes (R66). -/
def State.avail (s : State) (c n : Nat) : Nat :=
  match s.cellRec c with
  | some r => r.downs.length * n * s.rd FIRN_DELTA_CFG.SHARE * (100 - s.rd FIRN_DELTA_CFG.MARGIN) / 10000
  | none => 0

/-- The fewest superframes that suffice in every cell, where some number does (R66). -/
def State.framesNeeded (s : State) (l : List (Nat × List Nat)) : Option Nat :=
  (List.range 64).foldl (fun a c =>
    match a with
    | none => none
    | some m =>
      let nd := s.need c l
      if nd = 0 then some m
      else
        let per := match s.cellRec c with
          | some r => r.downs.length * s.rd FIRN_DELTA_CFG.SHARE * (100 - s.rd FIRN_DELTA_CFG.MARGIN)
          | none => 0
        if per = 0 then none else some (max m (divUp (nd * 10000) per))) (some 0)

/-- The earliest epoch that is feasible and that R65 admits, where there is one (R65, R66). -/
def State.earliest (s : State) (l : List (Nat × List Nat)) : Option Nat :=
  let ns := s.netNs
  match s.framesNeeded l with
  | some m =>
    let e := max (divUp (ns + 2000000000) 1000000000) (if m = 0 then 0 else ns / 1000000000 + 2 + m)
    if e * 1000000000 ≤ ns + 3600 * 1000000000 then some e else none
  | none => none

/-- FIRN_EARLIEST. -/
def State.earliestReg (s : State) : Nat := s.rd64 FIRN_EARLIEST_LO.S_LO FIRN_EARLIEST_HI.S_HI

/-- FIRN_EARLIEST written; where no epoch is feasible its value is free (log entry 1). -/
def State.setEarliest (s : State) (e : Option Nat) : State :=
  match e with
  | some v => s.wr64 FIRN_EARLIEST_LO.S_LO FIRN_EARLIEST_HI.S_HI v
  | none => let (x, s) := s.draw; s.wr64 FIRN_EARLIEST_LO.S_LO FIRN_EARLIEST_HI.S_HI (x % 2 ^ 48)

/-- FIRN_EARLIEST refreshed for the pending frame as it stands, or as the copy-forward in progress will leave it, while it
is open (R59, R66). -/
def State.refreshEarliest (s : State) : State :=
  if s.on FIRN_CTRL.EN && !s.isSealed then
    let t := s.copyDone.computeDirty
    s.setEarliest (t.earliest (t.byNode t.changed))
  else s

/-! ## The delta log (R72) -/

/-- The slot of the delta log for a new commit; a full log drops its oldest slot, and the nodes that still owe that
commit are resynced. -/
def State.logRoom (s : State) : Nat × State :=
  match (List.range 8).find? (fun k => SMap.get (fun _ => none) s.planes.log k == (none : Option LogSlot)) with
  | some k => (k, s)
  | none =>
    let fr (k : Nat) : Nat := ((SMap.get (fun _ => none) s.planes.log k).map LogSlot.frame).getD 0
    let k := (List.range 8).foldl (fun a j => if fr j < fr a then j else a) 0
    let n := fr k
    let owers : List Nat := (s.firn.owed.filter (fun p => p.2.any (fun o => !o.catchup && o.frame == n && !o.whole))).map (·.1)
    if owers.isEmpty then (k, s) else (k, owers.foldl State.resync (s.up FIRN_EVT.LOG_DROP))

/-- A commit is sealed (R64, R69, R72, R74 step 1). -/
def State.seal (s : State) (epoch : Nat) (floe : Bool) (l : List (Nat × List Nat)) (es : List Nat) : State :=
  let (k, s) := s.logRoom
  let n := s.frameNo + 1
  let first := s.netSec + 1
  let ent (e : Nat) : LogEntry := logEntry e (s.pendDrive e) (s.pendEntry e)
  let s := { s.firnHeal (0x0A00_0000 + 0x0100_0000 * k) (16 * es.length) with planes := { s.planes with
    log := SMap.put (fun _ => none) s.planes.log k (some ⟨n, es.map ent⟩) } }
  let s := l.foldl (fun s p => s.setOwed p.1 (s.owed p.1 ++
    [⟨n, epoch, false, false, first, p.2.map (fun e => (mapIndex (s.mapEntry e), ent e)), 0, [], []⟩])) s
  let s := { s with firn := { s.firn with
    commit := some ⟨epoch, floe, first⟩
    waiting := s.firn.waiting ++ (if l.isEmpty then [] else [(n, l.map Prod.fst)]) } }
  let s := ((s.wr FIRN_COMMIT_STAT.STATE 2).bit FIRN_COMMIT_STAT.FLOE floe).wr64 FIRN_EPOCH_LO.S_LO FIRN_EPOCH_HI.S_HI
    epoch
  (s.wr FIRN_ACKED.NODES 0).up FIRN_EVT.COMMIT_SEALED

/-- Where a dirty entry, its drive-plane entry or its calibration record holds poison (R67). -/
def State.dirtyPoison (s : State) : Option (Nat × Nat) :=
  let b := 1 - s.actBuf
  s.dirtySet.findSome? (fun e =>
    [(fbOff b e, 16), (dpOff b e, 16), (calOff e, 64)].find? (fun r => s.firnPoison r.1 r.2))

/-- The check reads each dirty entry, its drive-plane entry and its calibration record (R45). -/
def State.dirtyMend (s : State) : State :=
  let b := 1 - s.actBuf
  s.dirtySet.foldl (fun s e => ((s.firnMend (fbOff b e) 16).firnMend (dpOff b e) 16).firnMend (calOff e) 64) s

/-- What the check of a commit decides (R64 to R67): the completion code and the state. A check that ends with LATE under R66
leaves the drive plane and CLAMP as they were (R483), and FIRN_CHANGED, FIRN_NODES and FIRN_EARLIEST as the check found. -/
def State.checkCommit (s : State) (c : Check) : Nat × State :=
  let t := s.netNs
  let v := s.dirtyMend.computeDirty
  let es := v.changed
  let l := v.byNode es
  let early := v.earliest l
  if c.floe && c.epoch = 0 then (ccRange, s)
  else
    let e := if c.epoch = 0 then s.earliestReg else c.epoch
    let counted (s : State) : State := (s.wr FIRN_CHANGED.ENTRIES es.length).wr FIRN_NODES.NODES l.length
    if e * 1000000000 < t + 2000000000 then (ccLate, s)
    else if t + 3600 * 1000000000 < e * 1000000000 then (ccRange, s)
    else match s.dirtyPoison with
    | some r => (ccUe, s.firnUe r.1 r.2)
    | none =>
      let clamp := v.dirtySet.any (fun e => deFlags (v.pendDrive e) % 2 == 1)
      if (match early with | some m => decide (m ≤ e) | none => false) then
        (ccOk, (counted (if clamp then v.up FIRN_EVT.CLAMP else v)).seal e c.floe l es)
      else (ccLate, (counted s.dirtyMend).setEarliest early)

/-! ## A check's end (R64, R102) -/

/-- The gates of COMMIT and SURGE by mode (R98): EN, the mode, HOLD. -/
def State.firnGate (s : State) (floe : Bool) : Bool :=
  s.on FIRN_CTRL.EN && s.holds &&
    (match s.mode with
     | 2 => s.modeGate 0
     | 3 => true
     | 5 => !floe
     | _ => false)

/-- A check ends with a completion code, which reaches the thread that issued COMMIT (R102). -/
def State.checkDone (s : State) (c : Check) (cc : Nat) : State :=
  let s := s.wr FIRN_COMMIT_STAT.LAST_CC cc
  let s := if s.rd FIRN_COMMIT_STAT.STATE = 1 then s.wr FIRN_COMMIT_STAT.STATE 0 else s
  let s := { s with firn := { s.firn with check := none, hadCommit := true } }
  match s.prim c.tid with
  | some .commit => s.primDone c.tid cc
  | _ => s

/-- A check under way stops with DENIED where its gate has closed (R64). -/
def State.checkGate (s : State) : State :=
  match s.firn.check with
  | some c => if s.firnGate c.floe then s else s.checkDone c ccDenied
  | none => s

/-- The check under way ends, after any copy-forward (R64, R74 step 6). -/
def State.commitCheckEnd (s : State) : State :=
  match s.firn.check with
  | none => s
  | some c =>
    if !s.firnGate c.floe then s.checkDone c ccDenied
    else
      let (cc, s) := s.copyDone.checkCommit c
      s.checkDone c cc

/-! ## The epoch (R74, R61, R75) -/

/-- Aborted commits whose epoch has come: nodes that have not confirmed are resynced (R75); an entry stays through its
superframe for the beacon (R200). -/
def State.abortEnd (s : State) (sec : Nat) : State :=
  let due := s.firn.aborted.filter (fun a => a.epoch ≤ sec)
  let s := { s with firn := { s.firn with
    aborted := (s.firn.aborted.filter (fun a => sec ≤ a.epoch)).map (fun a =>
      if a.epoch ≤ sec then { a with nodes := [] } else a) } }
  due.foldl (fun s a => (a.nodes.map Prod.fst).foldl State.resync s) s

/-- Firn is disabled. -/
def State.firnOff (s : State) : State := s.down FIRN_CTRL.EN

/-- A node's deliveries as its frame n lands (R71, R74 step 7). -/
def State.landNode (n : Nat) (s : State) (node : Nat) : State :=
  let l := (s.owed node).map (fun o => if !o.catchup && o.frame = n then { o with landed := true } else o)
  let s := if l.any (fun o => o.landed && !o.catchup && o.whole && o.frame = n) then s.setBase node n else s
  let s := s.setOwed node (l.filter (fun o => !(o.landed && o.whole)))
  if (s.owed node).any (fun o => o.catchup) then s.putCatchup node else s

/-- The flip (R57, R61, R74 step 5): a held entry keeps what the active one holds, and the dirty map of the buffer that becomes
pending is cleared. -/
def State.flip (s : State) : State :=
  let a := s.actBuf
  let p := s.planes
  let held := (p.dirty (1 - a)).filter (fun e => entHold (SMap.get zeroWide (p.fb (1 - a)) e))
  let fb := held.foldl (fun m e => SMap.put zeroWide m e (SMap.get zeroWide (p.fb a) e)) (p.fb (1 - a))
  let dp := held.foldl (fun m e => SMap.put zeroWide m e (SMap.get zeroWide (p.dp a) e)) (p.dp (1 - a))
  let s := held.foldl (fun s e =>
    (s.moveEntry (fbOff a e) (fbOff (1 - a) e)).moveEntry (dpOff a e) (dpOff (1 - a) e)) s
  let s := { s.firnHeal (dirtyOff a 0) 0x2_0000 with planes := ((p.setFb (1 - a) fb).setDp (1 - a) dp).setDirty a [] }
  let s := (s.wr FIRN_BUF.ACTIVE_BUF (1 - a)).wr64 FIRN_ACTIVE_LO.NUM_LO FIRN_ACTIVE_HI.NUM_HI (s.frameNo + 1)
  ((s.wr FIRN_COMMIT_STAT.STATE 0).down FIRN_COMMIT_STAT.FLOE).up FIRN_BUF.COPYING

/-- The deliveries' entries for an endpoint that Firn may send nothing for any more (R54): parts that have been cut lose
it as they go, and a part left with nothing counts as held; what is not yet cut loses it at once. -/
def Owed.unmap (live : Nat → Bool) (o : Owed) : Owed :=
  if o.pc = 0 then { o with items := o.items.filter (fun i => live i.2.ep) }
  else
    { o with acks := (List.range o.parts).foldl (fun a k =>
        if ((o.items.drop (k * o.pc)).take o.pc).any (fun i => live i.2.ep) then a else NSet.add a k) o.acks }

/-- An endpoint's map entry has lost VALID: no delivery and no surge carries it any more (R54). -/
def State.unmap (s : State) (e : Nat) : State :=
  let live (k : Nat) : Bool := k != e && mapValid (s.mapEntry k)
  let hit := s.firn.owed.filter (fun p => p.2.any (fun o => o.items.any (fun i => i.2.ep == e)))
  let s := { s with firn := { s.firn with surges := s.firn.surges.filter (fun g => g.ep != e) } }
  hit.foldl (fun s p =>
    let l := p.2.map (Owed.unmap live)
    let gone (o : Owed) : Bool := !o.catchup && (o.items.isEmpty || (o.whole && o.landed))
    (s.setOwed p.1 (l.filter (fun o => !gone o))).unwait p.1 (fun f => l.any (fun o => gone o && o.frame == f))) s

/-- The sealed commit lands (R74 steps 5 to 7). -/
def State.land (s : State) : State :=
  match s.firn.commit with
  | none => s
  | some c =>
    let s := s.copyDone.flip
    let n := s.frameNo
    let s := { s with firn := { s.firn with commit := none, landed := c.epoch, lastEpoch := c.epoch } }
    let s := s.up FIRN_EVT.EPOCH
    let nodes := s.firn.owed.map (·.1)
    let s := nodes.foldl (State.landNode n) s
    let s := if s.firn.owed.any (fun p => p.2.any (fun o => o.landed && !o.catchup && o.frame = n && !o.whole)) then
      s.up FIRN_EVT.LAG else s
    if s.firn.offAfter then ({ s with firn := { s.firn with offAfter := false } }).firnOff else s

/-- EPOCH: the epoch tick of the sealed commit, or of aborted ones. A standby's Firn holds what the mirror gives it and
acts on none of it (R79). -/
def State.firnEpoch (s : State) : State :=
  if s.standsBy then s
  else match s.firn.commit with
  | some c => let s := s.reachNs (c.epoch * 1000000000); (s.land).abortEnd c.epoch
  | none => match s.firn.aborted.find? (fun a => !a.nodes.isEmpty) with
    | some a => (s.reachNs (a.epoch * 1000000000)).abortEnd a.epoch
    | none => s

/-! ## Aborts (R75 to R78, R103) -/

/-- Has the abort cutoff passed (R74 step 4)? -/
def State.pastCutoff (s : State) (epoch : Nat) : Bool := epoch * 1000000000 ≤ s.netNs + 100000000

/-- The sealed commit is aborted (R75). -/
def State.abortCommit (s : State) : State :=
  match s.firn.commit with
  | none => s
  | some c =>
    let n := s.frameNo + 1
    let s := s.planes.dirtyA.foldl (fun s e =>
      (s.moveEntry (aheadOff e) (fbOff (1 - s.actBuf) e)).putPend e (SMap.get zeroWide s.planes.ahead e)) s
    let s := { s.firnHeal (dirtyOff 2 0) 0x2_0000 with planes := { s.planes with
      dirtyA := []
      log := s.planes.log.filter (fun p => match p.2 with | some l => l.frame != n | none => true) } }
    let told := s.firn.owed.filter (fun p => p.2.any (fun o => !o.catchup && o.frame = n && !o.sent.isEmpty))
    let nodes := (s.firn.owed.filter (fun p => p.2.any (fun o => !o.catchup && o.frame = n))).map (·.1)
    let s := nodes.foldl (fun s k => s.setOwed k ((s.owed k).filter (fun o => o.catchup || o.frame != n))) s
    let s := { s with firn := { s.firn with
      commit := none
      offAfter := false
      waiting := s.firn.waiting.filter (fun p => p.1 != n)
      aborted := s.firn.aborted ++ [Aborted.mk n c.epoch (told.map (fun (p : Nat × List Owed) => (p.1, none)))] } }
    let s := (s.wr FIRN_COMMIT_STAT.STATE 0).down FIRN_COMMIT_STAT.FLOE
    let s := s.wr64 FIRN_EPOCH_LO.S_LO FIRN_EPOCH_HI.S_HI s.firn.lastEpoch
    (s.up FIRN_COMMIT_STAT.ABORTED).up FIRN_EVT.ABORTED

/-- SKEWED (R77). -/
def State.firnSkewed (s : State) : State := (s.up FIRN_COMMIT_STAT.SKEWED).up FIRN_EVT.SKEWED

/-- A floe abort reaches Firn (R76, R77): before the cutoff it aborts, after it the commit lands and SKEWED sets. -/
def State.floeAbortCommit (s : State) : State :=
  match s.firn.commit with
  | some c =>
    if !c.floe then s
    else if s.pastCutoff c.epoch then s.firnSkewed
    else s.abortCommit
  | none => s

/-- The module enters ISLANDED (R78). -/
def State.firnIslanded (s : State) : State :=
  match s.firn.commit with
  | some c => if c.floe && !s.pastCutoff c.epoch then s.abortCommit else s
  | none => s

/-- A write of FIRN_CTRL with EN 0 (R103). -/
def State.firnClear (s : State) : State :=
  let s := { s with planes := { s.planes with filling := false } }
  if !s.on FIRN_CTRL.EN then s
  else match s.firn.check, s.firn.commit with
  | some c, _ => (s.checkDone c ccDenied).firnOff
  | none, some c =>
    if s.pastCutoff c.epoch then { s with firn := { s.firn with offAfter := true } } else s.abortCommit.firnOff
  | none, none => s.firnOff

/-- A write of FIRN_CTRL with EN 1 (R52, R103). -/
def State.firnSet (s : State) : State :=
  if s.on FIRN_CTRL.EN || s.planes.filling then { s with firn := { s.firn with offAfter := false } }
  else if 0xF_E000_0000 < s.firnBase then s.up FIRN_EVT.CFG_ERR
  else s.fillStart

/-- A write of FIRN_CTRL: the other fields, then EN. -/
def State.firnCtrlWrite (s : State) (v : Word) : State :=
  let x := v.toNat
  let s := (s.wr FIRN_CTRL.SURGE_EN (bitsOf x 1 1)).wr FIRN_CTRL.DERATE_EN (bitsOf x 2 1)
  let s := (s.wr FIRN_CTRL.RESYNC_AUTO (bitsOf x 3 1)).wr FIRN_CTRL.SURGE_REPEAT (bitsOf x 8 2)
  let s := if bitsOf x 0 1 = 1 then s.firnSet else s.firnClear
  s.derateAll

/-! ## Acknowledgements and reports (R70, R73, R75, R81, R82) -/

/-- A PART_ACK from a node (R70, R75, R201). -/
def State.partAck (s : State) (n frame epoch bitmap : Nat) : State :=
  let conf (a : Aborted) : Bool :=
    a.frame % 65536 == frame && a.epoch % 65536 == epoch && a.nodes.any (fun p => p.1 == n)
  if bitmap = 0 && s.firn.aborted.any conf then
    { s with firn := { s.firn with
        aborted := s.firn.aborted.map (fun a =>
          if conf a then { a with nodes := a.nodes.filter (fun p => p.1 != n) } else a) } }
  else
    let l := s.owed n
    let done := l.takeWhile (fun o => o.whole)
    match l.drop done.length with
    | [] => s
    | o :: rest =>
      if o.pc = 0 || o.frame % 65536 != frame || o.epoch % 65536 != epoch then s
      else
        let acks := (List.range o.parts).foldl (fun a k => if bitsOf bitmap k 1 = 1 then NSet.add a k else a) o.acks
        let o' := { o with acks := acks }
        if !o'.whole then s.setOwed n (done ++ o' :: rest)
        else if o.catchup then
          (s.setOwed n (done ++ rest)).unwait n (fun f => f ≤ o.frame)
        else
          let s := if o.landed then (s.setBase n o.frame).setOwed n (done ++ rest) else s.setOwed n (done ++ o' :: rest)
          let s := if s.waits n o.frame && o.frame = (if s.firn.commit.isSome then s.frameNo + 1 else s.frameNo) then
            s.count FIRN_ACKED.NODES 1 else s
          s.unwait n (· == o.frame)

/-- A REPORT's part for Firn: applied frame, LAG and late apply, then the temperature (R71, R73, R81, R82, R95). -/
def State.firnReport (s : State) (n : Nat) (r : Report) : State :=
  let lag := bitsOf r.flags 0 1 == 1
  let late := bitsOf r.flags 1 1 == 1
  let s := (s.setNodeBits n 32 16 r.applied).setNodeBits n 96 32 (s.netSec % 2 ^ 32)
  let s := if late then (s.countMod FIRN_LATE_CNT.COUNT 1).up FIRN_EVT.LATE_APPLY else s
  let l := s.owed n
  let s :=
    if lag && !l.any (fun o => o.catchup) && s.firstBase n l % 65536 != r.applied % 65536 then s.resync n else s
  s.tempReport n r.temp

/-- A node has made no report for 3 of its report periods (R97). -/
def State.tempStale (s : State) (n : Nat) : State := s.setNodeBits n 67 1 1

/-! ## Surges (R85 to R88, R101) -/

/-- The surges of a cell that no slot has carried. -/
def State.unsent (s : State) (c : Nat) : Nat :=
  (s.firn.surges.filter (fun g => g.first.isNone && s.cellOf g.node == some c)).length

/-- SURGE (R85, R88, R101, R483): the completion code and the state. It reads the endpoint's map entry, calibration record and
active entry, and poison in any of them ends it with UE (R44; log entry 37). -/
def State.surge (s : State) (ep p : Nat) : Nat × State :=
  let level := bitsOf p 0 16
  let hold := bitsOf p 16 12
  let m := s.mapEntry ep
  let n := mapNode m
  if !s.rdy 18 then (ccBusy, s)
  else if 2 ^ 20 ≤ ep || 2 ^ 28 ≤ p then (ccRange, s)
  else if !s.on FIRN_CTRL.EN || !s.gate 0 || !s.on FIRN_CTRL.SURGE_EN then (ccDenied, s)
  else if s.firnPoison (mapOff ep) 4 then (ccUe, s.firnUe (mapOff ep) 4)
  else match (if mapValid m then s.cellOf n else none) with
  | none => (ccNotFound, s)
  | some c =>
    if s.firnPoison (calOff ep) 64 then (ccUe, s.firnUe (calOff ep) 64)
    else if s.firnPoison (fbOff s.actBuf ep) 16 then (ccUe, s.firnUe (fbOff s.actBuf ep) 16)
    else
      let old := s.firn.surges.any (fun g => g.ep == ep && g.first.isNone)
      if !old && 1024 ≤ s.unsent c then (ccFull, s)
      else
        let a := s.activeEntry ep
        let cal := s.calRec ep
        let d := (drives cal level (tintOf cal (entTint a)) false (entNocal a)).1
        let g : Surge := ⟨ep, n, mapIndex m, d, hold, s.ctr, none, 0, s.ctr + hold * 80000000⟩
        let l := s.firn.surges.filter (fun h => !(h.ep == ep && h.first.isSome))
        let l := if old then l.map (fun h => if h.ep = ep then g else h) else l ++ [g]
        let s := ((s.firnMend (calOff ep) 64).firnMend (mapOff ep) 4).firnMend (fbOff s.actBuf ep) 16
        (ccOk, { s with firn := { s.firn with surges := l } })

/-- An unsent surge whose time has passed is dropped (R88). -/
def State.surgeDrop (s : State) (ep : Nat) : State :=
  match s.firn.surges.find? (fun g => g.ep == ep && g.first.isNone && g.hold != 0) with
  | none => s
  | some g =>
    if s.standsBy then s
    else
      let s := s.reachCtr (g.last + 1)
      ({ s with firn := { s.firn with surges := s.firn.surges.filter (· != g) } }).up FIRN_EVT.SURGE_DROP

/-! ## FWRITE, FREAD and COMMIT (R98 to R102, R483) -/

/-- May FWRITE act in this mode (R98)? -/
def State.fwriteMode (s : State) : Bool := s.mode == 2 || s.mode == 3 || s.mode == 5

/-- FWRITE (R60, R99). -/
def State.fwrite (s : State) (ep : Nat) (v : Wide) : Nat × State :=
  if !s.rdy 18 then (ccBusy, s)
  else if 2 ^ 20 ≤ ep || !entryOk v then (ccRange, s)
  else if !s.on FIRN_CTRL.EN || !s.fwriteMode then (ccDenied, s)
  else if s.isSealed then (ccOk, (s.firnHeal (aheadOff ep) 16).putAhead ep v)
  else (ccOk, (s.firnHeal (fbOff (1 - s.actBuf) ep) 16).putPend ep v)

/-- What FREAD reads by selector: the offset in the region, how many bytes there, and the value (R100). -/
def State.freadOf (s : State) (ep sel : Nat) : List (Nat × Nat) × Wide :=
  match sel with
  | 0 => let (o, v) := s.pendView ep; ([(o, 16)], v)
  | 1 => ([(fbOff s.actBuf ep, 16)], s.activeEntry ep)
  | 2 => ([(dpOff s.actBuf ep, 16)], s.activeDrive ep)
  | 3 => let (o, v) := s.pendDriveView ep; ([(o, 16)], v)
  | 8 =>
    let m := s.mapEntry ep
    ([(mapOff ep, 4), (derateOff ep, 4), (nodeOff (mapNode m) 0, 8)],
      BitVec.ofNat 128 (m.toNat + s.derateEnt ep * 2 ^ 32 + ((s.nodePlane (mapNode m)).toNat % 2 ^ 64) * 2 ^ 64))
  | k => ([(calOff ep + 16 * (k - 4), 16)], BitVec.ofNat 128 (bitsOf (s.calRec ep).toNat (128 * (k - 4)) 128))

/-- FREAD (R62, R100). -/
def State.fread (s : State) (ep sel : Nat) : Nat × Wide × State :=
  if !s.rdy 18 then (ccBusy, 0, s)
  else if 2 ^ 20 ≤ ep || 8 < sel then (ccRange, 0, s)
  else if !s.on FIRN_CTRL.EN then (ccDenied, 0, s)
  else
    let (rs, v) := s.freadOf ep sel
    match rs.find? (fun r => s.firnPoison r.1 r.2) with
    | some r => (ccUe, 0, s.firnUe r.1 r.2)
    | none => (ccOk, v, rs.foldl (fun s r => s.firnMend r.1 r.2) s)

/-- COMMIT up to its check (R64, R102, R483): a completion code, or none where the check goes on. -/
def State.commitStart (s : State) (t : Nat) (w : Wide) : Option Nat × State :=
  let x := w.toNat
  let floe := bitsOf x 48 1 == 1
  let fail (cc : Nat) : Option Nat × State :=
    (some cc, ({ s with firn := { s.firn with hadCommit := true } }).wr FIRN_COMMIT_STAT.LAST_CC cc)
  if !s.rdy 18 then fail ccBusy
  else if 2 ^ 49 ≤ x then fail ccRange
  else if !s.firnGate floe then fail ccDenied
  else if s.isSealed || s.isChecking then fail ccBusy
  else if floe && s.on FLOE_STATUS.SKEW then fail ccSkew
  else
    let s := s.wr FIRN_COMMIT_STAT.STATE 1
    (none, { s with firn := { s.firn with check := some ⟨t, bitsOf x 0 48, floe⟩ } })

/-! ## Commands (R54, R90, R97, R103) -/

/-- A command of the FIRN interface ends. -/
def State.firnDone (s : State) (cc : Nat) (n : Nat) : State :=
  (s.wr FIRN_STAT.DONE n).done FIRN_STAT.addr FIRN_EVT.CMD_DONE cc

abbrev State.firnKey (s : State) : Nat := s.rd FIRN_KEY.VALUE

/-- CAL_LOAD, record by record: how many were loaded and why it stopped (R90). -/
def calLoadAux (src : Nat) : Nat → Nat → State → Nat × Nat × State
  | 0, _, s => (ccOk, 0, s)
  | n + 1, e, s =>
    match s.dmaRead src 64 with
    | none => (ccUe, 0, (s.dmaFail src 64).2)
    | some bs =>
      let s := s.dmaMet src 64
      let c := BitVec.ofNat 512 (ofLe bs)
      if !calOk c then (ccRange, 0, s)
      else
        let s := s.firnHeal (calOff e) 64
        let s := { s with planes := { s.planes with cal := SMap.put zeroCal s.planes.cal e c } }
        let (cc, k, s) := calLoadAux (src + 64) n (e + 1) s
        (cc, k + 1, s)

def State.calLoad (s : State) : State :=
  let src := s.rd FIRN_DATA0.VALUE + bitsOf (s.rd FIRN_DATA1.VALUE) 0 8 * 2 ^ 32
  let n := bitsOf (s.rd FIRN_DATA2.VALUE) 0 17
  if src % 64 != 0 || n = 0 || 65536 < n || 2 ^ 20 < s.firnKey + n || 2 ^ 36 < src + 64 * n then
    (s.wr FIRN_DATA3.VALUE 0).firnDone ccRange 0
  else
    let (cc, k, s) := calLoadAux src n s.firnKey s
    (s.wr FIRN_DATA3.VALUE k).firnDone cc k

/-- Does the sealed commit change the endpoint? -/
def State.sealedChanged (s : State) (e : Nat) : Bool :=
  s.isSealed && s.firn.owed.any (fun p => p.2.any (fun o =>
    !o.catchup && o.frame == s.frameNo + 1 && o.items.any (fun i => i.2.ep == e)))

/-- MAP_SET (R54). Deliveries and surges that are queued for the endpoint still go to the node and index that it had when they were
queued, also where the write leaves VALID 1 (DESIGN CHOICE, log entry 43). -/
def State.mapSet (s : State) : State :=
  let m := s.rd FIRN_DATA0.VALUE
  if 2 ^ 20 ≤ s.firnKey || bitsOf m 22 9 != 0 then s.firnDone ccRange 0
  else if s.sealedChanged s.firnKey then s.firnDone ccBusy 0
  else if s.firnPoison (mapOff s.firnKey) 4 then (s.firnUe (mapOff s.firnKey) 4).firnDone ccUe 0
  else
    let s := s.firnMend (mapOff s.firnKey) 4
    let e := s.firnKey
    let follow (t : State) : State := if bitsOf m 31 1 = 1 then t else t.unmap e
    (follow { s with planes := { s.planes with map := SMap.put zeroWord s.planes.map e (BitVec.ofNat 32 m) } }).firnDone
      ccOk 1

def State.tempSet (s : State) : State :=
  let d := s.rd FIRN_DATA0.VALUE
  let n := s.firnKey
  if 2 ^ 18 ≤ n || 2 ^ 9 ≤ d then s.firnDone ccRange 0
  else if (s.endpointsOf n).isEmpty then s.firnDone ccNotFound 0
  else
    let s := (s.setNodeBits n 24 8 d).setNodeBits n 66 1 (bitsOf d 8 1)
    ((s.hasTemp n).derateNode n (signedOf 8 d)).firnDone ccOk 1

/-- RECALC of one endpoint (R103): marked dirty where FWRITE would write it now, with its drives while the frame is
open. -/
def State.recalcOne (s : State) (e : Nat) : State :=
  let (o, v) := s.pendView e
  let b := 1 - s.actBuf
  if s.isSealed then (s.moveEntry o (aheadOff e)).putAhead e v
  else
    let s := (s.moveEntry o (fbOff b e)).putPend e v
    if s.firnPoison (calOff e) 64 then s.firnUe (calOff e) 64
    else ((s.firnMend (calOff e) 64).firnHeal (dpOff b e) 16).putPendDrive e (driveEntry (s.calRec e) v)

def State.recalc (s : State) : State :=
  let n := s.rd FIRN_DATA0.VALUE
  if n = 0 || 2 ^ 21 ≤ n || 2 ^ 20 < s.firnKey + n then s.firnDone ccRange 0
  else ((List.range n).foldl (fun s k => s.recalcOne (s.firnKey + k)) s).firnDone ccOk n

def State.abortCmd (s : State) : State :=
  match s.firn.commit with
  | none => s.firnDone ccNotFound 0
  | some c =>
    if c.floe then s.firnDone ccDenied 0
    else if s.pastCutoff c.epoch then s.firnDone ccLate 0
    else s.abortCommit.firnDone ccOk 0

def State.resyncCmd (s : State) : State :=
  if 2 ^ 18 ≤ s.firnKey || (s.cellOf s.firnKey).isNone then s.firnDone ccNotFound 0
  else (s.resync s.firnKey).firnDone ccOk 1

def State.nodeState (s : State) : State :=
  if 2 ^ 18 ≤ s.firnKey then s.firnDone ccNotFound 0
  else if s.firnPoison (nodeOff s.firnKey 0) 16 then (s.firnUe (nodeOff s.firnKey 0) 16).firnDone ccUe 0
  else
    let s := s.firnMend (nodeOff s.firnKey 0) 16
    let x := (s.nodePlane s.firnKey).toNat
    let s := (s.wr FIRN_DATA0.VALUE (bitsOf x 0 32)).wr FIRN_DATA1.VALUE (bitsOf x 32 32)
    ((s.wr FIRN_DATA2.VALUE (bitsOf x 64 32)).wr FIRN_DATA3.VALUE (bitsOf x 96 32)).firnDone ccOk 1

end Sys2Proof.Machine
end

