-- ==== Sys2Proof/Machine/Sast.lean ====
section
/-!
DEFINITION. Sys2Proof/Machine/Sast.lean: Sastrugi's plan, grants, superframe and slots: what goes on air, when, and to
whom (R185 to R187, R193 to R212, R485).
-/

namespace Sys2Proof.Machine

/-! ## Accessors -/

def State.mac (s : State) (n : Nat) : Option NodeMac := SMap.get (fun _ => none) s.sast.nodes n
def State.setMac (s : State) (n : Nat) (m : Option NodeMac) : State :=
  { s with sast := { s.sast with nodes := SMap.put (fun _ => none) s.sast.nodes n m } }
def State.cell (s : State) (c : Nat) : CellSt := SMap.get (fun _ => {}) s.sast.cells c
def State.setCell (s : State) (c : Nat) (x : CellSt) : State :=
  { s with sast := { s.sast with cells := SMap.put (fun _ => {}) s.sast.cells c x } }
def State.head (s : State) (h : Nat) : HeadSt := SMap.get (fun _ => {}) s.sast.heads h
def State.setHead (s : State) (h : Nat) (x : HeadSt) : State :=
  { s with sast := { s.sast with heads := SMap.put (fun _ => {}) s.sast.heads h x } }

/-- The nodes associated in a cell, or whose address is reserved there. -/
def State.nodesOf (s : State) (c : Nat) : List (Nat × NodeEnt) :=
  (present s.src.nodes).filter (fun p => p.2.head == c && p.2.bound)

/-- How many nodes a cell serves or has promised to: those associated or reserved there, moves under way to it, and
associations accepted and not yet answered (R13, R15). -/
def State.cellLoad (s : State) (c : Nat) : Nat :=
  (s.nodesOf c).length +
    ((present s.sast.nodes).filter (fun p => match p.2.move with | some m => m.cell == c | none => false)).length +
    (s.sast.assocs.filter (fun a => a.cell == c && (match a.node with
      | some n => !(s.nodesOf c).any (fun p => p.1 == n)
      | none => false))).length

/-- Short addresses taken in a cell: bound ones, and those that a move has promised. -/
def State.shortsIn (s : State) (c : Nat) : List Nat :=
  (s.nodesOf c).map (fun p => p.2.short) ++
    (present s.sast.nodes).filterMap (fun p => match p.2.move with
      | some m => if m.cell = c then some m.short else none
      | none => none)

/-- SAST_HEAD(h).NODES of every head (R224). -/
def State.headCounts (s : State) : State :=
  (List.range 64).foldl (fun s h =>
    s.wr (SAST_HEAD.NODES h) ((s.nodesOf h).filter (fun p => p.2.assoc)).length) s

/-- The wake slot that a node still has after DISASSOC. -/
def State.leaver (s : State) (n : Nat) : Option Wake := SMap.get (fun _ => none) s.sast.leaving n
def State.setLeaver (s : State) (n : Nat) (w : Option Wake) : State :=
  { s with sast := { s.sast with leaving := SMap.put (fun _ => none) s.sast.leaving n w } }

/-- Does a node listen in its wake slots only (R212)? -/
def State.sleepy (s : State) (n : Nat) : Bool :=
  (match s.mac n with | some m => m.wcode != 0 | none => false) || (s.leaver n).isSome

/-- A MAC management frame to a node queued in its cell, with the fields of its payload (R198, R485). Node 2^18 stands for
a receiver that has no node ID. -/
def State.queueMac (s : State) (c short typ node : Nat) (fields : List Nat) : State :=
  let x := s.cell c
  let f := leBytes 1 typ ++ leBytes 2 short ++ leBytes 1 x.seq ++ Config.layout typ fields
  (s.setCell c { x with seq := (x.seq + 1) % 256 }).arrive (3200 + c) f 0 node

/-- A grant as a message carries it (R209): whether there is one, slot, channel, log2 of P, phase, sequence number. -/
def grantFields : Option Grant → List Nat
  | some g => [1, g.slot, g.ch, g.logP, g.phase, g.seq]
  | none => [0, 0, 0, 0, 0, 0]

/-- GRANT: a node is told its grant, or that it has none (R209, R211). -/
def State.sendGrant (s : State) (c n : Nat) : State :=
  s.queueMac c (((s.nodeEnt n).map NodeEnt.short).getD 0xFFFE) 0x06 n (grantFields ((s.mac n).bind NodeMac.grant))

/-! ## Grants (R209, R211) -/

/-- The grants charged to a cell: node, whether it is a move's, and the grant. -/
def State.grantsOf (s : State) (c : Nat) : List (Nat × Grant) :=
  (present s.sast.nodes).flatMap (fun p =>
    let own := match s.nodeEnt p.1, p.2.grant with
      | some e, some g => if e.head = c then [(p.1, g)] else []
      | _, _ => []
    let mv := match p.2.move with
      | some m => match m.grant with
        | some g => if m.cell = c then [(p.1, g)] else []
        | none => []
      | none => []
    own ++ mv)

/-- Units of a list of grants. -/
def unitsOf (l : List (Nat × Grant)) : Nat := l.foldl (fun a p => a + 64 / 2 ^ p.2.logP) 0

/-- SAST_USED(c). -/
def State.usedReg (s : State) (c : Nat) : State := s.wr (SAST_USED.UNITS c) (unitsOf (s.grantsOf c))

/-- SAST_USED of every cell. -/
def State.usedRegs (s : State) : State := (List.range 64).foldl State.usedReg s

/-- The DED slot-channels of a record. -/
def CellRec.deds (r : CellRec) : List (Nat × Nat) :=
  (List.range 200).flatMap (fun k => ((List.range 8).filter (fun i => r.typ k i == 5)).map (fun i => (k, i)))

/-- Do two grants share a slot-channel in some superframe? -/
def Grant.clash (a b : Grant) : Bool :=
  a.slot == b.slot && a.ch == b.ch && a.phase % 2 ^ min a.logP b.logP == b.phase % 2 ^ min a.logP b.logP

/-- Is a slot-channel under the embargo of R211? -/
def State.embargoed (s : State) (c k i : Nat) : Bool :=
  (s.cell c).embargo.any (fun e => e.1 == 8 * k + i && decide (s.netSec < e.2.1))

/-- The grants that a cell could still give at a report period. -/
def State.openGrants (s : State) (c logP : Nat) : List Grant :=
  match s.cellRec c with
  | none => []
  | some r =>
    let held := s.grantsOf c
    (r.deds.filter (fun d => !s.embargoed c d.1 d.2)).flatMap (fun d =>
      ((List.range (2 ^ logP)).map (fun ph => Grant.mk d.1 d.2 logP ph 0 0)).filter (fun g =>
        !held.any (fun p => p.2.clash g)))

/-- A grant taken from a cell's counter (R209); which free slot-channel and phase it takes is a free choice. -/
def State.allot (s : State) (c logP : Nat) : Option Grant × State :=
  let s := s.ctlMet 9 (grantKey c)
  if s.rd (SAST_BUDGET.UNITS c) < unitsOf (s.grantsOf c) + 64 / 2 ^ logP then (none, s)
  else
    let l := s.openGrants c logP
    if l.isEmpty then (none, s)
    else
      let (x, s) := s.draw
      let st := s.cell c
      match l[x % l.length]? with
      | some g =>
        (some { g with seq := st.counter, order := st.issued },
          s.setCell c { st with counter := (st.counter + 1) % 65536, issued := st.issued + 1 })
      | none => (none, s)

/-- A node's grant set or released. -/
def State.setGrant (s : State) (n : Nat) (g : Option Grant) : State :=
  match s.mac n with
  | some m => s.setMac n (some { m with grant := g })
  | none => s

/-- The units that a cell may use: its budget, and 64 for each DED slot-channel of the plan, which gives a cell that it does
not use none (R211). -/
def State.unitLimit (s : State) (c : Nat) : Nat :=
  min (s.rd (SAST_BUDGET.UNITS c)) (64 * (((s.cellRec c).map CellRec.deds).getD []).length)

/-- The grants to revoke, newest first, until the units fit a limit. -/
def revokeList (limit : Nat) : Nat → List (Nat × Grant) → List (Nat × Grant)
  | _, [] => []
  | used, g :: l => if used ≤ limit then [] else g :: revokeList limit (used - 64 / 2 ^ g.2.logP) l

/-- A grant put in its place in a list ordered newest first. -/
def putNewest (g : Nat × Grant) : List (Nat × Grant) → List (Nat × Grant)
  | [] => [g]
  | h :: l => if h.2.order ≤ g.2.order then g :: h :: l else h :: putNewest g l

/-- A list of grants ordered newest first. -/
def newestFirst (l : List (Nat × Grant)) : List (Nat × Grant) := l.foldr putNewest []

/-- Revocation at a superframe boundary (R211). -/
def State.revoke (s : State) (c : Nat) : State :=
  let l := s.grantsOf c
  let out := revokeList (s.unitLimit c) (unitsOf l) (newestFirst l)
  match out with
  | [] =>
    let x := s.cell c
    match x.revoke with
    | some (_, _, newest) => if newest + 16384 ≤ x.issued then s.setCell c { x with revoke := none } else s
    | none => s
  | g :: _ =>
    let sec := s.netSec
    let s := out.foldl (fun s p => match s.mac p.1 with
      | some m =>
        if m.grant = some p.2 then s.setMac p.1 (some { m with grant := none })
        else s.setMac p.1 (some { m with move := m.move.map (fun v => { v with grant := none }) })
      | none => s) s
    let x := s.cell c
    let x := { x with
      revoke := some (((out.getLast?).getD g).2.seq, g.2.seq, g.2.order)
      embargo := x.embargo.filter (fun e => sec < e.2.1) ++
        out.map (fun (p : Nat × Grant) => (8 * p.2.slot + p.2.ch, sec + 64, p.1)) }
    ((s.setCell c x).usedReg c).up SAST_EVT.REVOKE

/-- Grants whose number lies 16,384 or more behind the counter are reissued, those of a move too (R209). -/
def State.reissue (s : State) (c : Nat) : State :=
  (s.grantsOf c).foldl (fun s p =>
    let x := s.cell c
    if x.issued < p.2.order + 16384 then s
    else match s.mac p.1 with
      | some m =>
        let g : Grant := { p.2 with seq := x.counter, order := x.issued }
        let next (s : State) : State :=
          s.setCell c { s.cell c with counter := (x.counter + 1) % 65536, issued := x.issued + 1 }
        if m.grant = some p.2 then (next (s.setMac p.1 (some { m with grant := some g }))).sendGrant c p.1
        else if m.move.any (fun v => v.grant == some p.2) then
          (next (s.setMac p.1 (some { m with move := m.move.map (fun v => { v with grant := some g }) }))).queueMac
            (((s.nodeEnt p.1).map NodeEnt.head).getD c) (((s.nodeEnt p.1).map NodeEnt.short).getD 0xFFFE) 0x06 p.1
            (grantFields (some g))
        else s
      | none => s) s

/-- Serac's node table has changed: what Sastrugi kept of a node whose entry is gone, or is another node's now, goes with it, and
NODES and USED follow (R209, R224, R292, R294). -/
def State.nodesFollow (s t : State) : State :=
  let who (s : State) : List (Nat × Option (Nat × Nat × Bool)) :=
    s.src.nodes.map (fun p => (p.1, p.2.map (fun e => (e.eui, e.head, e.assoc))))
  if who s == who t then t
  else
    let same (n : Nat) : Bool := (t.nodeEnt n).isSome && (s.nodeEnt n).map NodeEnt.eui == (t.nodeEnt n).map NodeEnt.eui
    let x := { t with sast := { t.sast with
      nodes := t.sast.nodes.filter (fun p => (s.nodeEnt p.1).isNone || same p.1)
      leaving := t.sast.leaving.filter (fun p => (s.nodeEnt p.1).isNone || same p.1) } }
    x.usedRegs.headCounts

/-! ## The plan (R204, R205) -/

/-- The address of the plan. -/
def State.planAddr (s : State) : Nat := s.rd SAST_PLAN_LO.BASE_LO * 1024 + s.rd SAST_PLAN_HI.BASE_HI * 2 ^ 32

/-- Is a slot a fast slot (R193)? -/
def fastSlot (k : Nat) : Bool := k % 10 == 5

/-- A cell record read from its 1,024 bytes. -/
def cellOfBytes (bs : List Byte) : CellRec :=
  { used := ofLe ((bs.drop 9).take 1) % 2 == 1
    rf := (bs.take 8).map BitVec.toNat
    phy := ofLe ((bs.drop 8).take 1)
    slots := (List.range 200).map (fun k => ofLe ((bs.drop (24 + 4 * k)).take 4)) }

/-- The mask of a type in a slot. -/
def CellRec.mask (r : CellRec) (k t : Nat) : Nat :=
  (List.range 8).foldl (fun a i => if r.typ k i == t then a + 2 ^ i else a) 0

/-- The slots that hold a type. -/
def CellRec.slotsOf (r : CellRec) (t : Nat) : List Nat := (List.range 200).filter (fun k => r.mask k t != 0)

/-- The shared run: start, count, mask (R199); none where the SHARED entries form no rectangle. -/
def CellRec.shared (r : CellRec) : Option (Nat × Nat × Nat) :=
  match r.slotsOf 6 with
  | [] => some (1, 0, 0)
  | a :: l =>
    let b := (l.getLast?).getD a
    let m := r.mask a 6
    if (List.range (b + 1 - a)).all (fun j => fastSlot (a + j) || r.mask (a + j) 6 == m) then some (a, b + 1 - a, m)
    else none

/-- The association slot and mask: 0 when none. -/
def CellRec.assocRun (r : CellRec) : Nat × Nat :=
  match r.slotsOf 7 with
  | [] => (0, 0)
  | a :: _ => (a, r.mask a 7)

/-- The highest RF channel number of a band (R196). -/
def topChannel (band : Nat) : Nat := if band = 0 then 34 else 128

/-- Does a used record keep the rules of R205, given what is known of its head's modes? -/
def cellOk (band : Nat) (phys : Option Nat) (bs : List Byte) : Bool :=
  let r := cellOfBytes bs
  if !r.used then true
  else
    ofLe ((bs.drop 9).take 1) == 1 && ((bs.drop 10).take 14).all (· == 0) &&
    perChannel r.phy != 0 && (match phys with | some p => (p >>> r.phy) % 2 == 1 | none => true) &&
    (r.rf.all (fun c => c ≤ topChannel band) && r.rf.eraseDups.length == 8) &&
    (r.slots[0]?).getD 0 == 1 &&
    (List.range 200).all (fun k => (List.range 8).all (fun i =>
      let t := r.typ k i
      t ≤ 7 && (t != 1 || k == 0) && (if fastSlot k then t == 0 || t == 2 || t == 3 else t != 2 && t != 3))) &&
    (List.range 200).all (fun k => !fastSlot k || r.slots[k]? == r.slots[5]?) &&
    r.shared.isSome && (r.slotsOf 7).length ≤ 1

/-- Do two records use one RF channel with non-IDLE types in one slot (R205)? -/
def cellClash (a b : CellRec) : Bool :=
  a.used && b.used && (List.range 200).any (fun k => (List.range 8).any (fun i => (List.range 8).any (fun j =>
    a.rf[i]? == b.rf[j]? && a.typ k i != 0 && b.typ k j != 0)))

/-- SAST_CONFLICT(i, j) (R203). -/
def State.conflictOf (s : State) (i j : Nat) : Nat :=
  if j % 2 = 0 then s.rd (SAST_CONFLICT.EVEN i (j / 2)) else s.rd (SAST_CONFLICT.ODD i (j / 2))

/-- Do two cells conflict (R203)? -/
def State.conflicting (s : State) (i j : Nat) : Bool :=
  s.rd SAST_CONFLICT_CFG.CONFLICT_MIN ≤ s.conflictOf i j + s.conflictOf j i

/-- A command of the SAST interface ends. -/
def State.sastDone (s : State) (cc : Nat) : State := s.done SAST_STAT.addr SAST_EVT.CMD_DONE cc

/-- PLAN_LOAD (R205). -/
def State.planLoad (s : State) : State :=
  if s.sast.next.isSome then s.sastDone ccBusy
  else if 2 ^ 36 < s.planAddr + 65536 then s.sastDone ccRange
  else match s.dmaRead s.planAddr 65536 with
  | none => (s.dmaFail s.planAddr 65536).2.sastDone ccUe
  | some bs =>
    let s := s.dmaMet s.planAddr 65536
    let recs := (List.range 64).map (fun c => (bs.drop (1024 * c)).take 1024)
    let band := s.rd SAST_CTRL.BAND
    if !(List.range 64).all (fun c => cellOk band ((s.head c).cap.map CapDesc.phys) ((recs[c]?).getD [])) then
      s.sastDone ccRange
    else
      let cells := recs.map cellOfBytes
      let clash := (List.range 64).any (fun i => (List.range 64).any (fun j => i < j && s.conflicting i j &&
        (match cells[i]?, cells[j]? with | some a, some b => cellClash a b | _, _ => false)))
      if clash then s.sastDone ccDenied
      else
        let p : Plan := ⟨bitsOf (s.rd SAST_DATA0.VALUE) 0 16, cells⟩
        (({ s with sast := { s.sast with next := some (p, s.netNs) } }).up SAST_PLAN_STAT.PENDING).sastDone ccOk

/-- SAST_HEAD(h).PHY of every head (R224). -/
def State.phyRegs (s : State) : State :=
  (List.range 64).foldl (fun s h => s.wr (SAST_HEAD.PHY h) (((s.cellRec h).map CellRec.phy).getD 0)) s

/-! ## Heads and holds (R187, R190, R192) -/

/-- Do positions run against this module's own hops: on a secondary, its partner there or not (R14, R181)? -/
def State.turned (s : State) : Bool := s.secondary

/-- A chain as Sastrugi keeps it. -/
def State.chain (s : State) (n : Nat) : ChainSt := SMap.get (fun _ => {}) s.sast.chains n
def State.setChain (s : State) (n : Nat) (x : ChainSt) : State :=
  { s with sast := { s.sast with chains := SMap.put (fun _ => {}) s.sast.chains n x } }

/-- The HOP of a head from this module's port, and the head of a hop on a chain (R14, R181): the same count turned. -/
def State.hopOf (s : State) (h : Nat) : Nat := if s.turned then (s.chain (h / 8)).span - 1 - h % 8 else h % 8
def State.headAt (s : State) (n hop : Nat) : Nat := 8 * n + (if s.turned then (s.chain n).span - 1 - hop else hop)

/-- Does a head lie behind a chain's break, seen from this module's port: past the last position reached directly, or
anywhere where the port has no block lock (R192)? -/
def State.behind (s : State) (h : Nat) : Bool :=
  s.on (SAST_CHAIN.BROKEN (h / 8)) &&
    (!s.on (SAST_CHAIN.LOCK (h / 8)) || (if s.turned then h % 8 < s.rd (SAST_CHAIN.BREAK_POS (h / 8))
      else s.rd (SAST_CHAIN.BREAK_POS (h / 8)) < h % 8))

/-- May Sastrugi use a head: present, compatible, and reached directly or through a wrap? -/
def State.headLive (s : State) (h : Nat) : Bool :=
  s.on (SAST_HEAD.PRESENT h) && s.on (SAST_HEAD.COMPAT h) && !(s.behind h && !s.on (SAST_CHAIN.WRAPPED (h / 8)))

/-- Is a channel of a head held? -/
def State.heldOff (s : State) (h i : Nat) : Bool :=
  match SMap.get (fun _ => none) (s.head h).holds i with
  | some t => s.ctr < t
  | none => false

/-- The HOLD_OFFs that a head asked for take effect at a slot boundary (R187). -/
def State.holdsBegin (s : State) (h : Nat) : State :=
  let x := s.head h
  if x.asked.isEmpty then s
  else
    let holds := x.asked.foldl (fun m a => (List.range 8).foldl (fun m i =>
      if bitsOf a.1 i 1 = 0 then m
      else SMap.put (fun _ => none) m i (if a.2 = 0 then none else some (s.ctr + usTicks a.2))) m) x.holds
    let began := x.asked.any (fun a => a.1 % 256 != 0 && a.2 != 0)
    let s := (s.setHead h { x with holds := holds, asked := [] }).bit (SAST_HEAD.HOLDOFF h) (!holds.isEmpty)
    if began then s.up SAST_EVT.HOLDOFF else s

/-- Holds of a head that have ended are dropped (R187). -/
def State.holdsEnd (s : State) (h : Nat) : State :=
  let x := s.head h
  let holds := x.holds.filter (fun p => match p.2 with | some t => s.ctr < t | none => false)
  (s.setHead h { x with holds := holds }).bit (SAST_HEAD.HOLDOFF h) (!holds.isEmpty)

/-! ## Chain frames (R182 to R185, R192) -/

/-- The bytes of a chain frame (R182). -/
def chainBytes (f : ChainFrame) : List Byte :=
  let b := leBytes 1 (f.hop % 16 + 128 * (f.dir % 2)) ++ leBytes 1 f.typ ++ leBytes 2 f.data.length ++ leBytes 2 f.seq ++
    [0, 0] ++ leBytes 8 (f.time % 2 ^ 64) ++ f.data
  b ++ leBytes 4 (crc32 b).toNat

/-- May a chain frame go on a chain: HOP as R183 has it, a TYPE of its direction (R184), and 20 to 2,048 bytes (R182)? -/
def chainOk (f : ChainFrame) : Bool :=
  (f.hop < 8 || f.hop == 15) && f.data.length ≤ 2028 &&
    (if f.dir = 0 then 1 ≤ f.typ && f.typ ≤ 6 else 0x81 ≤ f.typ && f.typ ≤ 0x86)

/-- Ticks that a chain frame keeps its port, at 10 Gbit/s (R180, R182). -/
def chainTicks (f : ChainFrame) : Nat := divUp (16 * (20 + f.data.length)) 25

/-- Would a frame that starts at a counter value still be on its way at the launch time of the first timed frame of the port's
launch queue (R271)? -/
def State.chainHeld (s : State) (n : Nat) (f : ChainFrame) (c : Nat) : Bool :=
  match (s.lq (8 + n)).findSome? (fun g => g.at?) with
  | some t => decide (s.ctrOf t ≤ c + chainTicks f)
  | none => false

/-- Has the launch queue of a chain room for a frame that Sastrugi sends through it, SYNC or TX (R272, R273)? -/
def State.chainRoom (s : State) (n : Nat) (f : ChainFrame) : Bool := s.lqRoom (8 + n) (16 + f.data.length)

/-- A frame for a chain port, to start at a counter value. SYNC and TX go through the port's launch queue at once, and not where
it has no room (R272; log entry 45); any other frame waits behind what is held back, and is held back itself ahead of a timed
frame (R271). -/
def State.chainOut (s : State) (n : Nat) (f : ChainFrame) (c : Nat) : State :=
  if f.typ = 0x01 || f.typ = 0x02 then (if s.chainRoom n f then s.say [.chain n f] else s)
  else
    let x := s.chain n
    if !x.held.isEmpty || s.chainHeld n f c then s.setChain n { x with held := x.held ++ [f] }
    else s.say [.chain n f]

/-- What was held back on a chain port leaves, where no timed frame stands in its way any longer; an ECHO_REQ carries the time at
which it leaves (R184, R271). -/
def State.chainRelease (s : State) (n : Nat) : State :=
  let x := s.chain n
  x.held.foldl (fun s f => s.chainOut n (if f.typ = 0x04 then { f with time := s.netNs } else f) s.ctr)
    (s.setChain n { x with held := [] })

/-- A frame for a head leaves: from this module's port, or over P to the partner, where the head lies behind a wrapped
break (R192). The SEQ of the frame is this module's next. -/
def State.sendHead (s : State) (h typ time : Nat) (data : List Byte) : State :=
  let n := h / 8
  let f (hop : Nat) : ChainFrame := ⟨typ, 0, hop, data, s.sast.seq, time⟩
  let t := { s with sast := { s.sast with seq := (s.sast.seq + 1) % 65536 } }
  if s.on (SAST_HEAD.VIA_PARTNER h) then t.say [.wrap n (f ((s.chain n).span - 1 - s.hopOf h))]
  else t.chainOut n (f (s.hopOf h)) s.ctr

/-- A frame without payload for a hop, to start some ticks from now: SYNC, CAP_REQ, ECHO_REQ (R185, R188). -/
def State.sendHop (s : State) (n hop typ time wait : Nat) : State :=
  ({ s with sast := { s.sast with seq := (s.sast.seq + 1) % 65536 } }).chainOut n ⟨typ, 0, hop, [], s.sast.seq, time⟩
    (s.ctr + wait)

/-- The RF channels that a head surveys (R203): those of the band that its cell does not use, in ascending order. -/
def State.surveyPlan (s : State) (h : Nat) : List Nat :=
  let own := ((s.cellRec h).map CellRec.rf).getD []
  (List.range ((if s.on SAST_CTRL.BAND then 128 else 34) + 1)).filter (fun c => !own.contains c)

/-- The fields of a head's CONFIG (R184): band, RF channels, delay, default PHY mode, survey plan. -/
def State.confOf (s : State) (h d : Nat) : List Nat :=
  let r := s.cellRec h
  s.rd SAST_CTRL.BAND :: (((r.map CellRec.rf).getD (List.replicate 8 0)) ++ [d, (r.map CellRec.phy).getD 0]) ++
    s.surveyPlan h

/-- CONFIG goes to a head with the delay d (R184, R188, R191). -/
def State.sendConfig (s : State) (h d : Nat) : State :=
  let l := s.confOf h d
  (s.setHead h { s.head h with cfg := some d, conf := l, tuned := false }).sendHead h 0x03 0 (Config.layout 0x103 l)

/-- A head whose CONFIG no longer says what the plan and the band ask is configured anew. -/
def State.reconfig (s : State) (h : Nat) : State :=
  match (s.head h).cfg with
  | some d => if s.headLive h && s.confOf h d != (s.head h).conf then s.sendConfig h d else s
  | none => s

/-- A loaded plan takes effect, and the heads are configured for it (R184, R205). -/
def State.planActive (s : State) : State :=
  match s.sast.next with
  | none => s
  | some (p, at') =>
    if s.netNs < at' + 10000000 || s.standsBy then s
    else
      let s := { s with sast := { s.sast with plan := some p, next := none } }
      let s := ((s.wr SAST_PLAN_STAT.VERSION p.version).up SAST_PLAN_STAT.ACTIVE).down SAST_PLAN_STAT.PENDING
      let s := s.phyRegs.up SAST_EVT.PLAN_ACTIVE
      if s.holds then (List.range 64).foldl State.reconfig s else s

/-! ## Frames on air (R184, R186, R197 to R202) -/

/-- A head's transmit power in dBm (R184): what Sastrugi asks, within the head's PMAX. -/
def State.powerOf (s : State) (h : Nat) : Int := min (Config.txPower h) (((s.head h).cap.map CapDesc.pmax).getD 0)

/-- A MAC frame handed to a head for the slot that starts at a network time: its PSDU with the FCS goes as a TX frame (R184,
R186, R194, R197), unless the launch queue of its chain has no room (R272). -/
def State.tx (s : State) (h ch slotNs phy : Nat) (frame : List Byte) : State :=
  let psdu := frame ++ leBytes 4 (crc32 frame).toNat
  let pw := s.powerOf h
  let data := leBytes 1 ch ++ leBytes 1 phy ++ leBytes 1 (codeOf 8 pw) ++ [0] ++ psdu
  if !s.on (SAST_HEAD.VIA_PARTNER h) && !s.lqRoom (8 + h / 8) (16 + data.length) then s
  else
    ({ s with sast := { s.sast with
        air := s.sast.air ++ [Air.mk h ch (slotNs + 1000000) s.sast.seq psdu phy pw] } }).sendHead h 0x02
      (slotNs + 1000000) data

/-- A MAC frame of a cell with its header (R197). -/
def State.txMac (s : State) (c ch slotNs typ short : Nat) (payload : List Byte) : State :=
  let x := s.cell c
  (s.setCell c { x with seq := (x.seq + 1) % 256 }).tx c ch slotNs (((s.cellRec c).map CellRec.phy).getD 0)
    (leBytes 1 typ ++ leBytes 2 short ++ leBytes 1 x.seq ++ payload)

/-- The payload of a beacon (R199, R200). -/
def State.beacon (s : State) (c : Nat) (r : CellRec) (sec : Nat) : List Byte :=
  let com := match s.firn.commit with
    | some k => decide (k.first ≤ sec) && decide (sec < k.epoch)
    | none => false
  let abt := s.firn.aborted.find? (fun a => sec ≤ a.epoch)
  let rev := (s.cell c).revoke
  let b (x : Bool) (n : Nat) : Nat := if x then 2 ^ n else 0
  let frame := if com then s.frameNo + 1 else (abt.map Aborted.frame).getD 0
  let epoch := if com then (s.firn.commit.map Sealed.epoch).getD 0 else 0
  let (st, cnt, m) := (r.shared).getD (1, 0, 0)
  let (aslot, amask) := r.assocRun
  leBytes 4 sec ++ leBytes 2 (s.servedIndex + c * 1024) ++
  leBytes 1 (b com 0 + b abt.isSome 1 + b (s.on SAST_CTRL.ASSOC_OPEN) 2 + b rev.isSome 3
    + b (s.on SAST_CTRL.TETHER_SCAN) 4) ++
  leBytes 2 frame ++ leBytes 2 epoch ++ leBytes 2 ((rev.map Prod.fst).getD 0) ++ leBytes 1 st ++ leBytes 1 cnt ++
  leBytes 1 m ++ leBytes 1 aslot ++ leBytes 1 amask ++ leBytes 1 (r.mask 5 2) ++ leBytes 1 (r.mask 5 3) ++
  r.rf.map (fun x => BitVec.ofNat 8 x) ++ leBytes 1 r.phy ++ leBytes 2 ((rev.map (fun v => v.2.1)).getD 0) ++ [0]

/-- An entry of a SETPOINT or CATCHUP (R201). -/
def setEntry (i : Nat × LogEntry) : List Byte :=
  leBytes 1 (i.1 + (if i.2.off then 16 else 0) + (if i.2.locate then 32 else 0)) ++ [0] ++ leBytes 2 i.2.fade
    ++ leBytes 8 i.2.drives

/-- The payload of part k of a delivery, without the endpoints whose map entry has lost VALID (R54, R69, R201). -/
def setPayload (live : Nat → Bool) (o : Owed) (base k : Nat) : List Byte :=
  let es := ((o.items.drop (k * o.pc)).take o.pc).filter (fun i => live i.2.ep)
  leBytes 2 o.frame ++ leBytes 2 o.epoch ++ leBytes 2 base ++ leBytes 1 (k % 16 + (o.parts - 1) * 16)
    ++ leBytes 1 es.length ++ (es.map setEntry).flatten

/-- An entry of a SURGE (R202). -/
def surgeEntry (g : Surge) : List Byte :=
  leBytes 1 (g.index + g.reps * 16) ++ [0] ++ leBytes 2 g.hold ++ leBytes 8 g.drives

/-- The short address of a node. -/
def State.shortOf (s : State) (n : Nat) : Nat := ((s.nodeEnt n).map NodeEnt.short).getD 0xFFFE

/-! ## What Firn sends in a DOWN slot-channel (R70, R71, R485) -/

/-- The part of a delivery that may go in a superframe, with its class: 0 of a landed commit or a catch-up, 1 sent
again, 2 first sent (R70). -/
def Owed.part (o : Owed) (pc sec : Nat) : Option (Nat × Nat) :=
  let o := if o.pc = 0 then { o with pc := pc } else o
  if !o.landed && sec < o.first then none
  else
    let sentIn (k : Nat) : Option Nat := (o.sent.find? (fun p => p.1 == k)).map Prod.snd
    let due := (List.range o.parts).filter (fun k => !o.acks.contains k &&
      (match sentIn k with | some t => t + 2 ≤ sec | none => true))
    match due with
    | [] => none
    | k :: _ => some (k, if o.landed then 0 else if (sentIn k).isSome then 1 else 2)

/-- The first delivery of a node that is not acknowledged whole. -/
def State.dueOf (s : State) (n : Nat) : Option Owed := (s.owed n).find? (fun o => !o.whole)

/-- Deliveries to eligible nodes of a cell that may go now: class, node, part. -/
def State.sendable (s : State) (c pc sec : Nat) (ok : Nat → Bool) : List (Nat × Nat × Nat) :=
  s.firn.owed.filterMap (fun p =>
    if s.cellOf p.1 = some c && ok p.1 then
      match s.dueOf p.1 with
      | some o => (o.part pc sec).map (fun k => (k.2, p.1, k.1))
      | none => none
    else none)

/-- The delivery that goes first: by class, then by node. -/
def firstSend (l : List (Nat × Nat × Nat)) : Option (Nat × Nat × Nat) :=
  l.foldl (fun a x => match a with | none => some x | some y => if x.1 < y.1 then some x else a) none

/-- A part noted as sent in a superframe. -/
def State.noteSent (s : State) (n k pc sec : Nat) : State :=
  s.setOwed n ((s.owed n).map (fun o =>
    if some o = s.dueOf n then
      { o with pc := if o.pc = 0 then pc else o.pc, sent := o.sent.filter (fun (p : Nat × Nat) => p.1 != k) ++ [(k, sec)] }
    else o))

/-- The ABORT_NOTICE that is due in a cell: the aborted frame's place and the node (R75). The spec gives it no payload and no
repeat: it goes empty, and to a node that has not confirmed it again in every second superframe (DESIGN CHOICE, log entry 43). -/
def State.noticeDue (s : State) (c sec : Nat) (ok : Nat → Bool) : Option (Aborted × Nat) :=
  s.firn.aborted.findSome? (fun a =>
    if a.epoch ≤ sec then none
    else (a.nodes.find? (fun p => s.cellOf p.1 == some c && ok p.1 &&
      (match p.2 with | some t => t + 2 ≤ sec | none => true))).map (fun p => (a, p.1)))

/-- May a slot that starts now carry a surge that no slot has carried (R85, R88)? -/
def State.surgeFits (s : State) (g : Surge) : Bool :=
  g.first.isNone && g.at' + usTicks 400 ≤ s.ctr && (g.hold == 0 || s.ctr ≤ g.last)

/-- A surge after a slot has carried it: kept while repeats are to go. -/
def State.surgeSent (s : State) (gs : List Surge) (slotNs : Nat) (again : Bool) : State :=
  { s with firn := { s.firn with
      surges := s.firn.surges.filterMap (fun g =>
        if gs.contains g then
          let reps := if g.first.isNone then 0 else g.reps + 1
          if again && reps < s.rd FIRN_CTRL.SURGE_REPEAT then
            some { g with first := some (g.first.getD slotNs), reps := reps }
          else none
        else some g) } }

/-- Firn's frame passes through the setpoint downlink queue of its cell, which Sastrugi empties (R297), and then what its going
leaves; where admission refuses it, the frame is dropped, counted and marked there, and stays to be sent (R300, R301). -/
def State.viaQueue (s : State) (c n ch slotNs typ : Nat) (payload : List Byte) (gone : State → State) : State :=
  let q := 3072 + c
  let t := s.arrive q payload 0 n
  if s.admits q payload.length = .accept then
    gone (((t.setQueue q (s.queue q)).setOcc q (s.rd (SNOW_Q_OCC.OCC q))).txMac c ch slotNs typ (s.shortOf n) payload)
  else t

/-- The SURGE of a sleepy node in its wake slot (R85). -/
def State.wakeSurge (s : State) (c ch slotNs pc : Nat) (ok : Nat → Bool) : Option State :=
  match s.firn.surges.find? (fun g => s.gate 0 && s.cellOf g.node == some c && s.sleepy g.node && ok g.node &&
      s.surgeFits g) with
  | some g =>
    let gs := (s.firn.surges.filter (fun h => h.node == g.node && s.surgeFits h)).take pc
    some (s.viaQueue c g.node ch slotNs 0x03 (gs.map surgeEntry).flatten (fun t => t.surgeSent gs slotNs false))
  | none => none

/-- The ABORT_NOTICE that is due in a cell (R75). -/
def State.sendNotice (s : State) (c ch slotNs sec : Nat) (ok : Nat → Bool) : Option State :=
  match s.noticeDue c sec ok with
  | some (a, n) =>
    some (s.viaQueue c n ch slotNs 0x0A [] (fun s => { s with firn := { s.firn with
      aborted := s.firn.aborted.map (fun b =>
        if b = a then { b with nodes := b.nodes.map (fun (p : Nat × Option Nat) => if p.1 = n then (n, some sec) else p) }
        else b) } }))
  | none => none

/-- The SETPOINT or CATCHUP that goes first (R70, R71, R201). -/
def State.sendSet (s : State) (c ch slotNs sec pc : Nat) (ok : Nat → Bool) : Option State :=
  match (if s.gate 0 then firstSend (s.sendable c pc sec ok) else none) with
  | some (_, n, k) =>
    match s.dueOf n with
    | some o =>
      let o := if o.pc = 0 then { o with pc := pc } else o
      let live (e : Nat) : Bool := mapValid (s.mapEntry e)
      some (s.viaQueue c n ch slotNs (if o.catchup then 0x0C else 0x02)
        (setPayload live o (s.firstBase n (s.owed n)) k) (fun t => t.noteSent n k pc sec))
    | none => none
  | none => none

/-- The longest PSDU that a slot of a mode holds (R195). -/
def psduMax (phy : Nat) : Nat :=
  match phy with | 2 => 59 | 3 => 83 | 6 => 65 | 7 => 97 | 8 => 130 | _ => 0

/-- The payload of a DERATE for some endpoints (R96, R198). -/
def State.derateBody (s : State) (es : List Nat) : List Byte :=
  Config.layout 0x04 (es.flatMap (fun e => [mapIndex (s.mapEntry e), s.kNow e]))

/-- The DERATE of a node: endpoints that have to be told, as many as one slot-channel holds, and the K of each (R96, R195); the
node waits on while others are left. None goes without an endpoint. -/
def State.sendDerate (s : State) (c ch slotNs : Nat) (ok : Nat → Bool) : Option State :=
  let phy := ((s.cellRec c).map CellRec.phy).getD 0
  let due (n : Nat) : List Nat := (s.endpointsOf n).filter s.kDue
  let load (n : Nat) : Option (List Nat) :=
    (((List.range (due n).length).reverse).find? (fun k =>
      (s.derateBody ((due n).take (k + 1))).length + 8 ≤ psduMax phy)).map (fun k => (due n).take (k + 1))
  (s.firn.derates.findSome? (fun n =>
    if s.cellOf n == some c && ok n then (load n).map (fun es => (n, es)) else none)).map (fun p =>
    s.viaQueue c p.1 ch slotNs 0x04 (s.derateBody p.2) (fun t => { t with firn := { t.firn with
      kSent := p.2.foldl (fun m e => SMap.put (fun _ => 32768) m e (s.kNow e)) t.firn.kSent
      derates := if p.2.length = (due p.1).length then NSet.del t.firn.derates p.1 else t.firn.derates } }))

/-- Firn's message for a DOWN slot-channel, sent, where there is one (R485): a sleepy node's surge first, which belongs in
this very wake slot (R85), then notices, settings and derating. -/
def State.firnDown (s : State) (c ch slotNs sec pc : Nat) (ok : Nat → Bool) : Option State :=
  (s.wakeSurge c ch slotNs pc ok).or ((s.sendNotice c ch slotNs sec ok).or
    ((s.sendSet c ch slotNs sec pc ok).or (s.sendDerate c ch slotNs ok)))

/-! ## Management and data downlink (R485) -/

/-- The first packet of a queue for a receiver that listens, taken out, of those whose bytes a test admits, with the gap markers
ahead of it, which Sastrugi takes as it comes to them (R303, R304); no bytes come where a cell of the packet held poison, and it
is gone (R44). -/
def State.takePkt (s : State) (q : Nat) (ok : Nat → Bool) (fits : List Byte → Bool) : Option (List Byte × Nat × State) :=
  let l := s.queue q
  let gap (i : QItem) : Bool := match i with | .gap _ _ _ _ _ => true | .pkt _ _ _ _ _ => false
  let hit (i : QItem) : Bool := match i with | .pkt d _ n _ _ => ok n && fits d | .gap _ _ _ _ _ => false
  match l.find? hit with
  | some (.pkt d _ n _ p) =>
    let left := (l.takeWhile (fun i => !hit i)).filter (fun i => !gap i) ++ (l.dropWhile (fun i => !hit i)).drop 1
    let s := ((s.setQueue q left).metMark 3 p).freeCells q (cellsOf d.length)
    some (if p.bad then [] else d, n, s)
  | _ => none

/-- The message of the first class of a list that has one (R485). -/
def State.downOne (s : State) (c ch slotNs sec pc : Nat) (ok : Nat → Bool) (share : Bool) : State :=
  let phy := ((s.cellRec c).map CellRec.phy).getD 0
  let mgmt : Option State := (s.takePkt (3200 + c) ok (fun d => d.length + 4 ≤ psduMax phy)).map (fun m =>
    if m.1.isEmpty then m.2.2 else (if m.1.take 1 == [0x09] then m.2.2.setLeaver m.2.1 none else m.2.2).tx c ch slotNs phy m.1)
  let firn : Option State := s.firnDown c ch slotNs sec pc ok
  let data : Option State := (s.takePkt (3136 + c) ok (fun d => (Config.compressed d).length + 8 ≤ psduMax phy)).map
    (fun m => if m.1.isEmpty then m.2.2 else m.2.2.txMac c ch slotNs 0x0B (m.2.2.shortOf m.2.1) (Config.compressed m.1))
  let first := if share then firn else mgmt
  let second := if share then mgmt else firn
  match first, second, data with
  | some t, _, _ => t
  | none, some t, _ => t
  | none, none, some t => t
  | none, none, none => s

/-- The sleepy nodes to which a slot-channel is given as a wake slot in a superframe, those that are leaving among them
(R212). -/
def State.wakers (s : State) (c k i sec : Nat) : List Nat :=
  ((present s.sast.nodes).filter (fun p => p.2.wcode != 0 && p.2.wslot == k && p.2.wch == i &&
    sec % 2 ^ p.2.wcode == p.2.wphase && s.cellOf p.1 == some c)).map Prod.fst ++
  ((present s.sast.leaving).filter (fun p => p.2.cell == c && p.2.slot == k && p.2.ch == i &&
    sec % 2 ^ p.2.code == p.2.phase)).map Prod.fst

/-- The DOWN slot-channels of a cell in a slot (R485). -/
def State.downSlot (s : State) (c : Nat) (r : CellRec) (k slotNs sec : Nat) : State :=
  let pc := perChannel r.phy
  let share := r.downs.length * s.rd FIRN_DELTA_CFG.SHARE / 100
  let before := (r.downs.filter (fun d => d.1 < k)).length
  ((List.range 8).foldl (fun a i =>
    if r.typ k i != 4 then a
    else
      let (s, j) : State × Nat := a
      let w := s.wakers c k i sec
      let ok (n : Nat) : Bool := if w.isEmpty then !s.sleepy n else w.contains n
      (if s.heldOff c i then s else s.downOne c i slotNs sec pc ok (before + j < share), j + 1)) (s, 0)).1

/-! ## Surges in fast slots (R85, R86, R202) -/

/-- May this fast slot carry the next repeat of a surge? -/
def State.repeatFits (g : Surge) (slotNs : Nat) : Bool :=
  match g.first with
  | some f => slotNs == f + 50000000 * (g.reps + 1)
  | none => false

/-- One FAST_DL slot-channel: the surges of one node, repeats before first sends. -/
def State.fastOne (s : State) (c ch slotNs pc : Nat) : State :=
  let mine (g : Surge) : Bool := s.cellOf g.node == some c && !s.sleepy g.node
  let rep (g : Surge) : Bool := mine g && State.repeatFits g slotNs
  let new (g : Surge) : Bool := mine g && s.surgeFits g
  match (s.firn.surges.find? rep).or (s.firn.surges.find? new) with
  | none => s
  | some g =>
    let gs := ((s.firn.surges.filter (fun h => h.node == g.node && rep h)) ++
      s.firn.surges.filter (fun h => h.node == g.node && new h)).take pc
    let out := gs.map (fun h => if h.first.isNone then h else { h with reps := h.reps + 1 })
    s.viaQueue c g.node ch slotNs 0x03 (out.map surgeEntry).flatten (fun t => t.surgeSent gs slotNs true)

/-- The FAST_DL slot-channels of a cell in a fast slot. -/
def State.fastSlotTx (s : State) (c : Nat) (r : CellRec) (k slotNs : Nat) : State :=
  if !s.gate 0 then s
  else (List.range 8).foldl (fun s i =>
    if r.typ k i == 2 && !s.heldOff c i then s.fastOne c i slotNs (perChannel r.phy) else s) s

/-- Repeats whose fast slot has passed are withdrawn. -/
def State.dropRepeats (s : State) (slotNs : Nat) : State :=
  { s with firn := { s.firn with
      surges := s.firn.surges.filter (fun g => match g.first with
        | some f => decide (slotNs < f + 50000000 * (g.reps + 1))
        | none => true) } }

/-- The next slot to begin, counted from the origin of network time (R193, R259). -/
def State.nextSlot (s : State) : Nat :=
  let k := s.netNs / 5000000
  let on := s.ctr != 0 && decide (s.timeAt (s.ctr - 1) / 2 ^ 32 / 5000000 < k)
  max (max (if on then k else k + 1) (s.sast.slot + 1)) s.sast.from'

/-- Does Sastrugi send on air: EN, a plan, HOLD (R181, R224)? -/
def State.onAir (s : State) : Bool := s.on SAST_CTRL.EN && s.sast.plan.isSome && s.holds && s.rails

end Sys2Proof.Machine
end

