-- ==== Sys2Proof/Machine/Melt.lean ====
section
/-!
DEFINITION. Sys2Proof/Machine/Melt.lean: Meltwater: blocks, energies, range switching, seconds, harmonics, intervals,
pulses, signatures, reconciliation and MREAD (R225 to R253). Measured sums are kept as exact integers: a sample code
counts 1, a low-path sample XGAIN × 2^-27, and GAIN and full scale multiply as R230 says.
-/

namespace Sys2Proof.Machine

/-! ## Accessors and arithmetic -/

/-- Meltwater changed. -/
def State.onMelt (s : State) (f : Melt → Melt) : State := { s with melt := f s.melt }

/-- Does Meltwater run: ready, EN, and a mode of the introduction to the chapter? -/
def State.meltOn (s : State) : Bool :=
  s.rdy 20 && s.on MELT_CTRL.EN && (s.mode == 2 || s.mode == 3 || s.mode == 4 || s.mode == 5)

/-- The root of the largest square not above x, found bit by bit from 2^(n - 1) down. -/
def rootAux (x : Nat) : Nat → Nat → Nat
  | 0, r => r
  | n + 1, r => rootAux x n (if (r + 2 ^ n) * (r + 2 ^ n) ≤ x then r + 2 ^ n else r)

/-- The whole part of a square root. -/
def isqrt (x : Nat) : Nat := rootAux x (x.log2 / 2 + 1) 0

/-- The square root of n / d, its rounding left open (log entry 2). -/
def rootOpen (n d : Nat) : Nat :=
  let r := isqrt (n / d)
  if r * r * d = n then r else if Config.roundUp n d then r + 1 else r

/-- Two sets of sums added. -/
def PSum.add (a b : PSum) : PSum :=
  ⟨a.n + b.n, a.vv + b.vv, a.ii + b.ii, a.iiN + b.iiN, a.ll + b.ll, a.p + b.p, a.q + b.q, a.s + b.s⟩

/-- One gain of a feeder. -/
def State.gain (s : State) (f k : Nat) : Nat := s.rd (MELT_GAIN.GAIN f k)

/-- Is the phase on the low path? -/
def State.lowPath (s : State) (f ph : Nat) : Bool := bitsOf (s.rd (MELT_POD.LOW f)) ph 1 == 1

/-- The phase put on the low or the normal path, with the time of the switch (R232). -/
def State.setPath (s : State) (f ph : Nat) (low : Bool) : State :=
  if s.lowPath f ph == low then s
  else
    (s.wr ⟨MELT_POD.addr f, 2 + ph, 1⟩ (if low then 1 else 0)).onMelt (fun m =>
      { m with switched := SMap.put (fun _ => none) m.switched (4 * f + ph) (some s.ctr) })

/-- Does MCLK run (R226, R253)? -/
def State.mclk (s : State) : Bool := s.on MELT_CTRL.EN

/-- Measured sums of a phase turned into the scaled sums of the selected path (R230, R232, R234). -/
def State.scale (s : State) (f ph n : Nat) (x : PhaseSum) : PSum :=
  let v := s.rd (MELT_FS_V.FS f) * s.gain f ph
  let low := s.lowPath f ph
  let fi := s.rd (MELT_FS_I.FS f)
  let k := if low then fi * s.gain f (6 + ph) * s.rd (MELT_XCAL.XGAIN f ph) else fi * s.gain f (3 + ph) * 2 ^ 27
  { n := n,
    vv := x.vv * v ^ 2,
    ii := (if low then x.ll else x.ii) * k ^ 2,
    iiN := x.ii,
    ll := x.ll,
    p := (if low then x.vl else x.vi) * (v * k : Nat),
    q := (if low then x.hl else x.hi) * (v * k : Nat) }

/-- The apparent power of a phase: V times I. -/
def PSum.withS (a : PSum) : PSum := { a with s := isqrt (a.vv * a.ii) }

/-- The units of the scaled sums: power 2^119 × 10^12 to the watt, voltage 2^92 × 10^12 to the square volt, current
2^146 × 10^12 to the square ampere. -/
abbrev mwhUnit : Nat := 2 ^ 119 * 10 ^ 12 * 57600
abbrev uwhUnit : Nat := 2 ^ 119 * 10 ^ 9 * 57600

/-- The values of a phase or total in the units of MELT_SEC. -/
def PSum.val (a : PSum) (freq : Nat) : MVal :=
  { v := rootOpen a.vv (a.n * 2 ^ 92 * 10 ^ 6),
    i := rootOpen a.ii (a.n * 2 ^ 146 * 100),
    p := sdivOpen a.p (a.n * 2 ^ 119 * 10 ^ 11),
    q := sdivOpen a.q (a.n * 2 ^ 119 * 10 ^ 11),
    freq := freq,
    pf := if a.s = 0 then none else some (sdivOpen (a.p * 2 ^ 14) a.s) }

/-- The values of a feeder: three phases, then the total, whose voltage is the mean of the phases and whose current is
IN (R253). -/
def feederVals (ph : List PSum) (tot : PSum) (inSum freq : Nat) : List MVal :=
  let vs := ph.map (fun a => a.val freq)
  let v := divOpen (vs.foldl (fun a (x : MVal) => a + x.v) 0) 3
  vs ++ [{ tot.val freq with v := v, i := rootOpen inSum (tot.n * 2 ^ 92 * 100) }]

/-- The total of three phases: P and Q summed, S the arithmetic sum (R235). -/
def totalOf (n : Nat) (ph : List PSum) : PSum :=
  { n := n,
    p := ph.foldl (fun a x => a + x.p) 0,
    q := ph.foldl (fun a x => a + x.q) 0,
    s := ph.foldl (fun a x => a + x.s) 0 }

/-! ## Energies and pulses (R236, R243 to R245) -/

/-- What a block adds to each quantity of R236 for a phase or total. -/
def blockEnergy (a : PSum) : List (Nat × Nat) :=
  [(if 0 ≤ a.p then 0 else 1, a.p.natAbs),
   (if 0 ≤ a.q then (if 0 ≤ a.p then 2 else 3) else (if 0 ≤ a.p then 5 else 4), a.q.natAbs),
   (6, a.s)]

/-- An accumulator (R236). -/
def State.energy (s : State) (f p q : Nat) : Nat := s.rd64 (MELT_E_LO.VALUE f p q) (MELT_E_HI.VALUE f p q)

/-- An accumulator given a value modulo 2^64. -/
def State.setEnergy (s : State) (f p q v : Nat) : State :=
  s.wr64 (MELT_E_LO.VALUE f p q) (MELT_E_HI.VALUE f p q) (v % 2 ^ 64)

/-- The key of an accumulator. -/
def eKey (f p q : Nat) : Nat := (4 * f + p) * 8 + q

/-- Energy added to an accumulator; what stays below 1 mWh is carried (R236). -/
def State.addEnergy (s : State) (f p q e : Nat) : State :=
  let t := SMap.get (fun _ => 0) s.melt.frac (eKey f p q) + e
  (s.setEnergy f p q (s.energy f p q + t / mwhUnit)).onMelt (fun m =>
    { m with frac := SMap.put (fun _ => 0) m.frac (eKey f p q) (t % mwhUnit) })

/-- A pulse output. -/
def State.pulse (s : State) (n : Nat) : PulseSt := SMap.get (fun _ => {}) s.melt.pulses n
def State.setPulse (s : State) (n : Nat) (x : PulseSt) : State :=
  s.onMelt (fun m => { m with pulses := SMap.put (fun _ => {}) m.pulses n x })

/-- Is the output in use: EN, and a quantity of R243? -/
def State.pulseOn (s : State) (n : Nat) : Bool := s.on (MELT_PULSE.EN n) && decide (s.rd (MELT_PULSE.QTY n) ≤ 8)

/-- The state of output PULSEn: closed only while its gate of R18 is open. -/
def State.pulsePin (s : State) (n : Nat) : Bool := (s.pulse n).closed && s.pulseOn n && s.gate 2

/-- Does a quantity of R236 count for a QTY of R243? -/
def qtyTakes (qty q : Nat) : Bool :=
  if qty = 7 then q == 2 || q == 3 else if qty = 8 then q == 4 || q == 5 else q == qty

/-- What the accumulator of an output holds at a counter value: each block's energy spreads evenly over 200 ms (R243). -/
def PulseSt.level (x : PulseSt) (c : Nat) : Int :=
  x.flows.foldl (fun a p => a + (p.1 * min (c - p.2) (msTicks 200) / msTicks 200 : Nat)) x.acc

/-- What it holds once all that spreads is in. -/
def PulseSt.total (x : PulseSt) : Int := x.flows.foldl (fun a p => a + p.1) x.acc

/-- The least number from a on, below a + 2^n, of which a test holds that goes on holding; a + 2^n where there is none. -/
def firstFrom (p : Nat → Bool) (a : Nat) : Nat → Nat
  | 0 => if p a then a else a + 1
  | n + 1 => if p (a + 2 ^ n - 1) then firstFrom p a n else firstFrom p (a + 2 ^ n) n

/-- The first counter value from c on at which the accumulator holds k. -/
def PulseSt.due (x : PulseSt) (k : Int) (c : Nat) : Nat := firstFrom (fun t => decide (k ≤ x.level t)) c 28

/-- An accumulator that would exceed 65,535 × K is held there (R244). -/
def State.pulseHold (s : State) (n : Nat) : State :=
  let x := s.pulse n
  let most : Int := 65535 * (s.rd (MELT_PULSE_K.K n) * uwhUnit : Nat)
  if s.pulseOn n && decide (most < x.level s.ctr) then
    ((s.setPulse n { x with acc := x.acc - (x.level s.ctr - most) }).up (MELT_PULSE.OVF n)).up MELT_EVT.PULSE_OVF
  else s

/-- Every output whose accumulator would exceed its limit by now is held there. -/
def State.pulseHolds (s : State) : State := (s.melt.pulses.map (·.1)).foldl State.pulseHold s

/-- The energy of a finished block begins to spread into an output; what has spread for 200 ms is all in (R243, R244). -/
def State.feedPulse (s : State) (n e : Nat) : State :=
  let s := s.pulseHold n
  let x := s.pulse n
  let over' (p : Nat × Nat) : Bool := decide (p.2 + msTicks 200 ≤ s.ctr)
  s.setPulse n { x with
    acc := (x.flows.filter over').foldl (fun a p => a + p.1) x.acc
    flows := x.flows.filter (fun p => !over' p) ++ [(e, s.ctr)] }

/-- PULSE_EMIT: the accumulator reaches K (R243 to R245). -/
def State.pulseEmit (s : State) (n : Nat) : State :=
  let x := s.pulse n
  let k := s.rd (MELT_PULSE_K.K n) * uwhUnit
  if !s.meltOn || 16 ≤ n || !s.pulseOn n || x.total < k then s
  else
    let s := (s.reachCtr (max x.next (x.due k ((x.flows.head?.map Prod.snd).getD 0)))).pulseHold n
    let w := msTicks (s.rd (MELT_PULSE.WIDTH n))
    let y := s.pulse n
    let x := { y with acc := y.acc - k, next := s.ctr + 2 * w }
    s.setPulse n (if s.gate 2 then { x with closed := true, stop := s.ctr + w } else x)

/-- PULSE_END: the pulse has lasted WIDTH ms (R244). -/
def State.pulseEnd (s : State) (n : Nat) : State :=
  let x := s.pulse n
  if !x.closed then s else (s.reachCtr x.stop).setPulse n { x with closed := false }

/-! ## Blocks (R228 to R239) -/

/-- Is a feeder metered: present from the block's begin, and both full scales given? -/
def State.metered (s : State) (f : Nat) : Bool :=
  s.melt.live.contains f && s.on (MELT_POD.PRESENT f) && s.on (MELT_FS_V.FS f) && s.on (MELT_FS_I.FS f)

/-- The frequency of a feeder (R238): V1, or V2 and then V3 while a voltage is below 10 % of FS_V. -/
def State.freqOf (s : State) (f : Nat) (ph : List PSum) : Nat :=
  let fs := s.rd (MELT_FS_V.FS f)
  let low (k : Nat) : Bool := match ph[k]? with
    | some x => x.vv * 100 < x.n * 2 ^ 92 * fs ^ 2
    | none => true
  let r := match [0, 1, 2].find? (fun k => !low k) with
    | some k => Config.freqMeas (SMap.get (fun _ => []) s.melt.volts (4 * f + k))
    | none => 0
  let (lo, hi) := if s.on MELT_CTRL.NOMF then (51000, 69000) else (42500, 57500)
  if r < lo || hi < r then 0 else r

/-- Range switching of a phase at a block end (R232): p² is twice the mean square of the normal path. -/
def State.rangeSwitch (s : State) (f ph n : Nat) (ii : Nat) : State :=
  let x := 2 * ii * s.gain f (3 + ph) ^ 2
  let free := match SMap.get (fun _ => none) s.melt.switched (4 * f + ph) with
    | some c => decide (c + msTicks 200 ≤ s.ctr)
    | none => true
  if !free then s
  else if s.lowPath f ph then (if n * 2 ^ 92 < x * 400 then s.setPath f ph false else s)
  else if x * 1024 < n * 2 ^ 92 && !s.on (MELT_XCAL.FAULT f ph) then s.setPath f ph true
  else s

/-- Is p within the band of R234 over the block? -/
def State.inBand (s : State) (f ph n ii : Nat) : Bool :=
  let x := 2 * ii * s.gain f (3 + ph) ^ 2
  decide (n * 2 ^ 92 ≤ x * 4096) && decide (x * 400 ≤ n * 2 ^ 92)

/-- What a pod has sent over a stretch of time (R226, R228 to R230, R235, R240): words with a parity error are replaced and
counted, and the samples of a metered feeder join the sums of its block and the harmonic windows in progress, each with the
path that its phase has then. -/
def State.takeWords (s : State) (b : PodWords) : State :=
  let f := b.feeder
  if 16 ≤ f || !s.on (MELT_POD.PRESENT f) then s
  else
    let old := lastWords (SMap.get (fun _ => []) s.melt.hist f)
    let kept := SMap.get (fun _ => []) s.melt.carry f
    let all := kept ++ mendWords ((old ++ kept).getLastD 1) b.words
    let n := all.length / 625
    let good := all.take (625 * n)
    let one (k : Nat) : Int × List Int :=
      samplesOf old good k (signedOf 8 (s.rd (MELT_GAIN.PHASE f k))) (SMap.get (fun _ => 0) s.melt.hp (10 * f + k))
    let s := (s.count (MELT_POD.PERR f) (badWords b.words)).bit (MELT_POD.PORT_B f) b.portB
    let run := s.metered f
    let s := s.onMelt (fun m =>
      { m with
        hist := SMap.put (fun _ => []) m.hist f (lastWords (old ++ good))
        carry := SMap.put (fun _ => []) m.carry f (all.drop (625 * n))
        hp := (List.range 10).foldl (fun a k => SMap.put (fun _ => 0) a (10 * f + k) (one k).1) m.hp })
    if !run then s
    else
      let before (k : Nat) : List Int :=
        SMap.get (fun _ => []) s.melt.voltsOld (4 * f + k) ++ SMap.get (fun _ => []) s.melt.volts (4 * f + k)
      let sums (k : Nat) : PSum := s.scale f k n (phaseSum (before k) (one k).2 (one (3 + k)).2 (one (6 + k)).2)
      let nn : PSum := { n := n, ii := (dot (one 9).2 (one 9).2).toNat * (s.rd (MELT_FS_I.FS f) * s.gain f 9) ^ 2 }
      let seen (sig : Nat) : List WinSample :=
        if sig < 3 then (one sig).2.map (fun x => ⟨x, 0, false⟩)
        else ((one sig).2.zip (one (3 + sig)).2).map (fun p => ⟨p.1, p.2, s.lowPath f (sig - 3)⟩)
      s.onMelt (fun m =>
        { m with
          part := (List.range 3).foldl (fun a k =>
            SMap.put (fun _ => {}) a (4 * f + k) ((SMap.get (fun _ => {}) a (4 * f + k)).add (sums k))) m.part
          partIn := SMap.put (fun _ => {}) m.partIn f ((SMap.get (fun _ => {}) m.partIn f).add nn)
          volts := (List.range 3).foldl (fun a k =>
            SMap.put (fun _ => []) a (4 * f + k) (SMap.get (fun _ => []) a (4 * f + k) ++ (one k).2)) m.volts
          win := (List.range 6).foldl (fun a g =>
            SMap.put (fun _ => []) a (8 * f + g) (SMap.get (fun _ => []) a (8 * f + g) ++ seen g)) m.win })

/-- LOW_PATH_OVERLOAD: the phase goes to the normal path at once (R233); the samples before it count for the low path. -/
def State.overload (s : State) (ph : Nat) (b : PodWords) : State :=
  let f := b.feeder
  if !s.meltOn || 16 ≤ f || 3 ≤ ph || !s.lowPath f ph then s
  else ((s.takeWords b).onMelt (fun m => { m with disq := m.disq.add (4 * f + ph) })).setPath f ph false

/-- The block of one feeder: energies, values, frequency, pulses, and the second's sums. -/
def State.feederBlock (s : State) (f : Nat) : State :=
  let ph := (List.range 3).map (fun k => (SMap.get (fun _ => {}) s.melt.part (4 * f + k)).withS)
  let n := match ph with | a :: _ => a.n | [] => 0
  if !s.metered f || n = 0 then s
  else
    let tot := totalOf n ph
    let four := ph ++ [tot]
    let inSum := (SMap.get (fun _ => {}) s.melt.partIn f).ii
    let fr := s.freqOf f ph
    let s := (List.range 4).foldl (fun s p =>
      (blockEnergy (four.getD p {})).foldl (fun s (e : Nat × Nat) => s.addEnergy f p e.1 e.2) s) s
    let vals := feederVals ph tot inSum fr
    let s := (s.wr (MELT_FREQ.FREQ f) fr).onMelt (fun m =>
      { m with
        block := (List.range 4).foldl (fun a p => SMap.put (fun _ => {}) a (4 * f + p) (vals.getD p {})) m.block
        secSum := (List.range 4).foldl (fun a p =>
          SMap.put (fun _ => {}) a (4 * f + p) ((SMap.get (fun _ => {}) a (4 * f + p)).add (four.getD p {}))) m.secSum
        secIn := SMap.put (fun _ => {}) m.secIn f ((SMap.get (fun _ => {}) m.secIn f).add { n := n, ii := inSum })
        disq := (List.range 3).foldl (fun a k =>
          if s.inBand f k n (four.getD k {}).iiN then a else a.add (4 * f + k)) m.disq })
    let s := (List.range 3).foldl (fun s k => s.rangeSwitch f k n (four.getD k {}).iiN) s
    (List.range 16).foldl (fun s k =>
      if s.pulseOn k && s.rd (MELT_PULSE.FEEDER k) == f then
        s.feedPulse k ((blockEnergy (four.getD (s.rd (MELT_PULSE.PHASE k)) {})).foldl
          (fun a (e : Nat × Nat) => if qtyTakes (s.rd (MELT_PULSE.QTY k)) e.1 then a + e.2 else a) 0)
      else s) s

/-- 200 ms in ns. -/
abbrev blockNs : Nat := 200000000

/-- The second in progress has ended at a network time in ns: its sums wait for the latch. -/
def State.secondEnds (s : State) (ns : Nat) : State :=
  s.onMelt (fun m =>
    { m with
      secDone := some (ns, m.secSum, m.secIn)
      disqDone := m.disq
      secSum := []
      secIn := []
      disq := [] })

/-! ## Intervals (R241, R242) -/

/-- Is a number of minutes allowed? -/
def minutesOk (n : Nat) : Bool := [1, 2, 3, 4, 5, 6, 10, 12, 15, 20, 30, 60].contains n

/-- The total accumulators, by 8 × feeder + quantity. -/
def State.totals (s : State) : SMap Nat :=
  (List.range 16).foldl (fun a f =>
    (List.range 7).foldl (fun a q => SMap.put (fun _ => 0) a (8 * f + q) (s.energy f 3 q)) a) []

/-- An INTERVAL written takes effect once its whole hour has come (R241). -/
def State.minutesDue (s : State) (ns : Nat) : State :=
  match s.melt.minutesNext with
  | some (n, sec) =>
    if sec * 1000000000 ≤ ns then s.onMelt (fun m => { m with minutes := n, minutesNext := none }) else s
  | none => s

/-- An interval begins at a network time in ns. -/
def State.beginInterval (s : State) (ns : Nat) : State :=
  let sec := ns / 1000000000
  (s.minutesDue ns).onMelt (fun m =>
    { m with
      intStart := some sec
      intFrom := ns
      intBase := s.totals
      lost := []
      absent := (List.range 16).filter (fun f => !s.on (MELT_POD.PRESENT f)) })

/-- The interval that began at a second is latched at another one, having lasted some ns. -/
def State.latchInterval (s : State) (start stop lasted : Nat) (short : Bool) : State :=
  let t := s.totals
  let diff (k : Nat) : Nat :=
    (SMap.get (fun _ => 0) t k + 2 ^ 64 - SMap.get (fun _ => 0) s.melt.intBase k) % 2 ^ 64
  let e := (List.range 128).foldl (fun a k => SMap.put (fun _ => 0) a k (diff k)) ([] : SMap Nat)
  let bits := s.melt.lost.foldl (fun a f => a + 2 ^ f) 0
  let s := s.onMelt (fun m =>
    { m with
      prev := m.last
      last := ⟨start, stop, lasted, m.minutes, short, bits, m.absent, e⟩
      recon := true })
  let s := (List.range 128).foldl (fun s k =>
    if k % 8 = 7 then s
    else s.wr64 (MELT_INT_LO.VALUE (k / 8) (k % 8)) (MELT_INT_HI.VALUE (k / 8) (k % 8)) (diff k)) s
  ((s.wr64 MELT_INT_START_LO.S_LO MELT_INT_START_HI.S_HI start).bit MELT_INT_FLAGS.SHORT short).wr
    MELT_INT_FLAGS.INCOMPLETE bits

/-- INTERVAL_CLOSE: at the next whole interval of network time (R241, R242). An interval that a step has cut closes with its
last block. -/
def State.intervalClose (s : State) : State :=
  if !s.meltOn || !s.melt.cuts.isEmpty then s
  else
    let s := if s.melt.intStart.isSome then s else s.minutesDue s.netNs
    let len := 60 * s.melt.minutes
    let e := ((match s.melt.intStart with | some b => b | none => s.netSec) / len + 1) * len
    let s := s.reachNs (e * 1000000000)
    let had := s.melt.intStart.isSome
    let s := match s.melt.intStart with
      | some b => s.latchInterval b e (e * 1000000000 - s.melt.intFrom) false
      | none => s
    let s := s.beginInterval (e * 1000000000)
    if had then (s.reachNs (e * 1000000000 + 2000000)).up MELT_EVT.INTERVAL else s

/-- The interval in progress closes where a step has cut it: at the network time in ns that the step left it has lasted until
then, and the next one begins at the time to which the step came (R239). Its event comes with the latch of the cut second,
2 ms later. -/
def State.cutInterval (s : State) (left new : Nat) : State :=
  match s.melt.intStart with
  | some b => ((s.latchInterval b (new / 1000000000) (left - s.melt.intFrom) true).onMelt (fun m =>
      { m with intTold := false })).beginInterval new
  | none => s

/-! ## The end of a block, and steps -/

/-- BLOCK_END (R235, R236, R239): a block ends at the next 200 ms of network time, or where a step has cut it; its last sample
comes 612.3 µs after that, by the delay that its stamp has removed (R229). -/
def State.blockEnds (s : State) (meas : List PodWords) : State :=
  if !s.meltOn then s
  else
    let cut := s.melt.cuts.head?
    let e := match cut with | some c => c.2 | none => (s.melt.blockFrom / blockNs + 1) * blockNs
    let s := s.reachNs (e + chainDelay)
    let s := meas.foldl State.takeWords s
    let s := (List.range 16).foldl State.feederBlock s
    let s := s.melt.presets.foldl (fun s (p : Nat × Nat) => s.setEnergy (p.1 / 32) (p.1 / 8 % 4) (p.1 % 8) p.2) s
    let s := s.onMelt (fun m =>
      { m with
        blockFrom := e
        blockEnd := e
        cuts := m.cuts.drop 1
        part := []
        partIn := []
        volts := []
        voltsOld := m.volts
        presets := []
        live := (List.range 16).filter (fun f => s.on (MELT_POD.PRESENT f)) })
    let s := if cut.isSome || e % 1000000000 = 0 then s.secondEnds e else s
    match cut with
    | some (left, new) => s.cutInterval left new
    | none => s

/-- A step of network time reaches Meltwater (R239): the block in progress ends with the samples up to the step, which come
with the next BLOCK_END; the second and the interval in progress close with it. -/
def State.meltStep (s : State) (left : Nat) : State :=
  if !s.meltOn then s else s.onMelt (fun m => { m with cuts := m.cuts ++ [(left, s.netNs)] })

/-- The cross-calibration of a phase over a second that qualifies (R234). -/
def State.xcal (s : State) (f ph : Nat) (a : PSum) : State :=
  if s.melt.disqDone.contains (4 * f + ph) || s.on (MELT_XCAL.FAULT f ph) || a.ll = 0 || a.n = 0 ||
      s.gain f (6 + ph) = 0 then s
  else
    let ratio := rootOpen (a.iiN * s.gain f (3 + ph) ^ 2 * 2 ^ 54) (a.ll * s.gain f (6 + ph) ^ 2)
    let x := s.rd (MELT_XCAL.XGAIN f ph)
    let y := ((x : Int) + sdivOpen ((ratio : Int) - x) 64).toNat
    let s := s.wr (MELT_XCAL.XGAIN f ph) y
    if 2 ^ 23 < ((y : Int) - 2 ^ 23).natAbs * 200 then
      ((s.up (MELT_XCAL.FAULT f ph)).up MELT_EVT.XCAL_FAULT).setPath f ph false
    else s

/-- SECOND_LATCH (R237): 2 ms after the end of a second its values are latched. -/
def State.secondLatch (s : State) : State :=
  match s.melt.secDone with
  | none => s
  | some (e, sums, ins) =>
    if !s.meltOn then s
    else
      let s := s.reachNs (e + 2000000)
      let s := (List.range 16).foldl (fun s f =>
        let get (p : Nat) : PSum := SMap.get (fun _ => {}) sums (4 * f + p)
        if (get 3).n = 0 then s
        else
          let ph := (List.range 3).map (fun p => (get p).withS)
          let tot := { get 3 with s := ph.foldl (fun a (x : PSum) => a + x.s) 0 }
          let vals := feederVals ph tot (SMap.get (fun _ => {}) ins f).ii (s.rd (MELT_FREQ.FREQ f))
          let s := (List.range 3).foldl (fun s k => s.xcal f k (get k)) s
          (List.range 4).foldl (fun s p =>
            let x := vals.getD p {}
            ((((s.wr (MELT_SEC0.VRMS f p) x.v).wr (MELT_SEC1.IRMS f p) x.i).wr
              (MELT_SEC2.P f p) (codeOf 32 x.p)).wr (MELT_SEC3.Q f p) (codeOf 32 x.q)).onMelt (fun m =>
                { m with sec := SMap.put (fun _ => {}) m.sec (4 * f + p) x })) s) s
      let s := (s.onMelt (fun m => { m with secDone := none })).up MELT_EVT.SECOND
      if s.melt.intTold then s else (s.onMelt (fun m => { m with intTold := true })).up MELT_EVT.INTERVAL

/-! ## Pods (R228, R231) -/

/-- POD_LOST: the pod is absent, and the interval in progress INCOMPLETE. The parity errors in the words that have come since
those of the last stretch count. -/
def State.podLost (s : State) (f : Nat) (words : List Nat) : State :=
  if 16 ≤ f || !s.meltOn || !s.on (MELT_POD.PRESENT f) then s
  else
    let s := s.count (MELT_POD.PERR f) (badWords words)
    ((s.down (MELT_POD.PRESENT f)).up MELT_EVT.POD_LOST).onMelt (fun m =>
      { m with
        live := m.live.del f
        lost := m.lost.add f
        absent := m.absent.add f
        win := m.win.filter (fun p => p.1 / 8 != f) })

/-- POD_FOUND: alignment, regained, has held for 100 ms on the lane whose bits are given: its words with a parity error count
too, the pod is present, and its feeder accumulates from the next block on. -/
def State.podFound (s : State) (f : Nat) (portB : Bool) (lane : List Bool) : State :=
  if 16 ≤ f || !s.meltOn || s.on (MELT_POD.PRESENT f) then s
  else match alignOf lane with
    | none => s
    | some o =>
      let ws := laneWords lane o
      let s := s.count (MELT_POD.PERR f) (badWords ws)
      (((s.up (MELT_POD.PRESENT f)).bit (MELT_POD.PORT_B f) portB).up MELT_EVT.POD_FOUND).onMelt (fun m =>
        { m with
          seen := m.seen.add f
          hist := SMap.put (fun _ => []) m.hist f (mendWords 1 ws)
          carry := SMap.put (fun _ => []) m.carry f [] })

/-- CLIP (R231). -/
def State.clipped (s : State) (f : Nat) : State :=
  if 16 ≤ f || !s.meltOn || !s.on (MELT_POD.PRESENT f) then s else (s.up (MELT_POD.CLIP f)).up MELT_EVT.CLIP

/-! ## Harmonics (R240) -/

/-- Twice the square of G_n, from the squares of the lines of a window. -/
def groupSq (mode big : Nat) (sq : Nat → Nat) (n : Nat) : Nat :=
  let m := big * n
  if mode = 1 then 2 * (sq (m - 1) + sq m + sq (m + 1))
  else if mode = 2 then 2 * sq m
  else
    sq (m - big / 2) + sq (m + big / 2)
      + 2 * (List.range (big - 1)).foldl (fun a i => a + sq (m - big / 2 + 1 + i)) 0

/-- How many samples a window of 10 or 12 cycles spans: of the measured frequency, or of the nominal one (R238, R240). -/
def State.windowLen (s : State) (f : Nat) : Nat :=
  let fr := s.rd (MELT_FREQ.FREQ f)
  let c := if s.on MELT_CTRL.NOMF then 192000000 else 160000000
  divOpen c (if fr = 0 then (if s.on MELT_CTRL.NOMF then 60000 else 50000) else fr)

/-- The composite stream of a signal: 2^-46 µV to the unit for a voltage, 2^-73 µA for a current (R230, R240). -/
def State.composite (s : State) (f sig : Nat) (x : WinSample) : Int :=
  if sig < 3 then x.normal * (s.rd (MELT_FS_V.FS f) * s.gain f sig : Nat)
  else if x.useLow then
    x.low * (s.rd (MELT_FS_I.FS f) * s.gain f (3 + sig) * s.rd (MELT_XCAL.XGAIN f (sig - 3)) : Nat)
  else x.normal * (s.rd (MELT_FS_I.FS f) * s.gain f sig * 2 ^ 27 : Nat)

/-- HARMONIC_WINDOW: a window of a signal ends with the words given, and the next begins at its end. -/
def State.harmonics (s : State) (f sig : Nat) (words : List Nat) : State :=
  if 16 ≤ f || 6 ≤ sig || !s.meltOn || !s.metered f then s
  else
    let s := s.takeWords ⟨f, words, s.on (MELT_POD.PORT_B f)⟩
    let all := SMap.get (fun _ => []) s.melt.win (8 * f + sig)
    let n := s.windowLen f
    if all.length < n then s
    else
      let big := if s.on MELT_CTRL.NOMF then 12 else 10
      let y := (all.take n).map (s.composite f sig)
      let g := (List.range 63).map (fun k => groupSq (s.rd MELT_CTRL.HARM_MODE) big (lineSq y) (k + 1))
      s.onMelt (fun m =>
        { m with
          win := SMap.put (fun _ => []) m.win (8 * f + sig) (all.drop n)
          harm := SMap.put (fun _ => {}) m.harm (8 * f + sig)
            ⟨g, (SMap.get (fun _ => {}) m.harm (8 * f + sig)).count + 1⟩ })

/-- The unit of the squares that a signal's harmonics keep, to the square of 10 µV or 10 µA: a line's RMS value is √2 / 2,048
of its sum, whose twiddles count 2^60 and whose samples 2^46 or 2^73. -/
def harmUnit (sig : Nat) : Nat := (if sig < 3 then 2 ^ 233 else 2 ^ 287) * 100

/-! ## Signatures (R246) -/

/-- A capture of a feeder starts, or its settling starts again. -/
def State.capture (s : State) (f : Nat) : State :=
  s.onMelt (fun m =>
    { m with
      settle := SMap.put (fun _ => none) m.settle f (some (s.ctr + msTicks (1000 * s.rd (MELT_SIG1.SETTLE f)))) })

/-- Contactor n has closed: the feeders that name it start a capture. -/
def State.ctrClosed (s : State) (n : Nat) : State :=
  if !s.meltOn then s
  else (List.range 16).foldl (fun s f => if s.rd (MELT_SIG1.CTR f) == n then s.capture f else s) s

/-- A change of the state that may close contactors: every closing starts its captures. -/
def State.watchCtr (s : State) (f : State → State) : State :=
  (List.range 4).foldl (fun a n => if !s.ctrDrive n && a.ctrDrive n then a.ctrClosed n else a) (f s)

/-- The lamps estimated from a feeder's total P in 0.1 W, P_BASE in W and P_LAMP in 0.01 W. -/
def lampEst (p : Int) (base lamp : Nat) : Nat :=
  (((2 * (10 * p - 100 * base) + lamp) / (2 * lamp : Nat) : Int)).toNat

/-- SIG_SETTLE_END: the estimate is made from the second just latched. -/
def State.sigSettleEnd (s : State) (f : Nat) : State :=
  match SMap.get (fun _ => none) s.melt.settle f with
  | none => s
  | some c =>
    if 16 ≤ f || !s.meltOn then s
    else
      let s := (s.reachCtr c).onMelt (fun m => { m with settle := SMap.put (fun _ => none) m.settle f none })
      let lamp := s.rd (MELT_SIG0.P_LAMP f)
      if !s.on (MELT_POD.PRESENT f) || lamp = 0 then s.down (MELT_SIG2.VALID f)
      else
        let est := lampEst (signedOf 32 (s.rd (MELT_SEC2.P f 3))) (s.rd (MELT_SIG0.P_BASE f)) lamp
        let (est, s) := if est < 2 ^ 20 then (est, s) else (s.draw.1 % 2 ^ 20, s.draw.2)
        let want := s.rd (MELT_SIG1.EXPECTED f)
        let s := (s.wr (MELT_SIG2.EST f) est).wr (MELT_SIG3.FAILED f) (if want = 0xFFFFF then 0 else want - est)
        ((s.up (MELT_SIG2.VALID f)).up MELT_EVT.SIG_DONE).onMelt (fun m =>
          { m with sigAt := SMap.put (fun _ => 0) m.sigAt f s.netSec })

/-! ## Reconciliation (R247 to R249) -/

/-- The region of R247, and whether it lies wholly in DRAM. -/
def State.meltBase (s : State) : Nat := s.rd MELT_REGION_LO.BASE_LO * 2 ^ 23 + s.rd MELT_REGION_HI.BASE_HI * 2 ^ 32

/-- The nodes with a byte listed in either table: every other entry is all 0, and 0 shares nothing. -/
def State.reconNodes (s : State) : NSet :=
  let b := s.meltBase
  s.mem.dram.foldl (fun a (c : Nat × Byte) =>
    if b ≤ c.1 && c.1 < b + 2 ^ 23 then a.add ((c.1 - b) % 2 ^ 22 / 16) else a) []

/-- A report entry: counter and feeder; none where a word of it is poisoned. -/
def State.reportOf (s : State) (n : Nat) : Option (Nat × Nat) :=
  match s.dmaRead (s.meltBase + 16 * n) 16 with
  | some bs => some (ofLe (bs.take 8), ofLe ((bs.drop 12).take 1))
  | none => none

/-- A virtual meter entry: virtual energy and BASE. -/
def State.virtOf (s : State) (n : Nat) : Option (Nat × Nat) :=
  match s.dmaRead (s.meltBase + 2 ^ 22 + 16 * n) 16 with
  | some bs => some (ofLe (bs.take 8), ofLe ((bs.drop 8).take 8))
  | none => none

/-- A virtual meter entry written. -/
def State.setVirt (s : State) (n virt base : Nat) : State :=
  (s.dmaWrite (s.meltBase + 2 ^ 22 + 16 * n) (leBytes 8 virt ++ leBytes 8 base)).2

/-- One alarm of R249: its bit, its count, whether its trip and its release hold. -/
def State.alarm (s : State) (f k : Nat) (bit : Fld) (trip rel : Bool) : State :=
  let c := SMap.get (fun _ => 0) s.melt.counts (2 * f + k)
  let put (s : State) (n : Nat) : State := s.onMelt (fun m => { m with counts := SMap.put (fun _ => 0) m.counts (2 * f + k) n })
  if (if s.on bit then rel else trip) then
    if s.rd (MELT_RECON2.DWELL f) ≤ c + 1 then ((put s 0).bit bit (!s.on bit)).up MELT_EVT.ALARM else put s (c + 1)
  else put s 0

/-- The reconciliation of one feeder (R248, R249). -/
def State.reconFeeder (s : State) (nodes : NSet) (f : Nat) : State :=
  let iv := s.melt.last
  if iv.absent.contains f || bitsOf iv.incomplete f 1 = 1 then s
  else
    let get (q : Nat) : Nat := SMap.get (fun _ => 0) iv.e (8 * f + q)
    let e : Int := (get 0 : Int) - get 1
    let mine := nodes.filterMap (fun n => match s.reportOf n, s.virtOf n with
      | some (c, g), some (v, b) => if g = f then some (n, c, v, if b ≤ c then c - b else 0) else none
      | _, _ => none)
    let r := mine.foldl (fun a (x : Nat × Nat × Nat × Nat) => a + x.2.2.2) 0
    let l : Int := e - r
    let allow := s.rd (MELT_RECON0.ALLOW f)
    let a : Int := e * allow / 10000 + (s.rd (MELT_RECON0.FIXED f) * iv.lasted / 3600000000 : Nat)
    let x : Int := if l ≤ 0 || r = 0 then 0 else if s.on MELT_CTRL.ALLOC_MODE then min a l else l
    let inc (d : Nat) : Int := d + x * d / r
    let s := mine.foldl (fun s (y : Nat × Nat × Nat × Nat) =>
      s.setVirt y.1 (((y.2.2.1 : Int) + inc y.2.2.2) % 2 ^ 64).toNat y.2.1) s
    let sum := mine.foldl (fun t (y : Nat × Nat × Nat × Nat) => t + inc y.2.2.2) (0 : Int)
    let old := signedOf 64 (s.rd64 (MELT_RESID_LO.VALUE f) (MELT_RESID_HI.VALUE f))
    let s := s.wr64 (MELT_RESID_LO.VALUE f) (MELT_RESID_HI.VALUE f) (codeOf 64 (old + (e - sum)))
    let s := s.wr64 (MELT_REP_LO.VALUE f) (MELT_REP_HI.VALUE f) (r % 2 ^ 64)
    if e ≤ 0 then s
    else
      let u := l - a
      let pct := u * 10000 / e
      let pct := if pct < -32768 then -32768 else if 32767 < pct then 32767 else pct
      let trip : Int := s.rd (MELT_RECON1.TRIP f)
      let rel : Int := s.rd (MELT_RECON1.RELEASE f)
      let floor : Int := s.rd (MELT_RECON2.MIN_WH f) * 1000
      let s := s.wr (MELT_RECON_STAT.UPCT f) (codeOf 16 pct)
      let s := s.alarm f 0 (MELT_RECON_STAT.UNACC f) (decide (trip ≤ pct) && decide (floor ≤ u)) (decide (pct < rel))
      let s := s.alarm f 1 (MELT_RECON_STAT.NEG f) (decide (pct ≤ -trip) && decide (floor ≤ -u)) (decide (-rel < pct))
      s.wr (MELT_RECON_STAT.COUNT f)
        (max (SMap.get (fun _ => 0) s.melt.counts (2 * f)) (SMap.get (fun _ => 0) s.melt.counts (2 * f + 1)))

/-- RECONCILE: 2 s after the close of an interval. -/
def State.reconcile (s : State) : State :=
  if !s.meltOn || !s.on MELT_CTRL.RECON_EN || !s.melt.recon then s
  else
    let s := s.reachNs ((s.melt.last.stop + 2) * 1000000000)
    let nodes := s.reconNodes
    let s := (s.dmaMet s.meltBase (2 ^ 23)).dramUe s.meltBase (2 ^ 23)
    let s := (List.range 16).foldl (fun s f => s.reconFeeder nodes f) s
    (s.onMelt (fun m => { m with recon := false })).up MELT_EVT.RECON_DONE

/-! ## Registers and commands (R253) -/

/-- A write of MELT_CTRL (R241, R247): a wrong INTERVAL leaves it, RECON_EN 1 needs a region wholly in DRAM. -/
def State.meltCtrlWrite (s : State) (v : Word) : State :=
  let x := v.toNat
  let min := bitsOf x 8 6
  let badMin := !minutesOk min
  let badRegion := bitsOf x 4 1 == 1 && decide (2 ^ 36 < s.meltBase + 2 ^ 23)
  let was := s.on MELT_CTRL.EN
  let s := s.minutesDue s.netNs
  let s := (((s.wr MELT_CTRL.EN x).wr MELT_CTRL.NOMF (x / 2)).wr MELT_CTRL.HARM_MODE (x / 4)).wr
    MELT_CTRL.ALLOC_MODE (x / 32)
  let s := if badRegion then s.down MELT_CTRL.RECON_EN else s.wr MELT_CTRL.RECON_EN (x / 16)
  let s := if badMin || min = s.rd MELT_CTRL.INTERVAL then s
    else (s.wr MELT_CTRL.INTERVAL min).onMelt (fun m =>
      { m with minutesNext := some (min, (s.netSec / 3600 + 1) * 3600) })
  let s := if badMin || badRegion then s.up MELT_EVT.CFG_ERR else s
  if !was && s.on MELT_CTRL.EN then
    s.onMelt (fun m =>
      { m with
        blockFrom := s.netNs
        cuts := []
        intStart := none
        secSum := []
        secIn := []
        part := []
        partIn := []
        volts := []
        voltsOld := []
        win := [] })
  else s

/-- A command of the MELT interface ends. -/
def State.meltDone (s : State) (cc : Nat) : State := s.done MELT_STAT.addr MELT_EVT.CMD_DONE cc

/-- SIG_CAPTURE (R246). -/
def State.sigCapture (s : State) : State :=
  let f := s.rd MELT_KEY.VALUE % 16
  if !s.on (MELT_POD.PRESENT f) then s.meltDone ccNotFound else (s.capture f).meltDone ccOk

/-- ENERGY_PRESET (R236). -/
def State.energyPreset (s : State) : State :=
  let k := s.rd MELT_KEY.VALUE
  let q := bitsOf k 6 3
  if q = 7 then s.meltDone ccRange
  else
    let v := s.rd64 MELT_DATA0.VALUE MELT_DATA1.VALUE
    (s.onMelt (fun m => { m with presets := m.presets ++ [(eKey (k % 16) (bitsOf k 4 2) q, v)] })).meltDone ccOk

/-- XCAL_RESET (R234). -/
def State.xcalReset (s : State) : State :=
  let f := s.rd MELT_KEY.VALUE % 16
  ((List.range 3).foldl (fun s ph => (s.wr (MELT_XCAL.XGAIN f ph) (2 ^ 23)).down (MELT_XCAL.FAULT f ph)) s).meltDone ccOk

/-- RECON_RESET (R253): alarms, counts and RESID. -/
def State.reconReset (s : State) : State :=
  let f := s.rd MELT_KEY.VALUE % 16
  let s := ((s.down (MELT_RECON_STAT.UNACC f)).down (MELT_RECON_STAT.NEG f)).wr (MELT_RECON_STAT.COUNT f) 0
  let s := s.wr64 (MELT_RESID_LO.VALUE f) (MELT_RESID_HI.VALUE f) 0
  (s.onMelt (fun m =>
    { m with counts := SMap.put (fun _ => 0) (SMap.put (fun _ => 0) m.counts (2 * f) 0) (2 * f + 1) 0 })).meltDone ccOk

/-! ## MREAD (R251, R252) -/

/-- Lanes packed into 16 bytes, lane 0 lowest. -/
def lanesOf (l : List Nat) : Wide :=
  BitVec.ofNat 128 (l.foldr (fun x a => x % 65536 + 65536 * a) 0)

/-- Three lanes of network seconds, or two or four lanes of a number: its low lanes. -/
def lanes (n x : Nat) : List Nat := (List.range n).map (fun i => bitsOf x (16 * i) 16)

/-- The outputs of selectors 1 and 2. -/
def State.mvalOut (s : State) (f : Nat) (x : MVal) : Nat × Wide × State :=
  let (pf, s) := match x.pf with
    | some k => (codeOf 16 k, s)
    | none => (s.draw.1 % 65536, s.draw.2)
  (pf + 2 ^ 16 * x.freq + 2 ^ 48 * s.rd (MELT_POD.LOW f) + 2 ^ 51 * s.rd (MELT_POD.CLIP f)
      + 2 ^ 52 * s.rd (MELT_POD.PRESENT f),
    lanesOf (lanes 2 x.v ++ lanes 2 x.i ++ lanes 2 (codeOf 32 x.p) ++ lanes 2 (codeOf 32 x.q)), s)

/-- A ratio to G_1 in Q0.16, saturated; free where G_1 is 0. -/
def State.ratio (s : State) (x2 g1 : Nat) : Nat × State :=
  if g1 = 0 then (s.draw.1 % 65536, s.draw.2) else (min 65535 (rootOpen (x2 * 2 ^ 32) g1), s)

/-- The outputs of selector 3. -/
def State.harmOut (s : State) (f sig n0 : Nat) : Nat × Wide × State :=
  let h := SMap.get (fun _ => {}) s.melt.harm (8 * f + sig)
  let g1 := h.g2.getD 0 0
  let (thd, s) := s.ratio ((h.g2.drop 1).foldl (· + ·) 0) g1
  let (ls, s) := (List.range 8).foldl (fun (a : List Nat × State) i =>
    if 63 < n0 + i then (a.1 ++ [0], a.2)
    else
      let (r, s) := a.2.ratio (h.g2.getD (n0 + i - 1) 0) g1
      (a.1 ++ [r], s)) (([] : List Nat), s)
  (rootOpen g1 (2 * harmUnit sig) % 2 ^ 32 + 2 ^ 32 * thd + 2 ^ 48 * (h.count % 65536), lanesOf ls, s)

/-- MREAD: the completion code, rd, w. -/
def State.mreadOp (s : State) (sel x : Nat) : Nat × Nat × Wide × State :=
  let f := x % 16
  let p := bitsOf x 4 2
  let bad :=
    match sel with
    | 0 => decide (2 ^ 9 ≤ x) || bitsOf x 6 3 == 7
    | 1 | 2 => decide (2 ^ 6 ≤ x)
    | 3 => decide (2 ^ 13 ≤ x) || decide (5 < bitsOf x 4 3) || bitsOf x 7 6 == 0
    | 4 => decide (2 ^ 8 ≤ x) || bitsOf x 4 3 == 7
    | 5 => decide (2 ^ 4 ≤ x)
    | 6 => decide (2 ^ 18 ≤ x)
    | _ => true
  if !s.blkReady 4 then (ccBusy, 0, 0, s)
  else if bad then (ccRange, 0, 0, s)
  else if !s.on MELT_CTRL.EN then (ccDenied, 0, 0, s)
  else if sel = 6 then
    if !s.on MELT_CTRL.RECON_EN then (ccNotFound, 0, 0, s)
    else
      let a := s.meltBase + 2 ^ 22 + 16 * x
      match s.virtOf x with
      | none => let (cc, s) := s.dmaFail a 16; (cc, 0, 0, s)
      | some (v, b) => (ccOk, v, lanesOf (lanes 4 b), s.dmaMet a 16)
  else if !s.melt.seen.contains f then (ccNotFound, 0, 0, s)
  else match sel with
    | 0 => (ccOk, s.energy f p (bitsOf x 6 3), lanesOf (lanes 3 (s.melt.blockEnd / 1000000000)), s)
    | 1 =>
      let (a, w, s) := s.mvalOut f (SMap.get (fun _ => {}) s.melt.sec (4 * f + p))
      (ccOk, a, w, s)
    | 2 =>
      let (a, w, s) := s.mvalOut f (SMap.get (fun _ => {}) s.melt.block (4 * f + p))
      (ccOk, a, w, s)
    | 3 =>
      let (a, w, s) := s.harmOut f (bitsOf x 4 3) (bitsOf x 7 6)
      (ccOk, a, w, s)
    | 4 =>
      let iv := if bitsOf x 7 1 = 1 then s.melt.prev else s.melt.last
      (ccOk, SMap.get (fun _ => 0) iv.e (8 * f + bitsOf x 4 3),
        lanesOf (lanes 3 iv.start ++ [iv.minutes, (if iv.short then 1 else 0) + 2 * bitsOf iv.incomplete f 1]), s)
    | _ =>
      (ccOk, s.rd (MELT_SIG2.EST f) + 2 ^ 20 * s.rd (MELT_SIG3.FAILED f) + 2 ^ 40 * s.rd (MELT_SIG2.VALID f),
        lanesOf (lanes 4 (SMap.get (fun _ => 0) s.melt.sigAt f)), s)

end Sys2Proof.Machine
end

