-- ==== Sys2Proof/Machine/Port.lean ====
section
/-!
DEFINITION. Sys2Proof/Machine/Port.lean: the Ethernet ports: reception and classification, egress, PAUSE and PFC,
MACsec, and the PORT commands (R277 to R286, R309).
-/

namespace Sys2Proof.Machine

/-! ## Frames -/

/-- The destination and source addresses of a frame, first byte most significant (log entry 10). -/
def dstOf (f : List Byte) : Nat := ofBe (f.take 6)
def srcOf (f : List Byte) : Nat := ofBe ((f.drop 6).take 6)

/-- Does the frame carry a VLAN tag? -/
def tagged (f : List Byte) : Bool := ofBe ((f.drop 12).take 2) == 0x8100

/-- The VLAN ID of a frame; an untagged frame counts as VLAN 0 (log entry 10). -/
def vlanOf (f : List Byte) : Nat := if tagged f then ofBe ((f.drop 14).take 2) % 4096 else 0

/-- Where the frame's own EtherType stands. -/
def typeOff (f : List Byte) : Nat := if tagged f then 16 else 12

/-- The EtherType of a frame. -/
def typeOf (f : List Byte) : Nat := ofBe ((f.drop (typeOff f)).take 2)

/-- Is the frame a PTP message: Annex E by EtherType, Annexes C and D by UDP port 319 or 320 (R263)? -/
def isPtp (f : List Byte) : Bool :=
  let b := f.drop (typeOff f + 2)
  let udp (p : List Byte) : Bool := let d := ofBe ((p.drop 2).take 2); d == 319 || d == 320
  typeOf f == 0x88F7 ||
    (typeOf f == 0x0800 && ofBe ((b.drop 9).take 1) == 17 && udp (b.drop (ofBe (b.take 1) % 16 * 4))) ||
    (typeOf f == 0x86DD && ofBe ((b.drop 6).take 1) == 17 && udp (b.drop 40))

/-- A port. -/
def State.port (s : State) (n : Nat) : PortSt := SMap.get (fun _ => {}) s.ports n

/-- A port changed. -/
def State.setPort (s : State) (n : Nat) (p : PortSt) : State :=
  { s with ports := SMap.put (fun _ => {}) s.ports n p }

/-- A port's own address. -/
def State.macOf (s : State) (n : Nat) : Nat := s.rd64 (PORT_MAC_LO.MAC_LO n) (PORT_MAC_HI.MAC_HI n)

/-- A received frame or control frame discarded and counted (R278, R282); RXERR says that a counter rose (R309). -/
def State.rxErr (s : State) (f : Fld) : State :=
  let t := s.count f 1
  if t.rd f = s.rd f then t else t.up PORT_EVT.RXERR

/-! ## MACsec (R284 to R286) -/

/-- An SA of a port. -/
def State.sa (s : State) (n i : Nat) : Option Sa := SMap.get (fun _ => none) (s.port n).sas i

/-- An SA of a port changed. -/
def State.setSa (s : State) (n i : Nat) (sa : Option Sa) : State :=
  let p := s.port n
  s.setPort n { p with sas := SMap.put (fun _ => none) p.sas i sa }

/-- The nonce of a frame: SCI and PN, or for XPN the salt combined with SSCI and the 64-bit PN. -/
def Sa.nonce (a : Sa) (pn : Nat) : List Byte :=
  if a.xpn then xorBytes a.salt (beBytes 4 a.ssci ++ beBytes 8 pn) else beBytes 8 a.sci ++ beBytes 4 pn

/-- The SecTAG with SCI, confidentiality on (R284). -/
def secTag (an len pn sci : Nat) : List Byte :=
  [0x88, 0xE5, BitVec.ofNat 8 (0x2C + an % 4), BitVec.ofNat 8 (if len < 48 then len else 0)]
    ++ beBytes 4 pn ++ beBytes 8 sci

/-- The packet number at which an SA is near its end, and the one at which it is exhausted (R286). -/
def Sa.high (a : Sa) : Nat := if a.xpn then 2 ^ 62 else 0xC000_0000
def Sa.spent (a : Sa) : Nat := if a.xpn then 2 ^ 64 else 2 ^ 32

/-- The transmit SA in use on a port. -/
def State.txSa (s : State) (n : Nat) : Option Nat :=
  if s.on (PORT_SA.ACTIVE n 0) then some 0 else if s.on (PORT_SA.ACTIVE n 1) then some 1 else none

/-- A frame that MACsec has to drop, counted (R285, R286; log entry 10). -/
def State.portDrop (s : State) (n : Nat) : State := s.setPort n { s.port n with drops := (s.port n).drops + 1 }

/-- A frame that leaves unprotected: MAC control, and the EAPOL frames of the key agreement that Cirque runs (R284). -/
def inClear (f : List Byte) : Bool := typeOf f == 0x8808 || typeOf f == 0x888E

/-- Does a port protect and verify its frames? Port M has no MACsec (R277). -/
def State.macsec (s : State) (n : Nat) : Bool := n != 5 && s.on (PORT_CTRL.MACSEC_EN n)

/-- PN_HIGH and SA_EXPIRING where a packet number has reached the threshold (R286). -/
def State.pnCheck (s : State) (n i : Nat) (a : Sa) : State :=
  if a.high ≤ a.pn && !s.on (PORT_SA.PN_HIGH n i) then (s.up (PORT_SA.PN_HIGH n i)).up PORT_EVT.SA_EXPIRING else s

/-- A frame made ready for the wire: protected where MACsec is enabled, with the SA that does it; none, and counted, where it
has to be dropped (R285, R286). -/
def State.protect (s : State) (n : Nat) (f : List Byte) : Option (List Byte × Option Nat) × State :=
  if !s.macsec n || inClear f then (some (f, none), s)
  else match s.txSa n with
    | none => (none, s.portDrop n)
    | some i =>
      match s.sa n i with
      | none => (none, s.portDrop n)
      | some a =>
        if !s.on (PORT_SA.VALID n i) || a.spent ≤ a.pn then (none, s.portDrop n)
        else
          let data := f.drop 12
          let aad := f.take 12 ++ secTag a.an data.length a.pn a.sci
          let next : Sa := { a with pn := a.pn + 1 }
          (some (aad ++ gcmSeal a.key (a.nonce a.pn) aad data, some i), (s.setSa n i (some next)).pnCheck n i next)

/-- A frame put on a port's wire. -/
def State.wire (s : State) (n : Nat) (f : List Byte × Option Nat) : State :=
  s.setPort n { s.port n with tx := some f.1, txSa := f.2 }

/-- The full packet number of a received XPN frame, from its low 32 bits and the lowest acceptable number. -/
def xpnRecover (low lowest : Nat) : Nat :=
  let hi := lowest / 2 ^ 32
  if 2 ^ 31 ≤ lowest % 2 ^ 32 && low < 2 ^ 31 then (hi + 1) * 2 ^ 32 + low else hi * 2 ^ 32 + low

/-- What a frame with a SecTAG carries where its check failed or its SA is unknown: in Check mode, the user data of a frame whose
C and E bits are clear passes unverified, less SecTAG and ICV; in Strict mode, and with C set, nothing does (R284). -/
def State.unverified (s : State) (n : Nat) (f : List Byte) : Option (List Byte) :=
  let tci := ofBe ((f.drop 14).take 1)
  let off := if bitsOf tci 5 1 = 1 then 28 else 20
  if s.on (PORT_CTRL.MACSEC_STRICT n) || bitsOf tci 2 2 != 0 || f.length < off + 16 then none
  else some (f.take 12 ++ (f.drop off).take (f.length - off - 16))

/-- A received frame on a port with MACsec enabled (R279, R284): the plain frame, or none where it is dropped; a frame on an SA
whose slot was zeroised is dropped and counted (R285). -/
def State.verify (s : State) (n : Nat) (f : List Byte) : Option (List Byte) × State :=
  if !s.macsec n then (some f, s)
  else if ofBe ((f.drop 12).take 2) != 0x88E5 then
    (if s.on (PORT_CTRL.MACSEC_STRICT n) && typeOf f != 0x888E then none else some f, s)
  else
    let tci := ofBe ((f.drop 14).take 1)
    let low := ofBe ((f.drop 16).take 4)
    let sci := ofBe ((f.drop 20).take 8)
    let mine (k : Nat) : Bool :=
      match s.sa n (k + 2) with
      | some a => a.sci == sci && a.an == tci % 4
      | none => false
    let hit := ((List.range 8).find? (fun k => mine k && s.on (PORT_SA.VALID n (k + 2)))).or ((List.range 8).find? mine)
    match hit with
    | none => (s.unverified n f, s)
    | some k =>
      match s.sa n (k + 2) with
      | none => (s.unverified n f, s)
      | some a =>
        let pn := if a.xpn then xpnRecover low a.pn else low
        if !s.on (PORT_SA.VALID n (k + 2)) then (none, s.portDrop n)
        else if pn < a.pn || tci / 4 != 0x0B then (s.unverified n f, s)
        else
          let aad := f.take 28
          match gcmOpen a.key (a.nonce pn) aad (f.drop 28) with
          | some d => (some (f.take 12 ++ d), s.setSa n (k + 2) (some { a with pn := max a.pn (pn + 1 - 64) }))
          | none => (s.unverified n f, s)

/-! ## Egress (R281 to R283) -/

/-- Is a priority of a port halted (R282)? -/
def State.paused (s : State) (n pri : Nat) : Bool := s.now < SMap.get (fun _ => 0) (s.port n).pause pri

/-- Ticks of a number of bits at the port's rate, 1 or 25 Gbit/s. -/
def State.bitTicks (s : State) (n bits : Nat) : Nat :=
  if s.rd (PORT_LINK.SPEED n) = 1 then divUp (4 * bits) 5 else divUp (4 * bits) 125

/-- PORT_LINK.PAUSED follows the halts. -/
def State.pausedReg (s : State) (n : Nat) : State :=
  s.wr (PORT_LINK.PAUSED n) ((List.range 8).foldl (fun a p => if s.paused n p then a + 2 ^ p else a) 0)

/-- The egress queue of a port and priority (R281). -/
def egressQ (n pri : Nat) : Nat := 4048 + 8 * n + pri

/-- The priority of a frame that a launch queue holds. -/
def State.framePri (s : State) (n : Nat) (f : List Byte) : Nat :=
  if tagged f then ofBe ((f.drop 14).take 1) / 32 else s.rd (PORT_CTRL.DEFPRI n)

/-- A frame padded to the shortest length (R274). -/
def padFrame (f : List Byte) : List Byte := f ++ List.replicate (60 - f.length) 0

/-- Ticks of a number of quanta, 512 bit times each, at the port's rate (R282): 20.48 ns at 25 Gbit/s. -/
def State.quantaTicks (s : State) (n q : Nat) : Nat := s.bitTicks n (512 * q)

/-- Ticks that a frame keeps the wire of a port, from its preamble to its check sequence: padded, and with the 32 bytes that
MACsec adds. -/
def State.wireTicks (s : State) (n : Nat) (f : List Byte) : Nat :=
  s.bitTicks n (8 * (8 + max 60 f.length + (if s.macsec n && !inClear f then 32 else 0) + 4))

/-- Is an ordinary frame held back, because its transmission would not end before the launch time of the first timed frame of
the port's launch queue (R271)? -/
def State.heldBack (s : State) (n : Nat) (f : List Byte) : Bool :=
  match (SMap.get (fun _ => []) s.time.queues n).findSome? (fun g => g.at?) with
  | some t => decide (s.ctrOf t ≤ s.ctr + s.wireTicks n f)
  | none => false

/-- Is E or W restricted: the floe is skewed (R352)? -/
def State.skewed (s : State) (n : Nat) : Bool := (n == 2 || n == 3) && s.on FLOE_STATUS.SKEW

/-- A frame dropped under R352. -/
def State.skewDrop (s : State) : State := s.countMod FLOE_SKEW_DROP.COUNT 1

/-- Is E or W the port of a broken span, so that its frames are turned back (R345)? -/
def State.wrappedPort (s : State) (n : Nat) : Bool :=
  (n == 2 && s.on FLOE_STATUS.WRAPPED_E) || (n == 3 && s.on FLOE_STATUS.WRAPPED_W)

/-- The port through which a frame for a port leaves: the other ring port where the span is broken (R345). -/
def State.outPort (s : State) (n : Nat) : Nat := if s.wrappedPort n then 5 - n else n

/-- The egress queues of a priority that a port serves: its own, and on the ring those of the other port where they are turned
back (R281, R345). -/
def State.served (s : State) (n pri : Nat) : List Nat :=
  ((List.range 6).filter (fun m => s.outPort m == n)).map (fun m => egressQ m pri)

/-- The port starts its next frame where it is idle: a control frame first, else the head of the highest priority that
is not halted; a gap marker, a packet whose cells hold poison and a frame that MACsec has to drop are passed over, with fuel
for them. A frame held back keeps the others of its kind waiting (R271, R281). -/
def portKickAux : Nat → State → Nat → State
  | 0, s, _ => s
  | fuel + 1, s, n =>
    let p := s.port n
    if p.tx.isSome || !s.on (PORT_LINK.UP n) || !s.on (PORT_CTRL.EN n) then s
    else match p.ctl with
      | c :: cs =>
        if s.heldBack n c then s
        else match (s.setPort n { p with ctl := cs }).protect n (padFrame c) with
          | (some f, s) => s.wire n f
          | (none, s) => portKickAux fuel s n
      | [] =>
        match [7, 6, 5, 4, 3, 2, 1, 0].findSome? (fun k => if s.paused n k then none
            else ((s.served n k).find? (fun q => !(s.queue q).isEmpty)).map (fun q => (k, q))) with
        | none => s
        | some (k, q) =>
          let head := match s.queue q with
            | .pkt data _ _ _ _ :: _ => data
            | _ => []
          if s.heldBack n head then s else
          let (i, s) := s.dequeue q
          match i with
          | some (.pkt data src _ _ mark) =>
            let s := s.metMark 3 mark
            if mark.bad then portKickAux fuel (s.portDrop n) n
            else if s.skewed n && k < 6 && (src == 0 || src == 7) && !isPtp data then portKickAux fuel s.skewDrop n
            else match s.protect n (padFrame data) with
              | (some f, s) => s.wire n f
              | (none, s) => portKickAux fuel s n
          | _ => portKickAux fuel s n

def State.portKick (s : State) (n : Nat) : State :=
  portKickAux ((List.range 8).foldl (fun a k => (s.served n k).foldl (fun a q => a + (s.queue q).length) a)
    ((s.port n).ctl.length + 1)) s n

/-- A priority of a port halted for some quanta from now, or resumed with quanta 0 (R282). -/
def State.haltNow (s : State) (n pri quanta : Nat) : State :=
  let p := s.port n
  s.setPort n { p with
    pause := SMap.put (fun _ => 0) p.pause pri (if quanta = 0 then 0 else s.now + s.quantaTicks n quanta)
    halts := SMap.put (fun _ => 0) p.halts pri 0 }

/-- No frame is on a port's wire any longer; halts that waited for it begin (R282). -/
def State.wireFree (s : State) (n : Nat) : State :=
  let s := s.setPort n { s.port n with tx := none, txSa := none }
  ((s.port n).halts.foldl (fun s e => if e.2 = 0 then s else s.haltNow n e.1 (e.2 - 1)) s).pausedReg n

/-- The frame that a port has on the wire has left, and the next one starts. -/
def State.egressEnd (s : State) (n : Nat) : State := (s.wireFree n).portKick n

/-- A PAUSE or PFC frame that the port sends (R283). -/
def pauseFrame (mac : Nat) (pfc : Bool) (mask quanta : Nat) : List Byte :=
  [0x01, 0x80, 0xC2, 0x00, 0x00, 0x01] ++ beBytes 6 mac ++ [0x88, 0x08] ++
    (if pfc then beBytes 2 0x0101 ++ beBytes 2 mask
        ++ ((List.range 8).map (fun k => beBytes 2 (if bitsOf mask k 1 = 1 then quanta else 0))).flatten
      else beBytes 2 0x0001 ++ beBytes 2 quanta)

/-- The port sends PFC for the priorities of PFC_TX_MASK, or PAUSE, with quanta (R283). The frame goes ahead of every queued
one, behind PAUSE and PFC frames that wait already. -/
def State.sendPause (s : State) (n quanta : Nat) : State :=
  let mask := s.rd (PORT_CTRL.PFC_TX_MASK n)
  let pfc := s.on (PORT_CTRL.PFC_EN n) && mask != 0
  if 4 ≤ n || !(pfc || s.on (PORT_CTRL.PAUSE_TX n)) then s
  else
    let p := s.port n
    let mac (c : List Byte) : Bool := typeOf c == 0x8808
    (s.setPort n { p with
      ctl := p.ctl.takeWhile mac ++ padFrame (pauseFrame (s.macOf n) pfc mask quanta) :: p.ctl.dropWhile mac }).portKick n

/-- The pool is compared with a port's thresholds (R283): XOFF crossed downwards, XON crossed upwards. -/
def State.flowCheck (s : State) (n : Nat) : State :=
  let sh := s.rd SNOW_SHARED.SHARED
  let p := s.port n
  if !p.xoff && sh < 8 * s.rd (PORT_FC.XOFF n) then (s.setPort n { p with xoff := true }).sendPause n 0xFFFF
  else if p.xoff && 8 * s.rd (PORT_FC.XON n) < sh then (s.setPort n { p with xoff := false }).sendPause n 0
  else s

/-- Every port's flow control follows the pool, its halts the time, and a port that can send starts (R281 to R283). -/
def State.flowChecks (s : State) : State :=
  (List.range 6).foldl (fun s n => ((s.flowCheck n).pausedReg n).portKick n) s

/-- While the pool stays below XOFF the port repeats its PAUSE (R283). -/
def State.pauseRepeat (s : State) (n : Nat) : State :=
  if (s.port n).xoff && s.rd SNOW_SHARED.SHARED < 8 * s.rd (PORT_FC.XOFF n) then s.sendPause n 0xFFFF else s

/-- A priority of a port halted by a received frame: the frame in transmission completes first (R282). -/
def State.halt (s : State) (n pri quanta : Nat) : State :=
  let p := s.port n
  if p.tx.isSome && quanta != 0 then s.setPort n { p with halts := SMap.put (fun _ => 0) p.halts pri (quanta + 1) }
  else s.haltNow n pri quanta

/-- A PAUSE received (R282). -/
def State.rxPause (s : State) (n quanta : Nat) : State :=
  if 4 ≤ n || !s.on (PORT_CTRL.PAUSE_RX n) || s.on (PORT_CTRL.PFC_EN n) then s.rxErr (PORT_RXERR.CTRL n)
  else (((List.range 8).foldl (fun s k => s.halt n k quanta) s).pausedReg n).portKick n

/-- A PFC received (R282). -/
def State.rxPfc (s : State) (n vector : Nat) (quanta : List Nat) : State :=
  if 4 ≤ n || !s.on (PORT_CTRL.PFC_EN n) then s.rxErr (PORT_RXERR.CTRL n)
  else (((List.range 8).foldl
    (fun s k => if bitsOf vector k 1 = 1 then s.halt n k (quanta.getD k 0) else s) s).pausedReg n).portKick n

/-- A halted priority's time has passed (R282). -/
def State.pauseExpiry (s : State) (n pri : Nat) : State :=
  let p := s.port n
  let t := SMap.get (fun _ => 0) p.pause pri
  if t = 0 then s
  else ((((s.reach t).setPort n { p with pause := SMap.put (fun _ => 0) p.pause pri 0 })).pausedReg n).portKick n

/-! ## Reception (R278 to R280) -/

/-- A frame joins a queue, and a port that serves it starts. -/
def State.place (s : State) (q n : Nat) (f : List Byte) : State :=
  let s := s.deliver q f (n + 1) 0
  (if 4048 ≤ q then s.portKick (s.outPort ((q - 4048) / 8)) else s).flowChecks

/-- A frame goes to the miss queue of its port. -/
def State.missQ (s : State) (n : Nat) (f : List Byte) : State := s.place (s.rd (PORT_MISSQ.QUEUE n)) n f

/-- A frame forwarded on a prefix hit (R281): it leaves on the port of the queue found, at its own priority, with its
addresses rewritten; where NEXT_L2 names no entry, or one with a parity error (R294), it goes to the miss queue (log entry
10). -/
def State.forward (s : State) (n pri q nextL2 : Nat) (f : List Byte) : State :=
  let m := (q - 4048) / 8
  let s := s.readCheck 3 nextL2
  match s.l2Ent nextL2 with
  | some e =>
    if e.suspect then s.missQ n f
    else s.place (egressQ m pri) n (beBytes 6 e.mac ++ beBytes 6 (s.macOf m) ++ f.drop 12)
  | none => s.missQ n f

/-- The priority of a received frame: the PCP of its VLAN tag, else DEFPRI (R280). -/
abbrev State.rxPri (s : State) (n : Nat) (f : List Byte) : Nat := s.framePri n f

/-- The source address of a frame received whole is learned, where the port has LEARN (R291). -/
def State.learnFrom (s : State) (n : Nat) (f : List Byte) : State :=
  if n < 5 && s.on (PORT_CTRL.LEARN n) && s.on (SRC_TBL.LEARN 2) then s.learnL2 (srcOf f) (vlanOf f) n else s

/-- A plain frame classified (R279, R280). -/
def State.classify (s : State) (n : Nat) (f : List Byte) : State :=
  let ty := typeOf f
  let pri := s.rxPri n f
  let s := s.l2Check (dstOf f) (vlanOf f)
  let transit := dstOf f ≠ s.macOf n && (s.l2Find (dstOf f) (vlanOf f)).isSome
  if isPtp f || ty = 0x88B5 || ty = 0x88B6 || ty = 0x88B7 then s
  else if s.skewed n && pri < 6 && !transit then s.skewDrop
  else if ty = 0x888E then s.place 1 n f
  else if dstOf f = s.macOf n then
    if ty = 0x86DD then
      let addr := ofBe (((f.drop (typeOff f + 2)).drop 24).take 16)
      let s := s.pfxCheck addr (n + 8 * pri)
      match s.pfxFind addr (n + 8 * pri) with
      | some (i, e) =>
        let s := s.touchPfx i
        if 4048 ≤ e.queue then s.forward n pri e.queue e.nextL2 f else s.place e.queue n f
      | none => s.missQ n f
    else s.missQ n f
  else match s.l2Find (dstOf f) (vlanOf f) with
    | some (i, e) =>
      let s := s.touchL2 i
      if e.port = n then s.portDrop n else s.place (egressQ e.port pri) n f
    | none => s.missQ n f

/-- Is a frame's length one that a port accepts: 60 bytes to SNOW_MAXPKT, and to 9,216 bytes for the control frames of ring and
pair (R278)? -/
def State.lengthOk (s : State) (n : Nat) (b : List Byte) : Bool :=
  let ctl := typeOf b == 0x88B5 || typeOf b == 0x88B6 || typeOf b == 0x88B7
  60 ≤ b.length && b.length ≤ (if 2 ≤ n && n ≤ 4 && ctl then 9216 else s.rd SNOW_MAXPKT.LEN)

/-- A MAC control frame acts (R282). -/
def State.macControl (s : State) (n : Nat) (b : List Byte) : State :=
  let op := ofBe ((b.drop 14).take 2)
  if op = 0x0001 then s.rxPause n (ofBe ((b.drop 16).take 2))
  else if op = 0x0101 then
    s.rxPfc n (ofBe ((b.drop 16).take 2)) ((List.range 8).map (fun k => ofBe ((b.drop (18 + 2 * k)).take 2)))
  else s

/-- A frame received whole (R278, R279, R280); its length is that of the frame which MACsec gives back. -/
def State.ethRx (s : State) (n : Nat) (f : EthFrame) : State :=
  let b := f.bytes
  let pause := (dstOf b == 0x0180C2000001 || dstOf b == s.macOf n) && typeOf b == 0x8808
  if !s.rdy 8 || !s.on (PORT_CTRL.EN n) || !s.on (PORT_LINK.UP n) then s
  else if f.badFcs then s.rxErr (PORT_RXERR.FCS n)
  else
    match (if pause then (some b, s) else s.verify n b) with
    | (none, s) => s
    | (some b, s) =>
      if !s.lengthOk n b then s.rxErr (PORT_RXERR.LEN n)
      else
        let s := s.learnFrom n b
        if pause then s.macControl n b else s.classify n b

/-- A link changes state (R309): a port that goes down loses the frame on its wire. -/
def State.linkChange (s : State) (n speed : Nat) (up : Bool) : State :=
  if s.on (PORT_LINK.UP n) == up && (!up || s.rd (PORT_LINK.SPEED n) == speed) then s
  else
    let s := ((s.bit (PORT_LINK.UP n) up).wr (PORT_LINK.SPEED n) (if up then speed else 0)).up PORT_EVT.LINK
    if up then s.portKick n else s.wireFree n

/-! ## The PORT commands (R285, R286, R309) -/

/-- A command of the PORT interface ends. -/
def State.portDone (s : State) (cc : Nat) : State := s.done PORT_STAT.addr PORT_EVT.CMD_DONE cc

/-- SA_INSTALL (R285), given what the vault holds in the slot: its generation and its bytes of key and, for XPN, salt
and SSCI; none where the slot is empty. -/
def State.saInstall (s : State) (slotOf : Nat → Option (Nat × List Byte)) : State :=
  let n := bitsOf (s.rd PORT_KEY.VALUE) 0 3
  let i := bitsOf (s.rd PORT_KEY.VALUE) 8 4
  let d := s.rd PORT_DATA0.VALUE
  let slot := bitsOf d 2 6
  if n = 5 then s.portDone ccDenied
  else if 5 < n || 9 < i then s.portDone ccRange
  else match slotOf slot with
    | none => s.portDone ccNotFound
    | some (gen, key) =>
      if gen != bitsOf d 16 16 then s.portDone ccStaleGen
      else
        let own := s.macOf n * 2 ^ 16 + 1
        let sci := if i < 2 then own else s.rd64 PORT_DATA1.VALUE PORT_DATA2.VALUE
        let a : Sa := ⟨key.take 32, ((key.drop 32) ++ List.replicate 12 0).take 12, ofLe ((key.drop 44).take 4), sci,
          bitsOf d 0 2, bitsOf d 8 1 == 1, s.rd PORT_DATA3.VALUE, slot⟩
        let s := (s.setSa n i (some a)).setReg (PORT_SA.addr n i)
          (BitVec.ofNat 32 (1 + bitsOf d 0 2 * 4 + slot * 16 + bitsOf d 8 1 * 2 ^ 10))
        (if i < 2 then s.pnCheck n i a else s).portDone ccOk

/-- SA_START_TX (R286). -/
def State.saStartTx (s : State) : State :=
  let n := bitsOf (s.rd PORT_KEY.VALUE) 0 3
  let i := bitsOf (s.rd PORT_KEY.VALUE) 8 4
  if 4 < n || 1 < i then s.portDone ccRange
  else if !s.on (PORT_SA.VALID n i) then s.portDone ccNotFound
  else (((s.down (PORT_SA.ACTIVE n (1 - i))).up (PORT_SA.ACTIVE n i)).portDone ccOk).portKick n

/-- SA_REMOVE (R309). -/
def State.saRemove (s : State) : State :=
  let n := bitsOf (s.rd PORT_KEY.VALUE) 0 3
  let i := bitsOf (s.rd PORT_KEY.VALUE) 8 4
  if 5 < n || 9 < i || (s.sa n i).isNone then s.portDone ccNotFound
  else ((s.setSa n i none).setReg (PORT_SA.addr n i) 0).portDone ccOk

/-- A vault slot is zeroised: every SA that uses it becomes invalid and loses its key, and the frame in flight on it is
discarded (R285). -/
def State.saLost (s : State) (slot : Nat) : State :=
  (List.range 50).foldl (fun s k =>
    let n := k / 10
    let i := k % 10
    if s.on (PORT_SA.VALID n i) && s.rd (PORT_SA.SLOT n i) == slot then
      let s := ((s.setSa n i ((s.sa n i).map (fun a => { a with key := [], salt := [] }))).down (PORT_SA.VALID n i)).up
        PORT_EVT.SA_LOST
      if (s.port n).txSa = some i then (s.wireFree n).portDrop n else s
    else s) s

end Sys2Proof.Machine
end

