-- ==== Sys2Proof/Machine/Time.lean ====
section
/-!
DEFINITION. Sys2Proof/Machine/Time.lean: the time engine: steps and rate, the servo and its sources, PPS, PTP, and the
launch queues (R254 to R276).
-/

namespace Sys2Proof.Machine

/-! ## Rate and steps (R255 to R260) -/

/-- The anchor set at the present tick, with network time moved by a number of ns (R255). -/
def State.anchor (s : State) (stepNs : Int) : State :=
  s.onTime (fun t => { t with cA := s.ctr, tA := ((s.timeAt s.ctr : Int) + stepNs * 2 ^ 32).toNat })

/-- A rate change: network time is continuous across it. -/
def State.setRate (s : State) (r : Int) : State := (s.anchor 0).wr TIME_RATE.RATE (codeOf 32 r)

/-- What Sastrugi does at a step (R259): the slot in progress ends, the next superframe begins at the next whole
second. The window of R203 has had as many superframes as before. -/
def State.sastStep (s : State) (was : Nat) : State :=
  { s with sast := { s.sast with
      slot := 0
      from' := (s.netSec + 1) * 200
      winStart := s.sast.winStart + s.netSec - was } }

/-- An accepted step (R257 to R259). -/
def State.stepTime (s : State) (stepNs : Int) : State :=
  ((((s.anchor stepNs).down TIME_SYNC.STEP_ARMED).up TIME_EVT.STEPPED).meltStep s.netNs).sastStep s.netSec

/-- Does Firn stand in the way of a step: STATE is CHECKING or SEALED (R258)? -/
def State.firnBusy (s : State) : Bool := s.rd FIRN_COMMIT_STAT.STATE == 1 || s.rd FIRN_COMMIT_STAT.STATE == 2

/-- A command of the TIME interface ends. -/
def State.timeDone (s : State) (cc : Nat) : State := s.done TIME_STAT.addr TIME_EVT.CMD_DONE cc

/-- The seconds of STEP_TO and STEP_BY as written, 48 bits. -/
def State.stepSecs (s : State) : Nat := s.rd TIME_DATA0.VALUE + 2 ^ 32 * (s.rd TIME_DATA1.VALUE % 65536)

/-- STEP_TO and STEP_BY (R258), given the network time in ns that the step leads to. -/
def State.stepCmd (s : State) (target : Int) : State :=
  if !s.on TIME_SYNC.STEP_ARMED then s.timeDone ccDenied
  else if s.firnBusy then s.timeDone ccBusy
  else if 1000000000 ≤ s.rd TIME_DATA2.VALUE || target < 0 || (2 ^ 48 * 1000000000 : Int) ≤ target then
    s.timeDone ccRange
  else (s.stepTime (target - s.netNs)).timeDone ccOk

/-- STEP_TO sets network time to a value; the part of a ns that has passed stays. -/
def State.stepTo (s : State) : State :=
  s.stepCmd ((s.stepSecs * 1000000000 + s.rd TIME_DATA2.VALUE : Nat) : Int)

/-- STEP_BY moves network time by signed seconds and ns. -/
def State.stepBy (s : State) : State :=
  s.stepCmd ((s.netNs : Int) + signedOf 48 s.stepSecs * 1000000000 + s.rd TIME_DATA2.VALUE)

/-- The largest magnitude of TIME_RATE, floor(200 ppm × 2^40) (R260). -/
abbrev rateMax : Int := 219902325

/-- RATE_SET (R260). -/
def State.rateSet (s : State) : State :=
  let r := signedOf 32 (s.rd TIME_DATA0.VALUE)
  if r < -rateMax || rateMax < r then s.timeDone ccRange
  else if s.on TIME_CTRL.SERVO then s.timeDone ccDenied
  else (s.setRate r).timeDone ccOk

/-- WARM: 5 min after power-up (R254). -/
def State.timeWarm (s : State) : State :=
  if !s.rdy 4 then s else (s.reachCtr (msTicks 300000)).up TIME_SYNC.WARM

/-! ## Sources (R262 to R264, R267) -/

/-- A PTP port. -/
def State.ptpPort (s : State) (n : Nat) : PtpPort := SMap.get (fun _ => {}) s.time.ptp n
def State.setPtp (s : State) (n : Nat) (p : PtpPort) : State :=
  s.onTime (fun t => { t with ptp := SMap.put (fun _ => {}) t.ptp n p })

/-- How long a completed Sync keeps a PTP port valid, and an Announce its master: the default announce receipt timeout,
3 × 2 s (log entry 11). -/
abbrev ptpTimeout : Nat := msTicks 6000

/-- The master that the default BMCA prefers on a port, of those heard within the timeout (R263). -/
def State.bestMaster (s : State) (n : Nat) : Option Nat :=
  (((s.ptpPort n).masters.filter (fun e => decide (s.ctr < e.2 + ptpTimeout))).map (·.1)).head?

/-- The member through which the lead is reached: the lead index is its pair's primary's, and the pair's active module, at one
of the pair's two indices, is what makes the floe's time (R262, R346). -/
def State.leadMember (s : State) : Nat :=
  let l := s.rd FLOE_LEAD.LEAD
  if !s.on (FLOE_MEMBER.ACTIVE l) && s.on (FLOE_MEMBER.ACTIVE (l ^^^ 1)) then l ^^^ 1 else l

/-- The sources of R262 for the module's role, first choice first, as codes of TIME_SYNC.SOURCE. -/
def State.sources (s : State) : List Nat :=
  let pps := if s.on TIME_CTRL.PPS_EN then [1] else []
  let up := match s.bestMaster 0, s.bestMaster 1 with
    | some a, some b => if b < a then [3, 2] else [2, 3]
    | none, some _ => [3, 2]
    | _, _ => [2, 3]
  if s.mode = 4 then [6]
  else if s.mode = 5 || s.on FLOE_STATUS.LEAD then pps ++ up
  else
    [if s.on (FLOE_MEMBER.VIA_W s.leadMember) then 5 else 4]

/-- The counter value until which a source counts as valid. -/
def State.validUntil (s : State) (src : Nat) : Nat :=
  if src = 1 then s.time.ppsUntil else (s.ptpPort (src - 2)).until'

/-- The source in use: the first valid one; 0 where there is none. -/
def State.source (s : State) : Nat := ((s.sources).find? (fun k => decide (s.ctr < s.validUntil k))).getD 0

/-- TIME_PORT(n).PSTATE as it reads: 0 DISABLED without a link, 2 SLAVE on a port of the role's sources, and else 1 MASTER
on the ring and pair ports, 3 PASSIVE on the uplinks (R262, R263; log entry 11). -/
def State.pstate (s : State) (n : Nat) : Nat :=
  if !s.rdy 4 || !s.on (PORT_LINK.UP n) then 0
  else if s.sources.contains (n + 2) then 2 else if n < 2 then 3 else 1

/-- PPS_EDGE: an edge is stamped and judged (R264). Any edge restarts the 1.5 s; one outside 1 s ± 1 µs restarts the count. -/
def State.ppsEdge (s : State) : State :=
  if !s.rdy 4 then s
  else
    let ok := match s.time.ppsLast with
      | some (c, _) => decide (msTicks 1000 - usTicks 1 ≤ s.ctr - c) && decide (s.ctr - c ≤ msTicks 1000 + usTicks 1)
      | none => false
    let good := if ok then s.time.ppsGood + 1 else 1
    let valid := decide (3 ≤ good) || (s.time.ppsValid && decide (s.ctr < s.time.ppsUntil))
    s.onTime (fun t =>
      { t with
        ppsLast := some (s.ctr, s.rd TIME_PPS_DLY.DLY)
        ppsGood := good
        ppsValid := valid
        ppsUntil := if valid then s.ctr + msTicks 1500 else t.ppsUntil })

/-- PPS_LOST: no edge for 1.5 s (R264). -/
def State.ppsLost (s : State) : State :=
  if !s.time.ppsValid then s
  else
    ((s.reachCtr s.time.ppsUntil).onTime (fun t => { t with ppsValid := false, ppsGood := 0, ppsLast := none })).up
      TIME_EVT.PPS_LOST

/-- Network time at a counter value before or after the anchor, in ns (R255). -/
def State.netAt (s : State) (c : Nat) : Int :=
  (if s.time.cA ≤ c then (s.timeAt c : Int)
   else s.time.tA - ((s.time.cA - c) * 5 * ((2 ^ 40 + s.rate).toNat) / 1024 : Nat)) / 2 ^ 32

/-- The distance of a time from the nearest whole second, both in ns. -/
def fromSecond (x : Int) : Int := let k := x % 1000000000; if k < 500000000 then k else k - 1000000000

/-- The offset that uplink PTP shows where one of its ports is valid, the better first. -/
def State.uplinkOfs (s : State) : Option Int :=
  (s.sources.find? (fun k => k != 1 && decide (s.ctr < s.validUntil k))).map (fun k => (s.ptpPort (k - 2)).ofs)

/-- The offset that the source in use shows, ns. PPS_IN fixes the phase; the whole seconds come from uplink PTP on a lead
where it is valid, and are else kept, on a module in ISLANDED always (R262, R264). -/
def State.sourceOfs (s : State) (src : Nat) : Int :=
  if src = 1 then
    match s.time.ppsLast with
    | some (c, dly) =>
      let base := if s.mode = 5 then 0 else s.uplinkOfs.getD 0
      base + fromSecond (s.netAt c - dly - base)
    | none => 0
  else (s.ptpPort (src - 2)).ofs

/-- meanLinkDelay of a port in ns, or the end-to-end delay of an uplink. -/
def State.pathDelay (s : State) (n : Nat) : Int :=
  if n < 2 then (s.ptpPort n).delay else s.rd (TIME_PORT.LINK_DLY n)

/-- A port's own portIdentity: its clock identity from its address, and its number. -/
def State.ptpId (s : State) (n : Nat) : Nat :=
  let mac := s.macOf n
  ((mac / 2 ^ 24 * 2 ^ 16 + 0xFFFE) * 2 ^ 24 + mac % 2 ^ 24) * 2 ^ 16 + (n + 1)

/-- A PTP message of a port: header, timestamp, and what follows it: the requesting port in the answers, the data set in an
Announce, whose values the spec does not give (log entry 11). Sync (0), Delay_Req (1), Pdelay_Req (2), Pdelay_Resp (3), Follow_Up
(8), Pdelay_Resp_Follow_Up (10), Announce (11). -/
def State.ptpBody (s : State) (n kind seq : Nat) (twoStep : Bool) (requester : Nat) : List Byte :=
  let tail :=
    if kind = 2 then beBytes 10 0
    else if kind = 3 || kind = 10 then beBytes 10 requester
    else if kind = 11 then Config.layout 0x10B [s.rd TIME_SYNC.STATE, s.rd TIME_SYNC.SOURCE] else []
  [BitVec.ofNat 8 kind, 0x12] ++ beBytes 2 (44 + tail.length) ++ [BitVec.ofNat 8 (s.rd TIME_CTRL.DOMAIN), 0] ++
    [if twoStep then 0x02 else 0, 0] ++ beBytes 8 0 ++ beBytes 4 0 ++ beBytes 10 (s.ptpId n) ++ beBytes 2 seq ++
    [if kind = 0 then 0 else if kind = 1 then 1 else if kind = 8 then 2 else 5,
      if kind = 0 || kind = 8 then 0xFC else if kind = 11 then 1 else 0x7F] ++
    beBytes 6 (s.netSec % 2 ^ 48) ++ beBytes 4 (s.netNs % 1000000000) ++ tail

/-- A PTP message in an Ethernet frame, as Annex E carries it, or on an uplink in the transport of its master (Annexes C and D,
R263). -/
def State.ptpFrame (s : State) (n kind seq : Nat) (twoStep : Bool) (requester annex : Nat) : List Byte :=
  let body := s.ptpBody n kind seq twoStep requester
  let dst :=
    if annex = 1 then 0x01005E000181
    else if annex = 2 then 0x333300000181
    else if kind = 2 || kind = 3 || kind = 10 then 0x0180C200000E else 0x011B19000000
  beBytes 6 dst ++ beBytes 6 (s.macOf n) ++ (if annex = 0 then [0x88, 0xF7] else Config.ipHeader annex n body) ++ body

/-- PTP frames handed to a port, behind those that wait there already; its MACsec protects them (R263). -/
def State.ptpSend (s : State) (n : Nat) (fs : List (List Byte)) : State :=
  let x := s.port n
  (s.setPort n { x with ctl := x.ctl ++ fs }).portKick n

/-- A Sync is complete on a slave port: the offset from the master (R263, R267), and on an uplink a Delay_Req leaves. -/
def State.syncComplete (s : State) (n annex : Nat) (t2 : Nat) (t1 : Int) : State :=
  let asym := signedOf 16 (s.rd (TIME_ASYM.ASYM n))
  let p := s.ptpPort n
  let t := s.setPtp n { p with
    sync := none
    t1 := t1
    t2 := t2
    ofs := (t2 : Int) - t1 - s.pathDelay n - sdivOpen asym 8
    req := if n < 2 then some (p.reqSeq, s.netNs) else none
    reqSeq := if n < 2 then (p.reqSeq + 1) % 65536 else p.reqSeq
    until' := s.ctr + ptpTimeout }
  if n < 2 then t.ptpSend n [s.ptpFrame n 1 p.reqSeq false 0 annex] else t

/-- PTP_MESSAGE: a message in the engine's domain is consumed (R263). Sync (0) and Follow_Up (8) measure the offset,
Delay_Resp (9) to the port's own last request the end-to-end delay, Announce (11) tells the data set of an uplink's master; a Pdelay_Req (2) on a ring or
pair port is answered, and the answers to the module's own are what PEER_DELAY_MEASURE brings. The ring and pair ports take
time only as SLAVE, an uplink only from the master that the BMCA prefers, once one is known. -/
def State.ptpMessage (s : State) (n : Nat) (m : PtpMsg) : State :=
  let p := s.ptpPort n
  let slave := if n < 2 then s.bestMaster n == none || s.bestMaster n == some m.source else s.pstate n == 2
  if !s.rdy 4 || 5 ≤ n || m.domain ≠ s.rd TIME_CTRL.DOMAIN then s
  else if m.kind = 0 then
    if !slave then s
    else if m.twoStep then s.setPtp n { p with sync := some (m.seq, s.netNs) }
    else s.syncComplete n m.annex s.netNs ((m.origin : Int) + m.correction)
  else if m.kind = 2 then
    if n < 2 then s
    else if s.on TIME_CTRL.ONE_STEP then s.ptpSend n [s.ptpFrame n 3 m.seq false m.port 0]
    else s.ptpSend n [s.ptpFrame n 3 m.seq true m.port 0, s.ptpFrame n 10 m.seq false m.port 0]
  else if m.kind = 8 then
    match p.sync with
    | some (q, t2) => if q = m.seq && slave then s.syncComplete n m.annex t2 ((m.origin : Int) + m.correction) else s
    | none => s
  else if m.kind = 9 then
    match p.req with
    | some (q, t3) =>
      if n < 2 && slave && q == m.seq && m.requester == s.ptpId n then
        s.setPtp n { p with
          req := none, delay := sdivOpen ((p.t2 : Int) - p.t1 + ((m.origin : Int) - m.correction - t3)) 2 }
      else s
    | none => s
  else if m.kind = 11 then
    if n < 2 then s.setPtp n { p with masters := SMap.set p.masters m.source s.ctr } else s
  else s

/-- A port's link is down: it gives no time until it measures again. -/
def State.ptpDown (s : State) (n : Nat) : State :=
  if n < 5 then s.setPtp n { (s.ptpPort n) with sync := none, req := none, masters := [], until' := 0 } else s

/-- PEER_DELAY_MEASURE: a Pdelay_Req leaves, and the delay that its exchange gives joins the mean of the last 16 (R267). -/
def State.peerDelay (s : State) (n delay : Nat) : State :=
  if !s.rdy 4 || n < 2 || 5 ≤ n || !s.on (PORT_LINK.UP n) then s
  else
    let p := s.ptpPort n
    let d := (delay :: p.delays).take 16
    let t := (s.setPtp n { p with delays := d, reqSeq := (p.reqSeq + 1) % 65536 }).wr (TIME_PORT.LINK_DLY n)
      (min 65535 (divOpen (d.foldl (· + ·) 0) d.length))
    t.ptpSend n [s.ptpFrame n 2 p.reqSeq false 0 0]

/-- PTP_SYNC_SEND: 16 times a second a MASTER port sends Sync, and Follow_Up unless ONE_STEP, and with every 32nd an Announce, at
the default interval of 2 s (R263; log entry 11). -/
def State.ptpSyncSend (s : State) (n : Nat) : State :=
  if n < 2 || 5 ≤ n || s.pstate n ≠ 1 then s
  else
    let two := !s.on TIME_CTRL.ONE_STEP
    let p := s.ptpPort n
    let fs := if two then [s.ptpFrame n 0 p.seq true 0 0, s.ptpFrame n 8 p.seq false 0 0]
      else [s.ptpFrame n 0 p.seq false 0 0]
    let fs := if p.seq % 32 = 0 then s.ptpFrame n 11 (p.seq / 32) false 0 0 :: fs else fs
    (s.setPtp n { p with seq := p.seq + 1 }).ptpSend n fs

/-! ## The servo (R261) -/

/-- The mean of a list of rates, its rounding left open. -/
def meanRate (l : List Int) : Int := if l.isEmpty then 0 else sdivOpen (l.foldl (· + ·) 0) l.length

/-- SERVO_MEASURE: once a second the servo measures the offset and acts; the slew within ±200 ppm is the servo's own choice,
given with the command. A change of source never steps: until the offset from the new one has come within STEP_MIN, the servo
slews to it, and STEP_NEEDED sets only where a step could not have been made either (log entry 11). -/
def State.servoMeasure (s : State) (slew : Int) : State :=
  if !s.rdy 4 || !s.on TIME_CTRL.SERVO then s
  else
    let src := s.source
    let s := s.wr TIME_SYNC.SOURCE src
    if src = 0 then
      (if s.rd TIME_SYNC.STATE = 1 then s.wr TIME_SYNC.STATE 0 else s).onTime (fun t => { t with lockSecs := 0 })
    else
      let changed := s.time.lastSrc != 0 && s.time.lastSrc != src
      let ofs := s.sourceOfs src
      let sat : Int := if ofs < -(2 ^ 31) then -(2 ^ 31) else if 2 ^ 31 ≤ ofs then 2 ^ 31 - 1 else ofs
      let s := s.wr TIME_OFS.OFS (codeOf 32 sat)
      let s := if s.rd TIME_SYNC.STATE = 2 then s else s.wr TIME_SYNC.STATE 1
      let big := decide (s.rd TIME_CTRL.STEP_MIN * 1000000 < ofs.natAbs)
      let toNew := big && (changed || s.time.slewing)
      let s := s.onTime (fun t => { t with lastSrc := src, slewing := toNew })
      let s :=
        if big then
          if toNew && s.on TIME_SYNC.STEP_ARMED && !s.firnBusy then s.setRate (if 0 < ofs then -rateMax else rateMax)
          else if s.on TIME_SYNC.STEP_ARMED && !s.firnBusy then s.stepTime (-ofs)
          else (s.setRate (if 0 < ofs then -rateMax else rateMax)).up TIME_EVT.STEP_NEEDED
        else s.setRate (if slew < -rateMax then -rateMax else if rateMax < slew then rateMax else slew)
      let n := if ofs.natAbs ≤ 100 then s.time.lockSecs + 1 else 0
      let s := s.onTime (fun t => { t with lockSecs := n })
      let s :=
        if 10 ≤ n && s.rd TIME_SYNC.STATE != 2 then
          ((s.wr TIME_SYNC.STATE 2).up TIME_EVT.LOCKED).onTime (fun t => { t with rates := [] })
        else s
      if s.rd TIME_SYNC.STATE = 2 then s.onTime (fun t => { t with rates := (s.rate :: t.rates).take 60 }) else s

/-- SERVO is written 0: no second counts towards LOCKED any longer. -/
def State.servoOff (s : State) : State := s.onTime (fun t => { t with lockSecs := 0 })

/-- A source that was valid is no longer one of the role's: it counts as lost from now on (R261, R262). -/
def State.sourceWatch (s t : State) : State :=
  let gone := (s.sources.filter (fun k => !t.sources.contains k)).foldl (fun a k => max a (min t.ctr (s.validUntil k))) 0
  if gone ≤ t.time.srcGone then t else t.onTime (fun x => { x with srcGone := gone })

/-- HOLDOVER: from LOCKED, once no source has been valid for 3 s. -/
def State.holdover (s : State) : State :=
  if !s.rdy 4 || !s.on TIME_CTRL.SERVO || s.rd TIME_SYNC.STATE ≠ 2 then s
  else
    let c := (s.sources.map s.validUntil).foldl max s.time.srcGone
    let s := s.reachCtr (c + msTicks 3000)
    let s := s.setRate (if s.time.rates.isEmpty then s.rate else meanRate s.time.rates)
    (((s.wr TIME_SYNC.STATE 3).wr TIME_SYNC.SOURCE 0).up TIME_EVT.HOLDOVER).onTime
      (fun t => { t with holdFrom := s.ctr, lockSecs := 0 })

/-- PPS_OUT goes high now. -/
def State.ppsHigh (s : State) : State := s.onTime (fun t => { t with ppsOut := true, ppsAt := s.ctr })

/-- PPS_OUT: the output rises at the next whole second of network time (R265). -/
def State.ppsOutRise (s : State) : State :=
  if !s.rdy 4 || !s.on TIME_CTRL.PPS_OUT_EN || s.time.ppsOut then s
  else (s.reachNs (divUp s.netNs 1000000000 * 1000000000)).ppsHigh

/-- PPS_OUT_FALL: 100 ms after it rose, whatever network time does (R265). -/
def State.ppsOutFall (s : State) : State :=
  if !s.time.ppsOut then s
  else (s.reachCtr (s.time.ppsAt + msTicks 100)).onTime (fun t => { t with ppsOut := false })

/-! ## Launch queues (R270 to R275) -/

/-- A frame joins a queue: at once ahead of every timed one, else by time, equal times in order of acceptance. -/
def lqInsert (f : LFrame) : List LFrame → List LFrame
  | [] => [f]
  | g :: r =>
    let before := match f.at?, g.at? with
      | none, some _ => true
      | some a, some b => decide (a < b)
      | _, none => false
    if before then f :: g :: r else g :: lqInsert f r

/-- Is q a launch queue (R270)? -/
def launchQ (q : Nat) : Bool := q < 6 || (8 ≤ q && q < 20)

/-- The late window of a queue in ns (R270). -/
def lateWindow (q : Nat) : Nat := if 16 ≤ q then 2000000 else 10000

/-- Is the block of a queue's port ready? -/
def State.launchReady (s : State) (q : Nat) : Bool :=
  s.rdy 4 && (if q < 6 then s.rdy 8 else if q < 16 then s.rdy 19 else s.rdy 22)

/-- Payload octets of a CAN frame by DLC (R442). -/
def canLen (dlc : Nat) (fdf : Bool) : Nat :=
  if dlc ≤ 8 then dlc else if fdf then [12, 16, 20, 24, 32, 48, 64].getD (dlc - 9) 64 else 8

/-- Does a frame set ACT (bit 0 of TXFLAGS), or ONE_SHOT (bit 1)? -/
def txFlag (f : List Byte) (k : Nat) : Bool := (f.getD 5 0).getLsbD k

/-- A CAN frame that R443 refuses with RANGE. -/
def State.canRange (s : State) (n : Nat) (f : List Byte) : Bool :=
  let id := ofLe (f.take 4)
  let fmt := (f.getD 4 0).toNat
  let fdf := bitsOf fmt 4 1 == 1
  let fd := s.on (CAN_CTRL.FD n)
  f.length != 16 + canLen (fmt % 16) fdf || 2 ^ 31 ≤ id || bitsOf fmt 7 1 == 1 || 4 ≤ (f.getD 5 0).toNat ||
    (bitsOf id 30 1 == 1 && fdf) || (!fd && (fdf || bitsOf fmt 5 1 == 1)) || bitsOf fmt 6 1 == 1

/-- Is the frame forbidden (R272, R275, R443)? -/
def State.launchDenied (s : State) (q : Nat) (f : List Byte) : Bool :=
  if q < 6 then !s.on (PORT_CTRL.EN q)
  else if q < 16 then !(s.mode == 2 && !s.on SAST_CTRL.EN)
  else !s.on (CAN_CTRL.EN (q - 16)) || s.on (CAN_CTRL.LISTEN (q - 16)) || (txFlag f 0 && !s.gate 3)

/-- A frame offered to a launch queue (R274, R275, R443): the code, the ticket, the state. `bad` says that a field or a
bit of the operands is out of range. -/
def State.launchOffer (s : State) (bad : Bool) (addr len q secs ns : Nat) (late : Bool) : Nat × Nat × State :=
  let at' := secs * 1000000000 + ns
  let timed := at' != 0
  let far := timed && decide (s.netNs + 16000000000 < at')
  let past := timed && decide (at' < s.netNs)
  if !launchQ q && s.rdy 4 then (ccRange, 0, s)
  else if !s.launchReady q then (ccBusy, 0, s)
  else if bad || addr % 8 ≠ 0 || 2 ^ 36 < addr + len || len = 0 || 9216 < len || 1000000000 ≤ ns || far then
    (ccRange, 0, s)
  else match s.dmaRead addr len with
  | none => let (cc, s) := s.dmaFail addr len; (cc, 0, s)
  | some f =>
    let s := s.dmaMet addr len
    if 16 ≤ q && s.canRange (q - 16) f then (ccRange, 0, s)
    else if s.launchDenied q f then (ccDenied, 0, s)
    else if past && !late then (ccLate, 0, s)
    else if !s.lqRoom q len then (ccFull, 0, s)
    else
      let t := s.time.ticket
      let s := (s.ctlMet 10 (launchKey q)).onTime (fun x => { x with ticket := (x.ticket + 1) % 2 ^ 32 })
      (ccOk, t, s.setLq q (lqInsert ⟨t, if timed then some at' else none, late, f⟩ (s.lq q)))

/-- TLAUNCH's operands (R274): the code, rd, the state. -/
def State.tlaunchOp (s : State) (ra rb : Nat) (w : Wide) : Nat × Nat × State :=
  let x := w.toNat
  let bad := 2 ^ 40 ≤ ra || 2 ^ 21 ≤ rb || bitsOf rb 14 2 != 0 || 2 ^ 81 ≤ x
  s.launchOffer bad ra (rb % 16384) (bitsOf rb 16 5) (x % 2 ^ 48) (bitsOf x 48 32) (bitsOf x 80 1 == 1)

/-- A frame dropped because its late window has passed (R271). -/
def State.lqDrop (s : State) (q : Nat) (f : LFrame) (rest : List LFrame) : State :=
  (((s.setLq q rest).count (TIME_LQ.LATE_DROP q) 1).wr TIME_LATE_TICKET.TICKET f.ticket).up TIME_EVT.LATE_DROP

/-- Does a frame at the head start after its late window? -/
def State.isLate (s : State) (q : Nat) (f : LFrame) : Bool := match f.at? with
  | some t => decide (t + lateWindow q < s.netNs)
  | none => false

end Sys2Proof.Machine
end

