-- ==== Sys2Proof/Machine/Can.lean ====
section
/-!
DEFINITION. Sys2Proof/Machine/Can.lean: the CAN ports, and the launch of a frame from any launch queue (R270, R271, R438
to R449).
-/

namespace Sys2Proof.Machine

/-- A CAN port. -/
def State.can' (s : State) (n : Nat) : CanSt := SMap.get (fun _ => {}) s.can n
def State.setCan (s : State) (n : Nat) (c : CanSt) : State := { s with can := SMap.put (fun _ => {}) s.can n c }

/-- The bit of a port in a four-bit field of CAN_EVT. -/
def canEvt (f : Fld) (n : Nat) : Fld := ⟨f.a, f.lo + n, 1⟩

/-! ## Transmission (R443 to R445) -/

/-- The results of R444. -/
abbrev txSent : Nat := 0
abbrev txArbLost : Nat := 1
abbrev txError : Nat := 2
abbrev txLateDrop : Nat := 3
abbrev txHoldDrop : Nat := 4
abbrev txDisabled : Nat := 5

/-- The end of an attempt (R445): CAN_TXST, CAN_TXTKT, CAN_TXCNT, and TX_FAIL unless the frame was sent. -/
def State.txResult (s : State) (n ticket result : Nat) : State :=
  let s := (s.wr (CAN_TXST.RESULT n) result).wr (CAN_TXTKT.TICKET n) ticket
  if result = txSent then s.count (CAN_TXCNT.SENT n) 1
  else (s.count (CAN_TXCNT.FAIL n) 1).up (canEvt CAN_EVT.TX_FAIL n)

/-- Queued frames of a port that a test names end at once with a result. -/
def State.canDiscard (s : State) (n : Nat) (p : LFrame → Bool) (result : Nat) : State :=
  let l := s.lq (16 + n)
  (l.filter p).foldl (fun s f => s.txResult n f.ticket result) (s.setLq (16 + n) (l.filter (fun f => !p f)))

/-- The gate of actuating frames has closed: queued ACT frames are discarded (R444). -/
def State.canGate (s : State) : State :=
  if s.gate 3 then s
  else (List.range 4).foldl (fun s n => s.canDiscard n (fun f => txFlag f.data 0) txHoldDrop) s

/-- A chain frame from its bytes 0 to 15 + LEN (R182), sent now: the engine stamps TIME where it carries a send time, as SYNC
and ECHO_REQ do (R184, R266). -/
def chainOf (ns : Nat) (b : List Byte) : ChainFrame :=
  let at' (o n : Nat) : Nat := ofLe ((b.drop o).take n)
  ⟨at' 1 1, at' 0 1 / 128, at' 0 1 % 16, b.drop 16, at' 4 2, if at' 1 1 = 1 || at' 1 1 = 4 then ns else at' 8 8⟩

/-- May a frame of a chain launch queue go (R18, R181)? A standby sends ECHO_REQ and CAP_REQ only; a TX makes a head transmit, which
takes HOLD, and one that carries setpoints or surges the gate of R355 as well. One that may not go is discarded (log entry 45). -/
def State.chainLaunches (s : State) (g : ChainFrame) : Bool :=
  let mac := ofLe ((g.data.drop 4).take 1)
  if s.standsBy then g.typ == 0x04 || g.typ == 0x05
  else if g.typ = 0x02 then s.holds && (!(mac == 0x02 || mac == 0x03 || mac == 0x0C) || s.gate 0)
  else true

/-- LAUNCH: the head of a queue is sent at its launch time, or as soon as its port allows it (R270, R271, R444). -/
def State.launch (s : State) (q : Nat) : State :=
  match s.lq q with
  | [] => s
  | f :: rest =>
    let s := (match f.at? with | some t => s.reachNs t | none => s).ctlMet 10 (launchKey q)
    let late := s.isLate q f
    if !s.launchReady q then s
    else if late && !f.late then
      let s := s.lqDrop q f rest
      let s := if 8 ≤ q && q < 16 then s.chainRelease (q - 8) else s
      if 16 ≤ q then s.txResult (q - 16) f.ticket txLateDrop else s
    else
      let sent (s : State) : State := if late then s.count (TIME_LQ.LATE_SENT q) 1 else s
      if q < 6 then
        let p := s.port q
        let pri := s.framePri q f.data
        if p.tx.isSome || !s.on (PORT_LINK.UP q) || !s.on (PORT_CTRL.EN q) || s.paused q pri then s
        else if s.skewed q && pri < 6 && !isPtp f.data then (s.setLq q rest).skewDrop
        else
          let s := sent (s.setLq q rest)
          match s.protect q (padFrame f.data) with
          | (some b, s) => s.wire q b
          | (none, s) => s
      else if q < 16 then
        let g := chainOf s.netNs f.data
        let s := s.setLq q rest
        (if s.chainLaunches g then (sent s).say [.chain (q - 8) g] else s).chainRelease (q - 8)
      else
        let n := q - 16
        if (s.can' n).tx.isSome || s.rd (CAN_ERR.STATE n) = 2 || !s.on (CAN_CTRL.EN n) then s
        else (s.setLq q rest).setCan n ⟨some f, late⟩

/-- LATE_DROP: the queue's first timed frame without LATE_SEND could not start within its late window (R271). -/
def State.lateDrop (s : State) (q : Nat) : State :=
  match (s.lq q).find? (fun f => f.at?.isSome && !f.late) with
  | none => s
  | some f =>
    let s := (s.reachNs (f.at?.getD 0 + lateWindow q)).lqDrop q f ((s.lq q).erase f)
    let s := if 8 ≤ q && q < 16 then s.chainRelease (q - 8) else s
    if 16 ≤ q then s.txResult (q - 16) f.ticket txLateDrop else s

/-- TX_ATTEMPT_END: the attempt on the bus ends (R444): sent, ended by ONE_SHOT, or to be tried again at the next bus
idle, unless its frame has to be discarded by now. -/
def State.txAttemptEnd (s : State) (n : Nat) (o : TxOutcome) : State :=
  match (s.can' n).tx with
  | none => s
  | some f =>
    let late := (s.can' n).late
    let s := s.setCan n ⟨none, false⟩
    let fail (s : State) (r : Nat) : State :=
      if txFlag f.data 1 then s.txResult n f.ticket r
      else if !s.on (CAN_CTRL.EN n) then s.txResult n f.ticket txDisabled
      else if txFlag f.data 0 && !s.gate 3 then s.txResult n f.ticket txHoldDrop
      else s.setLq (16 + n) (f :: s.lq (16 + n))
    match o with
    | .acked => (if late then s.count (TIME_LQ.LATE_SENT (16 + n)) 1 else s).txResult n f.ticket txSent
    | .lostArbitration => fail s txArbLost
    | .error lec => fail (s.wr (CAN_ERR.LEC n) lec) txError

/-- A command of the CAN interface ends. -/
def State.canDone (s : State) (cc : Nat) : State := s.done CAN_STAT.addr CAN_EVT.CMD_DONE cc

/-- SEND (R442, R443). -/
def State.canSend (s : State) : State :=
  let d0 := s.rd CAN_DATA0.VALUE
  let addr := s.rd CAN_KEY.VALUE + 2 ^ 32 * (d0 % 256)
  let secs := s.rd CAN_DATA1.VALUE + 2 ^ 32 * (s.rd CAN_DATA2.VALUE % 65536)
  let (cc, t, s) := s.launchOffer (2 ^ 25 ≤ d0) addr (bitsOf d0 8 14) (16 + bitsOf d0 22 2) secs
    (s.rd CAN_DATA3.VALUE) (bitsOf d0 24 1 == 1)
  (if cc = ccOk then s.wr CAN_DATA0.VALUE t else s).canDone cc

/-! ## Settings (R440, R444) -/

/-- The checks of R440. -/
def State.canCfgOk (s : State) (n : Nat) : Bool :=
  let t1 := s.rd (CAN_NBT.TSEG1 n) + 1
  let t2 := s.rd (CAN_NBT.TSEG2 n) + 1
  let bit := (s.rd (CAN_NBT.BRP n) + 1) * (1 + t1 + t2)
  let d1 := s.rd (CAN_DBT.TSEG1 n) + 1
  let d2 := s.rd (CAN_DBT.TSEG2 n) + 1
  let dbit := (s.rd (CAN_DBT.BRP n) + 1) * (1 + d1 + d2)
  let base := s.rd (CAN_RX_LO.BASE_LO n) * 64 + s.rd (CAN_RX_HI.BASE_HI n) * 2 ^ 32
  let size := s.rd (CAN_RX_SIZE.SIZE n)
  decide (2 ≤ t1) && decide (2 ≤ t2) && decide (s.rd (CAN_NBT.SJW n) + 1 ≤ t2) && decide (80 ≤ bit) &&
    (!s.on (CAN_CTRL.FD n) ||
      (decide (s.rd (CAN_DBT.SJW n) + 1 ≤ d2) && decide (16 ≤ dbit) && decide (dbit ≤ bit) &&
        (decide (80 ≤ dbit) || s.on (CAN_DBT.TDC_EN n)))) &&
    (!s.on (CAN_CTRL.TRIPLE n) || (decide (n < 2) && decide (640 ≤ bit) && decide (3 ≤ t1))) &&
    decide (16 ≤ size) && decide (size ≤ 4096) && decide (base + 80 * size ≤ 2 ^ 36)

/-- A write of CAN_CTRL (R440, R444, R447): the locked fields follow only while EN is 0; EN written 1 is checked, EN
written 0 discards the queue. -/
def State.canCtrlWrite (s : State) (n : Nat) (v : Word) : State :=
  let x := v.toNat
  let was := s.on (CAN_CTRL.EN n)
  let s := (s.wr (CAN_CTRL.ACCEPT_ALL n) (x / 8)).wr (CAN_CTRL.TERM n) (x / 32)
  let s := if was then s else
    ((if n < 2 then s.wr (CAN_CTRL.TRIPLE n) (x / 2) else s).wr (CAN_CTRL.FD n) (x / 4)).wr (CAN_CTRL.LISTEN n) (x / 16)
  if x % 2 = 0 then (s.down (CAN_CTRL.EN n)).canDiscard n (fun _ => true) txDisabled
  else if was then s
  else if s.canCfgOk n then
    ((s.up (CAN_CTRL.EN n)).wr (CAN_RX_HEAD.HEAD n) 0).wr (CAN_RX_TAIL.TAIL n) 0
  else s.up (canEvt CAN_EVT.CFG_ERR n)

/-! ## Reception (R446, R447) -/

/-- Does a frame match an enabled filter? -/
def State.canAccepts (s : State) (n : Nat) (f : CanFrame) : Bool :=
  s.on (CAN_CTRL.ACCEPT_ALL n) || (List.range 32).any (fun k =>
    s.on (CAN_FLT_ID.EN n k) && s.on (CAN_FLT_ID.IDE n k) == f.ide &&
      ((f.id ^^^ s.rd (CAN_FLT_ID.ID n k)) &&& s.rd (CAN_FLT_MASK.MASK n k)) == 0)

/-- The 80 bytes of a receive record (R442, R447). -/
def canRecord (f : CanFrame) (ns : Nat) : List Byte :=
  let b (c : Bool) (k : Nat) : Nat := if c then 2 ^ k else 0
  let pay := f.data.take (canLen f.dlc f.fdf)
  leBytes 4 (f.id % 2 ^ 29 + b f.ide 29 + b f.rtr 30) ++
    [BitVec.ofNat 8 (f.dlc % 16 + b f.fdf 4 + b f.brs 5 + b f.esi 6), 0] ++
    leBytes 6 (ns / 1000000000) ++ leBytes 4 (ns % 1000000000) ++
    pay ++ List.replicate (64 - pay.length) 0

/-- CAN_RX: a frame on the bus, its start of frame at the present network time. -/
def State.canRx (s : State) (n : Nat) (f : CanFrame) : State :=
  if 4 ≤ n || !s.rdy 22 || !s.on (CAN_CTRL.EN n) || (f.fdf && !s.on (CAN_CTRL.FD n)) || !s.canAccepts n f then s
  else
    let size := s.rd (CAN_RX_SIZE.SIZE n)
    let h := s.rd (CAN_RX_HEAD.HEAD n)
    let next := (h + 1) % size
    if next = s.rd (CAN_RX_TAIL.TAIL n) then
      (s.countMod (CAN_RX_DROP.COUNT n) 1).up (canEvt CAN_EVT.RX_OVF n)
    else
      let base := s.rd (CAN_RX_LO.BASE_LO n) * 64 + s.rd (CAN_RX_HI.BASE_HI n) * 2 ^ 32
      let s := (s.dmaWrite (base + 80 * h) (canRecord f s.netNs)).2
      (s.wr (CAN_RX_HEAD.HEAD n) next).up (canEvt CAN_EVT.RX n)

/-- A write of CAN_RX_TAIL: a value at or above SIZE is ignored (R447). -/
def State.canTailWrite (s : State) (n : Nat) (v : Word) : State :=
  let x := v.toNat % 4096
  if s.rd (CAN_RX_SIZE.SIZE n) ≤ x then s else s.wr (CAN_RX_TAIL.TAIL n) x

/-! ## Errors (R448) -/

/-- The code of CAN_ERR.STATE. -/
def canStateCode : CanState → Nat
  | .active => 0
  | .passive => 1
  | .busOff => 2

/-- BUS_OFF: the error counters, and the state, which sets STATE where it changes; bus-off is an F0 fault of cause 0x02
for the CAN island, and ends an attempt of a frame with ONE_SHOT. -/
def State.canErr (s : State) (n tec rec lec : Nat) (st : CanState) : State :=
  if 4 ≤ n || !s.rdy 22 then s
  else
    let old := s.rd (CAN_ERR.STATE n)
    let c := canStateCode st
    let s := (((s.wr (CAN_ERR.TEC n) (min tec 255)).wr (CAN_ERR.REC n) (min rec 127)).bit (CAN_ERR.RP n)
      (decide (128 ≤ rec))).wr (CAN_ERR.LEC n) lec
    if old = c then s
    else
      let s := (s.wr (CAN_ERR.STATE n) c).up (canEvt CAN_EVT.STATE n)
      if c = 2 then (s.txAttemptEnd n (.error lec)).raiseSimple 0x02 19 0 else s

end Sys2Proof.Machine
end

