-- ==== Sys2Proof/Machine/Moraine.lean ====
section
/-!
DEFINITION. Sys2Proof/Machine/Moraine.lean: Moraine, the stream store (R310 to R329).
-/

namespace Sys2Proof.Machine

/-- Moraine changed. -/
def State.onMor (s : State) (f : Mor → Mor) : State := { s with mor := f s.mor }

/-- A stream. -/
def State.stream (s : State) (n : Nat) : Option Stream := SMap.get (fun _ => none) s.mor.streams n
def State.setStream (s : State) (n : Nat) (x : Stream) : State :=
  s.onMor (fun m => { m with streams := SMap.put (fun _ => none) m.streams n (some x) })

/-! ## Sizes -/

/-- Octets a record takes in a block and in a reader's buffer (R319): header, payload, padding to 8. -/
def MRec.size (r : MRec) : Nat := 24 + (r.data.length + 7) / 8 * 8

/-- A record as a read writes it (R319). -/
def MRec.bytes (r : MRec) : List Byte :=
  leBytes 8 r.seq ++ leBytes 6 (r.ns / 1000000000) ++ leBytes 4 (r.ns % 1000000000) ++ leBytes 2 r.data.length ++
    leBytes 4 r.tag ++ r.data ++ List.replicate ((r.data.length + 7) / 8 * 8 - r.data.length) 0

/-- What a record takes in staging, and a block on the drives: compressed, and never more than it is (log entry 12). -/
def packedSize (bs : List Byte) : Nat := min (Config.packed bs) bs.length

/-- Staging in use, octets. -/
def State.stageUse (s : State) : Nat :=
  s.mor.streams.foldl (fun a (p : Nat × Option Stream) => match p.2 with
    | some x => x.staged.foldl (fun a r => a + packedSize r.bytes) a
    | none => a) 0

/-- MOR_STAGE follows the staging; STAGE_HIGH sets where it passes 75 %. -/
def State.stageRegs (s : State) (before : Nat) : State :=
  let u := s.stageUse
  let s := s.wr MOR_STAGE.USED (divOpen u 131072)
  if before * 4 ≤ morSize * 3 && morSize * 3 < u * 4 then s.up MOR_EVT.STAGE_HIGH else s

/-- A stream's use on the drives, octets. -/
def Stream.use (x : Stream) : Nat := x.blocks.foldl (fun a b => a + b.size) 0

/-! ## Drives and groups (R312 to R316) -/

/-- Does a drive meet R311, being dual-ported apart: one namespace, NSID 1, of 4,096-byte LBAs, a queue pair, the commands? -/
def driveFits (x : DriveId) : Bool := x.spaces == 1 && x.lba == 4096 && x.queues != 0 && x.commands

/-- What the drive found in a slot says of itself. -/
def State.driveId (s : State) (d : Nat) : Option DriveId := SMap.get (fun _ => none) s.mor.drives d

/-- The group of a slot. -/
abbrev groupOf (d : Nat) : Nat := d / 8

/-- The member slots of a group, and those of them that are FAILED. -/
def State.slots (s : State) (g : Nat) : List Nat := s.mor.members.filter (fun d => groupOf d == g)
def State.lostSlots (s : State) (g : Nat) : List Nat := (s.slots g).filter (fun d => s.on (MOR_DRIVE.FAILED d))

/-- Octets on a group's blocks. -/
def State.groupUse (s : State) (g : Nat) : Nat :=
  s.mor.streams.foldl (fun a (p : Nat × Option Stream) => match p.2 with
    | some x => x.blocks.foldl (fun a b => if b.group = g then a + b.size else a) a
    | none => a) 0

/-- Octets of data a group can hold: (n - 2) times its smallest drive (R314). -/
def State.groupCap (s : State) (g : Nat) : Nat :=
  let l := (s.slots g).map (fun d => ((s.driveId d).map DriveId.blocks).getD 0 * 4096)
  (l.length - 2) * (match l with | a :: r => r.foldl min a | [] => 0)

/-- MOR_GROUP follows the drives and blocks. -/
def State.groupRegs (s : State) : State :=
  (List.range 2).foldl (fun s g =>
    let lost := (s.lostSlots g).length
    let s := (s.wr (MOR_GROUP.LOST g) lost).wr (MOR_GROUP.FREE g) (divOpen (s.groupCap g - s.groupUse g) (10 ^ 11))
    s.bit (MOR_GROUP.DEGRADED g) (lost != 0)) s

/-- NVMe commands to some drives (R311). -/
def State.toDrives (s : State) (l : List Nat) (cs : List NvmeCmd) : State :=
  s.say (l.flatMap (fun d => cs.map (fun c => .nvme d c)))

/-- The members of a group that still answer. -/
def State.liveSlots (s : State) (g : Nat) : List Nat := (s.slots g).filter (fun d => !s.on (MOR_DRIVE.FAILED d))

/-- Does a rebuild run? -/
def State.rebuilds (s : State) : Bool := (List.range 16).any (fun k => s.on (MOR_DRIVE.REBUILDING k))

/-- Stripes of a group that hold data: (n - 2) chunks of 64 KiB each (R314). -/
def State.stripes (s : State) (g : Nat) : Nat := divUp (s.groupUse g) (((s.slots g).length - 2) * 65536)

/-- The stripes that the rebuild in progress has completed: its pace is free, up to REBUILD_PCT (R316; log entry 12). -/
def State.rebuildPos (s : State) (r : Rebuild) : Nat :=
  if s.holds then min (s.stripes (groupOf r.slot)) (r.stripe + Config.rebuilt (s.ctr - r.at') (s.rd MOR_CTRL.REBUILD_PCT)) else r.stripe

/-- A rebuild of a slot runs from a stripe on: it reads the other drives' chunks and writes the slot's (R313, R316). -/
def State.runRebuild (s : State) (d stripe : Nat) : State :=
  let s := (s.up (MOR_DRIVE.REBUILDING d)).onMor (fun m => { m with rebuild := some ⟨d, stripe, s.ctr⟩ })
  (s.toDrives (s.liveSlots (groupOf d)) [.read]).toDrives [d] [.write]

/-- A rebuild of a slot starts, where HOLD is held, none runs and its group still stands. -/
def State.startRebuild (s : State) (d : Nat) : State :=
  if !s.holds || s.rebuilds || s.on (MOR_GROUP.FAILED (groupOf d)) then s else s.runRebuild d 0

/-- The rebuild that is due by itself, if one is: an accepted drive stands in a FAILED slot (R316). -/
def State.nextRebuild (s : State) : State :=
  match s.mor.members.find? (fun k => s.on (MOR_DRIVE.FAILED k) && s.mor.accepted.contains k) with
  | some k => if s.on MOR_CTRL.AUTO_REBUILD then s.startRebuild k else s
  | none => s

/-- Queue pairs are set up with the accepted drives that have none, up to 64 each (R311); a standby sets none up (R313). -/
def State.queuePairs (s : State) : State :=
  if s.mode = 4 && !s.holds then s
  else s.mor.accepted.foldl (fun s d =>
    let n := min 64 (((s.driveId d).map DriveId.queues).getD 0)
    if SMap.get (fun _ => 0) s.mor.queues d ≠ 0 || n = 0 then s
    else (s.onMor (fun m => { m with queues := SMap.put (fun _ => 0) m.queues d n })).toDrives [d] [.setQueues n]) s

/-- Moraine's work as HOLD is won (R313, R316, R324): queue pairs, the rebuild in progress at the last completed stripe, or the
one that is due. -/
def State.morHolds (s : State) : State :=
  let s := s.queuePairs
  match s.mor.rebuild with
  | some r => s.runRebuild r.slot r.stripe
  | none => s.nextRebuild

/-- The rebuild in progress stands still as HOLD is lost. -/
def State.morPause (s : State) : State :=
  s.onMor (fun m => { m with rebuild := m.rebuild.map (fun r => { r with stripe := s.rebuildPos r }) })

/-- What a member drive that has been found shows of its group and of the blocks on it (R314, R318). -/
def State.foundGroup (s : State) (g : Nat) : State :=
  let s := ((s.wr (MOR_GROUP.DRIVES g) (s.slots g).length).up (MOR_GROUP.FORMED g))
  s.mor.streams.foldl (fun s (p : Nat × Option Stream) =>
    match (p.2.bind (fun x => x.blocks.getLast?)).bind (fun b => b.recs.getLast?) with
    | some r => s.wr (MOR_DURABLE.SEQ p.1) r.seq
    | none => s) s

/-- A drive is found in a slot and identified (R312, R316). -/
def State.identify (s : State) (d : Nat) (x : DriveId) : State :=
  let s := s.toDrives [d] [.identify]
  let ok := driveFits x && (x.dual || !s.on PAIR_STATUS.PAIRED)
  let member := s.mor.members.contains d
  let s := ((s.up (MOR_DRIVE.PRESENT d)).wr (MOR_DRIVE.CAP d) (divOpen (x.blocks * 4096) (10 ^ 10))).up
    MOR_EVT.DRIVE_FOUND
  let s := s.onMor (fun m =>
    { m with
      accepted := if ok then m.accepted.add d else m.accepted.del d
      drives := SMap.put (fun _ => none) m.drives d (some x)
      queues := SMap.put (fun _ => 0) m.queues d 0
      lost := if member && !ok then NSet.add m.lost d else m.lost })
  let s := (s.bit (MOR_DRIVE.FAILED d) (!ok || s.mor.lost.contains d)).queuePairs
  let s := if member then s.foundGroup (groupOf d) else s
  (if ok && s.on (MOR_DRIVE.FAILED d) && s.on MOR_CTRL.AUTO_REBUILD then s.startRebuild d else s).groupRegs

/-- STOR_LINK_UP: each drive behind the port is identified. -/
def State.storLink (s : State) (stor : Nat) (drives : List (Option DriveId)) : State :=
  if 4 ≤ stor || !s.rdy 21 then s
  else (List.range 4).foldl (fun s k => match drives.getD k none with
    | some x => s.identify (4 * stor + k) x
    | none => s) s

/-- DRIVE_INSERTED. -/
def State.driveInserted (s : State) (d : Nat) (x : DriveId) : State :=
  if 16 ≤ d || !s.rdy 21 then s else s.identify d x

/-- A drive fails (R315): whether its group has failed with it, and the state; the group's F2 fault is raised by the
caller. -/
def State.driveFails (s : State) (d : Nat) : Bool × State :=
  if 16 ≤ d || !s.rdy 21 || !s.mor.accepted.contains d then (false, s)
  else
    let g := groupOf d
    let s := s.onMor (fun m =>
      { m with
        accepted := m.accepted.del d
        queues := SMap.put (fun _ => 0) m.queues d 0
        lost := if m.members.contains d then NSet.add m.lost d else m.lost
        rebuild := m.rebuild.filter (fun r => r.slot != d) })
    let s := ((s.up (MOR_DRIVE.FAILED d)).down (MOR_DRIVE.REBUILDING d)).up MOR_EVT.DRIVE_LOST
    let s := s.groupRegs.raiseSimple 0x0A 15 (s.faultCase 0x0A 0 (s.lostSlots g).length)
    if 3 ≤ (s.lostSlots g).length && !s.on (MOR_GROUP.FAILED g) then
      let s := (s.slots g).foldl (fun s k => s.down (MOR_DRIVE.REBUILDING k)) s
      (true, ((s.onMor (fun m => { m with rebuild := m.rebuild.filter (fun r => groupOf r.slot != g) })).up
        (MOR_GROUP.FAILED g)).up MOR_EVT.GROUP_FAIL)
    else (false, s)

/-- REBUILT: the slot holds its chunks again; a further accepted drive in a FAILED slot is next (R316). -/
def State.rebuiltDrive (s : State) (d : Nat) : State :=
  if 16 ≤ d || !s.on (MOR_DRIVE.REBUILDING d) || !s.holds then s
  else
    let s := ((s.down (MOR_DRIVE.REBUILDING d)).down (MOR_DRIVE.FAILED d)).up MOR_EVT.REBUILT
    let s := s.onMor (fun m => { m with lost := m.lost.del d, rebuild := none })
    (s.groupRegs.toDrives [d] [.flush]).nextRebuild

/-- The next formed group in turn that stands, for an extent (R314, R315). -/
def State.pickGroup (s : State) : Option Nat :=
  [s.mor.turn, 1 - s.mor.turn].find? (fun g => s.on (MOR_GROUP.FORMED g) && !s.on (MOR_GROUP.FAILED g))

/-! ## Blocks, quotas and trimming (R318, R324 to R327) -/

/-- A block of some octets goes to the extent that its stream holds, while it has room and its group stands, else to a new one
of 64 MiB of the next group in turn (R314, R315): the group, what is left of the extent, and whether it is new. -/
def State.extentFor (s : State) (x : Stream) (size : Nat) : Option (Nat × Nat × Bool) :=
  let fresh : Option (Nat × Nat × Bool) := s.pickGroup.map (fun g => (g, 67108864 - size, true))
  match x.ext with
  | some (g, left) =>
    if size ≤ left && s.on (MOR_GROUP.FORMED g) && !s.on (MOR_GROUP.FAILED g) then some (g, left - size, false) else fresh
  | none => fresh

/-- Is a stream over its quota? -/
def Stream.tooBig (x : Stream) : Bool := x.quota != 0 && decide (x.quota * 10 ^ 9 < x.use)

/-- QUOTA_OVER follows a stream's use. -/
def State.quotaCheck (s : State) (n : Nat) : State :=
  match s.stream n with
  | none => s
  | some x =>
    let s := s.setStream n { x with overQuota := x.tooBig }
    if x.tooBig && !x.overQuota then s.up MOR_EVT.QUOTA_OVER else s

/-- The acceptance time in ns of a block's newest record: after a step back of network time not always its last (R317). -/
def MBlock.newest (b : MBlock) : Nat := b.recs.foldl (fun a r => max a r.ns) 0

/-- The oldest block of a stream goes, whole (R325, R327). -/
def Stream.dropOldest (x : Stream) : Stream :=
  match x.blocks with
  | [] => x
  | b :: r => { x with
      blocks := r
      gone := x.gone ++ b.recs.map (fun r => (r.seq, r.ns / 1000000000)) }

/-- The records that fill a 64 KiB block, and the rest. -/
def takeBlock : Nat → List MRec → List MRec × List MRec
  | _, [] => ([], [])
  | room, r :: rs =>
    if r.size ≤ room then
      let (a, b) := takeBlock (room - r.size) rs
      (r :: a, b)
    else ([], r :: rs)

/-- Blocks trimmed from the front until at least some octets are gone. -/
def trimBytes : Nat → Nat → Stream → Stream
  | 0, _, x => x
  | fuel + 1, need, x =>
    match x.blocks with
    | [] => x
    | b :: _ => if need = 0 then x else trimBytes fuel (need - b.size) x.dropOldest

/-- BLOCK_WRITE: a block that is full, or 500 ms after its first record (R318), while this module holds HOLD (R324). -/
def State.blockWrite (s : State) (n : Nat) : State :=
  match s.stream n with
  | none => s
  | some x =>
    let (recs, rest) := takeBlock 65536 x.staged
    let size := packedSize ((recs.map MRec.bytes).flatten)
    match s.extentFor x size with
    | none => s
    | some (g, left, new) =>
      if !s.rdy 21 || !s.on MOR_CTRL.EN || !s.holds || x.staged.isEmpty then s
      else
        let s := if rest.isEmpty then s.reachCtr ((x.staged.head?.map MRec.came).getD 0 + msTicks 500) else s
        let before := s.stageUse
        let y := { x with
          staged := rest
          blocks := x.blocks ++ [⟨g, recs, size⟩]
          ext := some (g, left) }
        let z := if x.overQuota then trimBytes y.blocks.length size y else y
        let cut := y.blocks.take (y.blocks.length - z.blocks.length)
        let s := (s.setStream n z).onMor (fun m => { m with turn := if new then 1 - g else m.turn })
        let s := match recs.getLast? with
          | some r => s.wr (MOR_DURABLE.SEQ n) r.seq
          | none => s
        cut.foldl (fun s b => s.toDrives (s.liveSlots b.group) [.deallocate])
          ((((s.quotaCheck n).groupRegs).stageRegs before).toDrives (s.liveSlots g) [.write, .flush])

/-- TRIM: the oldest block of a stream goes: over quota at once, else when its newest record is older than RETAIN. -/
def State.trim (s : State) (n : Nat) : State :=
  match s.stream n with
  | none => s
  | some x =>
    match x.blocks with
    | [] => s
    | b :: _ =>
      if !s.rdy 21 || !s.on MOR_CTRL.EN || !s.holds then s
      else if x.overQuota then
        ((s.setStream n x.dropOldest).quotaCheck n).groupRegs.toDrives (s.liveSlots b.group) [.deallocate]
      else if x.retain = 0 then s
      else
        let s := s.reachNs (b.newest + x.retain * 86400 * 1000000000 + 1)
        ((s.setStream n x.dropOldest).quotaCheck n).groupRegs.toDrives (s.liveSlots b.group) [.deallocate]

/-! ## EPUT (R321, R328) -/

/-- EPUT: the completion code, rd, the state. -/
def State.eputOp (s : State) (ra rb : Nat) (w : Wide) : Nat × Nat × State :=
  let len := rb % 4096
  let n := bitsOf rb 16 8
  if !s.rails || !s.rdy 21 then (ccBusy, 0, s)
  else if ra % 8 ≠ 0 || 2 ^ 36 < ra + len || 2 ^ 24 ≤ rb || bitsOf rb 12 4 ≠ 0 || len = 0 || 4064 < len ||
      2 ^ 32 ≤ w.toNat then (ccRange, 0, s)
  else if s.mode = 4 || s.mode ≤ 1 || !s.on MOR_CTRL.EN then (ccDenied, 0, s)
  else match s.stream n with
    | none => (ccNotFound, 0, s)
    | some x =>
      if !x.isOpen then (ccNotFound, 0, s)
      else match s.dmaRead ra len with
        | none => let (cc, s) := s.dmaFail ra len; (cc, 0, s)
        | some bs =>
          let s := s.dmaMet ra len
          let before := s.stageUse
          if morSize < before + 24 + len then (ccFull, 0, s)
          else
            let s := s.setStream n { x with
              next := x.next + 1,
              staged := x.staged ++ [⟨x.next, s.netNs, w.toNat, bs, s.ctr⟩] }
            (ccOk, x.next, s.stageRegs before)

/-! ## Commands (R329) -/

/-- A command of the MOR interface ends. -/
def State.morDone (s : State) (cc : Nat) : State := s.done MOR_STAT.addr MOR_EVT.CMD_DONE cc

/-- Some drives form the groups of their slots, and every stream is erased (R314). -/
def State.formGroups (s : State) (l : List Nat) : State :=
  let cnt (g : Nat) : Nat := (l.filter (fun d => groupOf d == g)).length
  let before := s.stageUse
  let s := s.onMor (fun m => { m with streams := [], members := l, lost := [], rebuild := none, turn := 0, cursor := [] })
  let s := l.foldl (fun s d => (s.down (MOR_DRIVE.FAILED d)).down (MOR_DRIVE.REBUILDING d)) s
  let s := (List.range 2).foldl (fun s g =>
    ((s.wr (MOR_GROUP.DRIVES g) (cnt g)).bit (MOR_GROUP.FORMED g) (cnt g != 0)).down (MOR_GROUP.FAILED g)) s
  let s := (List.range 256).foldl (fun s n => s.wr (MOR_DURABLE.SEQ n) 0) s
  s.groupRegs.stageRegs before

/-- FORMAT (R314). -/
def State.morFormat (s : State) : State :=
  let mask := s.rd MOR_DATA0.VALUE % 65536
  let l := (List.range 16).filter (fun d => bitsOf mask d 1 == 1)
  let cnt (g : Nat) : Nat := (l.filter (fun d => groupOf d == g)).length
  let few (g : Nat) : Bool := decide (0 < cnt g) && decide (cnt g < 4)
  if s.mode ≠ 2 || !s.holds then s.morDone ccDenied
  else if few 0 || few 1 || l.any (fun d => !s.mor.accepted.contains d) then s.morDone ccRange
  else ((s.formGroups l).toDrives l [.deallocate, .flush]).morDone ccOk

/-- STREAM_CFG (R317). -/
def State.streamCfg (s : State) : State :=
  let k := s.rd MOR_KEY.VALUE
  if 256 ≤ k || 2 ≤ s.rd MOR_DATA0.VALUE || 65536 ≤ s.rd MOR_DATA2.VALUE then s.morDone ccRange
  else
    let x := (s.stream k).getD {}
    ((s.setStream k { x with
      isOpen := s.rd MOR_DATA0.VALUE == 1,
      quota := s.rd MOR_DATA1.VALUE,
      retain := s.rd MOR_DATA2.VALUE }).quotaCheck k).morDone ccOk

/-- The oldest sequence number that remains of a stream. -/
def Stream.oldest (x : Stream) : Nat :=
  match x.blocks.flatMap (fun b => b.recs) ++ x.staged with
  | r :: _ => r.seq
  | [] => x.next

/-- STREAM_INFO. -/
def State.streamInfo (s : State) : State :=
  let k := s.rd MOR_KEY.VALUE % 256
  match s.stream k with
  | none => s.morDone ccNotFound
  | some x =>
    (((((s.wr MOR_DATA0.VALUE (x.use / 1000000)).wr MOR_DATA1.VALUE (if x.overQuota then 1 else 0)).wr MOR_DATA2.VALUE
      x.oldest).wr MOR_DATA3.VALUE (s.rd (MOR_DURABLE.SEQ k))).morDone ccOk)

/-- Records in sequence order, each number once (R323): what does not rise is a second copy. -/
def risingFrom : Nat → List MRec → List MRec
  | _, [] => []
  | q, r :: rs => if q ≤ r.seq then r :: risingFrom (r.seq + 1) rs else risingFrom q rs

/-- The blocks of a stream that this module can read: of standing groups, unless it may not read the drives (R313, R315). -/
def State.openBlocks (s : State) (x : Stream) : List MBlock :=
  if s.mode = 4 then [] else x.blocks.filter (fun b => !s.on (MOR_GROUP.FAILED b.group))

/-- The records that a read of a stream can return: those in the blocks that this module can read, and those in staging. -/
def State.readable (s : State) (x : Stream) : List MRec :=
  risingFrom 0 ((s.openBlocks x).flatMap (fun b => b.recs) ++ x.staged)

/-- Records written one after another while they fit: the octets, how many, the last sequence number. -/
def fitRecs : Nat → List MRec → List Byte × List MRec
  | _, [] => ([], [])
  | room, r :: rs =>
    if r.size ≤ room then
      let (a, b) := fitRecs (room - r.size) rs
      (r.bytes ++ a, r :: b)
    else ([], [])

/-- The destination of a read: address and size in octets; none where it is out of range (R319). -/
def State.readDest (s : State) : Option (Nat × Nat) :=
  let d3 := s.rd MOR_DATA3.VALUE
  let a := s.rd MOR_DATA2.VALUE + 2 ^ 32 * (d3 % 256)
  let n := d3 / 256 * 4096
  if a % 4096 ≠ 0 || n = 0 || 2 ^ 36 < a + n then none else some (a, n)

/-- A read ends: the blocks of the records that fit are read from the drives of their groups, and the records written to the
destination (R319, R320). -/
def State.readEnd (s : State) (r : Req) (k a n : Nat) (l : List MRec) (trimmed : Bool) : State :=
  let s := (s.wr MOR_STAT.DONE 0).bit MOR_STAT.TRIMMED trimmed
  let (bs, done) := fitRecs n l
  let hit := (((s.stream k).map s.openBlocks).getD []).filter (fun b => b.recs.any done.contains)
  let s := hit.foldl (fun s b => s.toDrives (s.liveSlots b.group) [.read]) s
  match s.dmaWrite a bs with
  | (0x00, s) =>
    let s := s.wr MOR_STAT.DONE done.length
    let s := match done.getLast? with
      | some y => s.onMor (fun m => { m with cursor := SMap.put (fun _ => none) m.cursor r (some (k, y.seq)) })
      | none => s
    s.morDone ccOk
  | (0x0A, s) => s.morDone ccUe
  | (_, s) => s.morDone ccRange

/-- READ_RANGE (R320, R327). -/
def State.readRange (s : State) (r : Req) : State :=
  let key := s.rd MOR_KEY.VALUE
  let k := key % 256
  let hi := s.netSec / 2 ^ 32 * 2 ^ 32
  let lo := hi + s.rd MOR_DATA0.VALUE
  let up := hi + s.rd MOR_DATA1.VALUE
  match s.readDest with
  | none => s.morDone ccRange
  | some (a, n) =>
    match s.stream k with
    | none => s.morDone ccNotFound
    | some x =>
      let from' := if bitsOf key 8 1 = 1 then
          match SMap.get (fun _ => none) s.mor.cursor r with
          | some (k', q) => if k' = k then q + 1 else 0
          | none => 0
        else 0
      let l := (s.readable x).filter (fun y =>
        decide (from' ≤ y.seq) && decide (lo ≤ y.ns / 1000000000) && decide (y.ns / 1000000000 ≤ up))
      let gone := x.gone.any (fun p => decide (from' ≤ p.1) && decide (lo ≤ p.2) && decide (p.2 ≤ up))
      if l.isEmpty then ((s.wr MOR_STAT.DONE 0).bit MOR_STAT.TRIMMED gone).morDone ccNotFound
      else s.readEnd r k a n l gone

/-- READ_SEQ (R320, R327). -/
def State.readSeq (s : State) (r : Req) : State :=
  let k := s.rd MOR_KEY.VALUE % 256
  let q := s.rd64 MOR_DATA0.VALUE MOR_DATA1.VALUE
  match s.readDest with
  | none => s.morDone ccRange
  | some (a, n) =>
    match s.stream k with
    | none => s.morDone ccNotFound
    | some x =>
      let cur := s.mor.cursor
      match (s.readable x).find? (fun y => y.seq == q) with
      | none => ((s.wr MOR_STAT.DONE 0).down MOR_STAT.TRIMMED).morDone ccNotFound
      | some y => (s.readEnd r k a n [y] false).onMor (fun m => { m with cursor := cur })

/-- REBUILD (R316). Without HOLD the slot's drive may not be written, and in a FAILED group its chunks cannot be reconstructed:
DENIED there is the model's choice (R313, R315; log entry 12). -/
def State.rebuildCmd (s : State) : State :=
  let d := s.rd MOR_KEY.VALUE % 16
  if !s.on (MOR_DRIVE.FAILED d) || !s.mor.accepted.contains d || !s.holds || s.on (MOR_GROUP.FAILED (groupOf d)) then
    s.morDone ccDenied
  else if s.rebuilds then s.morDone ccBusy
  else (s.startRebuild d).morDone ccOk

/-- A write of MOR_CTRL (R322): EN 1 needs a region of 2 GiB wholly in DRAM. -/
def State.morCtrlWrite (s : State) (v : Word) : State :=
  let x := v.toNat
  let pct := bitsOf x 8 8
  let s := (s.wr MOR_CTRL.AUTO_REBUILD (x / 2)).wr MOR_CTRL.REBUILD_PCT (if pct = 0 then 1 else min pct 50)
  if x % 2 = 0 then s.down MOR_CTRL.EN
  else if s.on MOR_CTRL.EN then s
  else if 2 ^ 36 < s.morBase + morSize then s.up MOR_EVT.CFG_ERR
  else s.up MOR_CTRL.EN

end Sys2Proof.Machine
end

