-- ==== Sys2Proof/Machine/Radio.lean ====
section
/-!
DEFINITION. Sys2Proof/Machine/Radio.lean: what Sastrugi does with what the heads and the nodes send: uplink frames,
association, moves, losses, conflicts and collisions, discovery of the chains, breaks, tethers, and the SAST commands
(R188 to R192, R203, R207 to R221, R224).
-/

namespace Sys2Proof.Machine

/-! ## Conflicts and collisions (R203, R207) -/

/-- Is a level at or above RSSI_MIN? -/
def State.loud (s : State) (rssi : Int) : Bool := signedOf 8 (s.rd SAST_CONFLICT_CFG.RSSI_MIN) ≤ rssi

/-- A hearing counted for cells i and j in the window in progress. -/
def State.heardPair (s : State) (i j : Nat) (rssi : Int) : State :=
  if !s.holds || !s.loud rssi || 64 ≤ i || 64 ≤ j then s
  else
    let k := 64 * i + j
    let v := min (SMap.get (fun _ => 0) s.sast.conflict k + 1) 65535
    { s with sast := { s.sast with conflict := SMap.put (fun _ => 0) s.sast.conflict k v } }

/-- A window ends: the counts are latched (R203). -/
def State.conflictWindow (s : State) : State :=
  if s.standsBy then s
  else
    let sec := s.sast.winStart + s.rd SAST_CONFLICT_CFG.WINDOW
    let s := s.reachNs (sec * 1000000000)
    let m := s.sast.conflict
    let keys := (List.range 64).flatMap (fun i => (List.range 32).map (fun k => (i, k)))
    let t := keys.foldl (fun s p =>
      (s.wr (SAST_CONFLICT.EVEN p.1 p.2) (SMap.get (fun _ => 0) m (64 * p.1 + 2 * p.2))).wr (SAST_CONFLICT.ODD p.1 p.2)
        (SMap.get (fun _ => 0) m (64 * p.1 + 2 * p.2 + 1))) s
    ({ t with sast := { t.sast with conflict := [], winStart := sec } }).up SAST_EVT.WINDOW

/-- CONFLICT_CLR (R224): the matrix and the counts of the window in progress. -/
def State.conflictClr (s : State) : State :=
  let keys := (List.range 64).flatMap (fun i => (List.range 32).map (fun k => (i, k)))
  let t := keys.foldl (fun s p => s.setReg (SAST_CONFLICT.addr p.1 p.2) 0) s
  ({ t with sast := { t.sast with conflict := [] } }).sastDone ccOk

/-- A collision counted in a cell; COLLISION sets when 16 come in a superframe (R207). -/
def State.collide (s : State) (c : Nat) : State :=
  let x := s.cell c
  let s := (s.setCell c { x with coll := x.coll + 1 }).countMod (SAST_COLL.COUNT c) 1
  if x.coll + 1 = 16 then s.up SAST_EVT.COLLISION else s

/-- Does the slot-channel in which a node's frame came belong to another node, or to no uplink (R207)? A DED slot-channel that no
grant holds in the superframe belongs to nobody, and a frame there counts no collision (DESIGN CHOICE, log entry 45). -/
def State.misplaced (s : State) (n : Nat) (rx : RxInfo) : Bool :=
  match s.cellRec rx.head with
  | none => false
  | some r =>
    match r.typ rx.slot rx.ch with
    | 0 => true
    | 4 => true
    | 5 => (s.grantsOf rx.head).any (fun p => p.1 != n && p.2.slot == rx.slot && p.2.ch == rx.ch &&
        s.netSec % 2 ^ p.2.logP == p.2.phase)
    | _ => false

/-- Did the frame come in a slot-channel from which the node's grant was revoked (R211)? -/
def State.inRevoked (s : State) (n : Nat) (rx : RxInfo) : Bool :=
  (s.cell rx.head).embargo.any (fun e => e.1 == 8 * rx.slot + rx.ch && decide (s.netSec < e.2.1) && e.2.2 == n)

/-- Other cells in which the sender may stand: the same RF channel in the slot, and the same short address (R203). -/
def State.strayCells (s : State) (rx : RxInfo) : List Nat :=
  match s.cellRec rx.head with
  | none => []
  | some r =>
    (List.range 64).filter (fun j => j != rx.head && (s.nodeByShort j rx.short).isSome &&
      (match s.cellRec j with
       | some q => (List.range 8).any (fun i => q.rf[i]? == r.rf[rx.ch]? && q.typ rx.slot i != 0)
       | none => false))

/-! ## Uplink (R181, R197, R289, R295, R486) -/

/-- Did a frame lie within steps 4 and 5 of its slot: begun at 1,000 µs by the node's idea, ± 20 µs (R222), and ended by
4,800 µs (R194)? -/
def rxInTime (rx : RxInfo) : Bool := 980 ≤ rx.start && rx.start ≤ rx.stop && rx.stop ≤ 4800

/-- Something of a node was heard: its supervision restarts (R218). -/
def State.heardMac (s : State) (n : Nat) : State :=
  match s.mac n with
  | some m => s.setMac n (some { m with heard := s.ctr, heardSec := s.netSec })
  | none => s

/-- A node was heard: its supervision restarts, and an address kept under R218 is associated again (R486). RESYNC_AUTO of R73 does
not resync it: it kept its short address and sent no ASSOC_REQ (DESIGN CHOICE, log entry 45). -/
def State.heardNode (s : State) (n : Nat) : State :=
  let s := match s.mac n with
    | some m => s.setMac n (some { m with heard := s.ctr, heardSec := s.netSec, lost := false })
    | none => s
  match s.nodeEnt n with
  | some e => if e.assoc then s else (s.setNode n (some { e with assoc := true })).headCounts
  | none => s

/-- The misplaced frame of a slot-channel is counted: a collision of its head's cell (R207), and a frame of the cells in
which its sender may stand (R203). -/
def State.stray (s : State) (rx : RxInfo) (wrong : Bool) : State :=
  let s := if wrong then s.collide rx.head else s
  (s.strayCells rx).foldl (fun s j => s.heardPair rx.head j rx.rssi) s

/-- An uplink frame of an associated node: resolved, placed, and handed to what its type asks; a miss is discarded and
answered with DISASSOC. A frame partly outside its slot's window is discarded (R194). -/
def State.uplink (s : State) (rx : RxInfo) (act : Nat → State → State) : State :=
  if !s.holds || !rxInTime rx then s
  else
  let s := s.shortCheck rx.head rx.short
  match s.nodeByShort rx.head rx.short with
  | none => (s.stray rx (s.misplaced (2 ^ 18) rx)).queueMac rx.head rx.short 0x09 (2 ^ 18) []
  | some n =>
    let s := (s.touchNode n).heardNode n
    let s := if s.misplaced n rx then s.stray rx true else s
    let s := if s.inRevoked n rx then s.sendGrant rx.head n else s
    act n s

/-- The PSDU of an uplink frame less its FCS (R197, R484). -/
def psduOf (typ : Nat) (rx : RxInfo) (payload : List Byte) : List Byte :=
  leBytes 1 typ ++ leBytes 2 rx.short ++ leBytes 1 rx.seq ++ payload

/-- The node's DQ and RQ queues (R289). -/
def State.dqOf (s : State) (n : Nat) : Nat := ((s.nodeEnt n).map NodeEnt.dq).getD 0
def State.rqOf (s : State) (n : Nat) : Nat := ((s.nodeEnt n).map NodeEnt.rq).getD 0

/-- The payload of a REPORT (R484). -/
def reportBytes (r : Report) : List Byte :=
  leBytes 2 r.applied ++ leBytes 1 r.flags ++ leBytes 1 (codeOf 8 r.temp) ++ leBytes 1 r.survHead ++
    leBytes 1 (codeOf 8 r.survRssi) ++ leBytes 1 (codeOf 8 r.ownRssi) ++ leBytes 1 r.items.length ++
    (r.items.map (fun i => leBytes 1 i.1 ++ leBytes 5 i.2)).flatten

/-- A short address free in a cell, freely chosen (R208). -/
def State.freeShort (s : State) (c : Nat) : Nat × State :=
  let (x, s) := s.draw
  let used := s.shortsIn c
  let k := ((List.range (used.length + 1)).find? (fun i => !used.contains ((x + i) % 65533 + 1))).getD 0
  ((x + k) % 65533 + 1, s)

/-- Is a node in a tether? -/
def State.tethered (s : State) (n : Nat) : Bool := (present s.sast.tethers).any (fun p => p.2.node == some n)

/-- Has a cell room for one more node (R15, R217)? -/
def State.roomIn (s : State) (c : Nat) : Bool := (s.cellRec c).isSome && s.cellLoad c < 4096

/-- A move to a cell begins, in place of one under way: MOVE goes to the node, which switches 2 superframes ahead (R217). -/
def State.startMove (s : State) (n j : Nat) : State :=
  match s.mac n, s.nodeEnt n with
  | some m, some e =>
    let (short, s) := s.freeShort j
    let (g, s) := s.allot j m.logP
    let s := s.setMac n (some { m with move := some ⟨j, short, g, s.netSec + 2⟩, survCount := 0 })
    let s := (s.queueMac e.head e.short 0x07 n ([j, short] ++ grantFields g ++ [s.netSec + 2])).usedReg j
    match m.move with | some v => s.usedReg v.cell | none => s
  | _, _ => s

/-- A REPORT's survey (R203, R216, R217). -/
def State.survey (s : State) (n : Nat) (r : Report) : State :=
  match s.mac n, s.nodeEnt n with
  | some m, some e =>
    if bitsOf r.flags 3 1 = 0 then s
    else
      let s := s.heardPair e.head r.survHead r.survRssi
      let better := decide (r.ownRssi + (s.rd SAST_HANDOVER_CFG.MARGIN : Int) ≤ r.survRssi) && r.survHead != e.head
      let cnt := if !better then 0 else if m.survHead = r.survHead then m.survCount + 1 else 1
      let s := s.setMac n (some { m with survHead := r.survHead, survCount := cnt })
      if s.on SAST_CTRL.HANDOVER_AUTO && s.rd SAST_HANDOVER_CFG.COUNT ≤ cnt && s.roomIn r.survHead && m.move.isNone &&
          m.wcode = 0 && !s.tethered n then s.startMove n r.survHead
      else s
  | _, _ => s

/-- REPORT (R484). -/
def State.report (s : State) (rx : RxInfo) (r : Report) : State :=
  s.uplink rx (fun n s =>
    let s := match s.mac n with
      | some m => s.setMac n (some { m with repAt := s.ctr })
      | none => s
    ((s.firnReport n r).survey n r).deliver (s.rqOf n) (psduOf 0x21 rx (reportBytes r)) 0 n)

/-- DETECT (R215): the second copy is discarded by SEQ. -/
def State.detect (s : State) (rx : RxInfo) (data : List Byte) : State :=
  s.uplink rx (fun n s =>
    let again := match s.mac n with
      | some m => match m.det with
        | some (q, t) => q == rx.seq && decide (s.ctr ≤ t + msTicks 100)
        | none => false
      | none => false
    if again then s
    else
      let s := match s.mac n with
        | some m => s.setMac n (some { m with det := some (rx.seq, s.ctr) })
        | none => s
      s.deliver (s.dqOf n) (psduOf 0x23 rx data) 0 n)

/-- DATA_UP (R289). -/
def State.dataUp (s : State) (rx : RxInfo) (data : List Byte) : State :=
  s.uplink rx (fun n s => s.deliver (s.rqOf n) (psduOf 0x25 rx data) 0 n)

/-- PART_ACK (R70, R201). -/
def State.partAckRx (s : State) (rx : RxInfo) (frame epoch bitmap : Nat) : State :=
  s.uplink rx (fun n s => s.partAck n frame epoch bitmap)

/-- BAD_FCS_RX (R207). -/
def State.badFcs (s : State) (h : Nat) (rssi : Int) : State := if s.holds && s.loud rssi then s.collide h else s

/-! ## Association (R208, R210, R212, R290) -/

/-- The answers of R208. -/
abbrev assocOk : Nat := 0
abbrev assocFull : Nat := 1
abbrev assocDenied : Nat := 2

/-- ASSOC_REQ: Serac resolves or learns the node; the answer waits (R208, R290). Pending answers and promised moves count
towards the 4,096 nodes of the cell (R15). -/
def State.assocReq (s : State) (rx : RxInfo) (d : NodeCaps) : State :=
  if !s.holds || !rxInTime rx then s
  else
    let s := (if s.misplaced (2 ^ 18) rx then s.stray rx true else s).euiCheck d.eui
    let known := s.nodeByEui d.eui
    let s := match known with | some n => s.heardMac n | none => s
    let s := { s with sast := { s.sast with assocs := s.sast.assocs.filter (fun a => a.caps.eui != d.eui) } }
    let add (s : State) (n : Option Nat) (why : Nat) : State :=
      { s with sast := { s.sast with assocs := s.sast.assocs ++ [AssocReq.mk rx.head d n why s.netSec] } }
    let mine := if (s.nodesOf rx.head).any (fun p => some p.1 == known) then 1 else 0
    if !s.on SAST_CTRL.ASSOC_OPEN || d.macMaj != 1 || (known.isNone && !s.on (SRC_TBL.LEARN 0)) then
      add s none assocDenied
    else if 4096 + mine ≤ s.cellLoad rx.head then add s none assocFull
    else match known with
      | some n => add (s.touchNode n) (some n) assocOk
      | none =>
        let (n, s) := s.learnNode d.eui
        add s n (if n.isSome then assocOk else assocFull)

/-- The supervision timeout of a node with wake period 2^code (R212), in units of 100 ms. -/
def State.supOf (s : State) (code : Nat) : Nat :=
  if code = 0 then s.rd SAST_SUPERVISION.TIMEOUT else min 600 (max (s.rd SAST_SUPERVISION.TIMEOUT) (30 * 2 ^ code))

/-- ASSOC_RESP: Sastrugi answers; an accepted node gets its short address, grant and wake slot, and Firn resyncs it
while RESYNC_AUTO is 1 (R73, R208, R209, R212). Which free address, grant and wake slot it gets is a free choice. A node that is to
sleep listens for its answer all the time, so it does not wait for the wake slot that it names. An accepting answer carries in its
header the address that it gives, a refusal 0xFFFE (DESIGN CHOICE, log entry 45). -/
def State.assocResp (s : State) (eui : Nat) : State :=
  match (if s.holds then s.sast.assocs.find? (fun a => a.caps.eui == eui) else none) with
  | none => s
  | some a =>
    let s := { s with sast := { s.sast with assocs := s.sast.assocs.filter (fun b => b.caps.eui != eui) } }
    match a.node with
    | none => (s.queueMac a.cell 0xFFFE 0x08 (2 ^ 18) [a.refusal]).up SAST_EVT.ASSOC
    | some n =>
      match s.nodeEnt n with
      | none => s
      | some e =>
        let was := e.head
        let promised := ((s.mac n).bind NodeMac.move).map Move.cell
        let s := (s.setMac n none).setLeaver n none
        let s := s.setNode n (some { e with assoc := false, short := 0xFFFE })
        let (short, s) := s.freeShort a.cell
        let s := s.setNode n (some { e with head := a.cell, short := short, assoc := true })
        let (g, s) := s.allot a.cell (min a.caps.period 6)
        let code := min (bitsOf a.caps.sleep 0 3) 4
        let (x, s) := s.draw
        let downs := ((s.cellRec a.cell).map CellRec.downs).getD []
        let wake := (downs[x % downs.length]?).getD (0, 0)
        let (ph, s) := s.draw
        let m : NodeMac :=
          { logP := min a.caps.period 6
            wcode := code
            wphase := ph % 2 ^ code
            wslot := wake.1
            wch := wake.2
            sup := s.supOf code
            grant := g
            heard := s.ctr
            heardSec := s.netSec
            lost := false
            lostAt := 0
            survHead := 0
            survCount := 0
            move := none
            det := none
            repAt := s.ctr }
        let s := (((s.setMac n (some m)).usedReg was).usedReg a.cell).headCounts
        let s := match promised with | some c => s.usedReg c | none => s
        let s := (s.queueMac a.cell short 0x08 (if code = 0 then n else 2 ^ 18) ([assocOk, n, short, m.sup] ++ grantFields g ++
          [m.wslot, m.wch, m.wcode, m.wphase])).up SAST_EVT.ASSOC
        if s.on FIRN_CTRL.RESYNC_AUTO && s.on FIRN_CTRL.EN then s.resync n else s

/-! ## Moves and losses (R217, R218) -/

/-- The packets of a queue for a node go to another queue, each with its bytes changed. -/
def State.movePkts (s : State) (q q' n : Nat) (f : List Byte → List Byte) : State :=
  let pick (i : QItem) : Bool := match i with | .pkt _ _ k _ _ => k == n | .gap _ _ _ _ _ => false
  let turned (i : QItem) : QItem := match i with
    | .pkt d x k t p => .pkt (f d) x k t p
    | .gap a b c d k => .gap a b c d k
  let cells (l : List QItem) : Nat :=
    l.foldl (fun a i => match i with | .pkt d _ _ _ _ => a + cellsOf d.length | .gap _ _ _ _ _ => a) 0
  let mv := (s.queue q).filter pick
  let s := (s.setQueue q ((s.queue q).filter (fun i => !pick i))).freeCells q (cells mv)
  (s.setQueue q' (s.queue q' ++ mv.map turned)).setOcc q' (s.rd (SNOW_Q_OCC.OCC q') + cells mv)

/-- A queued MAC frame with another short address in its header (R197). -/
def reShort (short : Nat) (d : List Byte) : List Byte := d.take 1 ++ leBytes 2 short ++ d.drop 3

/-- SAST_USED of the cells to which a node's grants are charged. -/
def State.usedOf (s : State) (m : NodeMac) (head : Nat) : State :=
  match m.move with
  | some v => (s.usedReg head).usedReg v.cell
  | none => s.usedReg head

/-- HANDOVER_SWITCH: at the switch superframe an acknowledged move takes effect, with the node's queued downlink. -/
def State.handoverSwitch (s : State) (n : Nat) (acked : Bool) : State :=
  match s.mac n, s.nodeEnt n with
  | some m, some e =>
    match (if s.holds then m.move else none) with
    | none => s
    | some v =>
      let s := s.reachNs (v.sec * 1000000000)
      if !acked then (s.setMac n (some { m with move := none, survCount := 0 })).usedReg v.cell
      else
        let s := s.movePkts (3136 + e.head) (3136 + v.cell) n id
        let s := s.movePkts (3200 + e.head) (3200 + v.cell) n (reShort v.short)
        let s := s.setNode n (some { e with head := v.cell, short := v.short })
        let s := s.setMac n (some { m with
          grant := v.grant
          move := none
          survCount := 0
          sup := s.supOf m.wcode })
        (((s.usedReg e.head).usedReg v.cell).headCounts).up SAST_EVT.HANDOVER
  | _, _ => s

/-- The report period of a node in seconds: its grant's, else the one it asked for. -/
def NodeMac.period (m : NodeMac) : Nat := 2 ^ ((m.grant.map Grant.logP).getD m.logP)

/-- NODE_LOST (R218): nothing heard for 3 report periods. -/
def State.nodeLost (s : State) (n : Nat) : State :=
  match s.mac n, s.nodeEnt n with
  | some m, some e =>
    if !s.holds || !e.assoc || m.lost then s
    else
      let s := s.reachCtr (m.heard + msTicks (3000 * m.period)).toNat
      let s := s.setMac n (some { m with lost := true, lostAt := s.ctr, grant := none, move := none })
      (((s.setNode n (some { e with assoc := false })).usedOf m e.head).headCounts).up SAST_EVT.LOST
  | _, _ => s

/-- A node leaves Sastrugi: its grant and short address are free (R218, R486). -/
def State.forget (s : State) (n : Nat) : State :=
  let t := s.setMac n none
  match s.nodeEnt n, s.mac n with
  | some e, some m => ((t.setNode n (some { e with assoc := false, short := 0xFFFE })).usedOf m e.head).headCounts
  | some e, none => ((t.setNode n (some { e with assoc := false, short := 0xFFFE })).usedReg e.head).headCounts
  | none, _ => t

/-- ADDRESS_RELEASE (R218): 3,600 s after LOST. -/
def State.addressRelease (s : State) (n : Nat) : State :=
  match s.mac n with
  | some m => if m.lost && s.holds then (s.reachCtr (m.lostAt + msTicks 3600000).toNat).forget n else s
  | none => s

/-- TEMP_STALE (R97): no report for 3 report periods. -/
def State.tempStaleAt (s : State) (n : Nat) : State :=
  match s.mac n with
  | some m => if s.standsBy then s else (s.reachCtr (m.repAt + msTicks (3000 * m.period)).toNat).tempStale n
  | none => s

/-! ## Discovery (R188 to R191) -/

/-- Discovery of a chain comes to a hop: CAP_REQ goes there, and 2 ms run from it. -/
def State.discAt (s : State) (n hop old : Nat) : State :=
  (s.setChain n { s.chain n with disc := some ⟨hop, false, 0, 0, 0, old, s.ctr⟩ }).sendHop n hop 0x05 0 0

/-- Discovery of a chain begins at this module's port. -/
def State.discStart (s : State) (n : Nat) : State := s.discAt n 0 (s.rd (SAST_CHAIN.HEADS n))

/-- A head is no longer there. -/
def State.headGone (s : State) (h : Nat) : State :=
  if s.on (SAST_HEAD.PRESENT h) then
    (((s.setHead h {}).down (SAST_HEAD.PRESENT h)).down (SAST_HEAD.COMPAT h)).up SAST_EVT.HEAD_CHANGE
  else s

/-- What Sastrugi knows of one head of a chain taken to another position. -/
def State.headTo (s : State) (a b : Nat) : State :=
  let regs (s : State) (f : Nat → Nat) : State := (s.setReg (f b) (s.reg (f a))).setReg (f a) 0
  let s := regs (regs (regs s SAST_HEAD.addr) SAST_HOP_DLY.addr) SAST_HOP_LEN.addr
  (s.setHead b (s.head a)).setHead a {}

/-- The chain turns out longer or shorter than the secondary knew: positions, which count from the far end, follow (R181). -/
def State.respan (s : State) (n k : Nat) : State :=
  let old := (s.chain n).span
  let t := s.setChain n { s.chain n with span := k }
  if !s.turned || old = k then t
  else if old < k then
    ((List.range (8 - (k - old))).reverse).foldl (fun s p => s.headTo (8 * n + p) (8 * n + p + (k - old))) t
  else (List.range (8 - (old - k))).foldl (fun s p => s.headTo (8 * n + p + (old - k)) (8 * n + p)) t

/-- SAST is ready once discovery has ended on every port with block lock (R188). -/
def State.discReady (s : State) : State :=
  if (List.range 8).all (fun k => !s.on (SAST_CHAIN.LOCK k) || (s.chain k).disc.isNone) then s.setReady 19 true else s

/-- Discovery of a chain ends with p heads (R188). Heads that the partner reaches for this module are not lost, and a broken
chain is whole again when every head of it has been reached (R192). -/
def State.discEnd (s : State) (n p : Nat) : State :=
  let x := s.chain n
  let lost := (List.range 8).filter (fun k => decide (p ≤ k) && decide (k < max 8 x.span) &&
    (!s.turned || decide (k < x.span)) && !s.on (SAST_HEAD.VIA_PARTNER (s.headAt n k)))
  let s := lost.foldl (fun s k => s.headGone (s.headAt n k)) s
  let whole := if s.on (SAST_CHAIN.BROKEN n) then decide (x.span ≤ p)
    else match x.disc with | some d => decide (d.old ≤ p) | none => true
  let s := if whole && !s.on (SAST_CHAIN.BROKEN n) then s.respan n p else s
  let x := s.chain n
  let s := s.setChain n { x with disc := none, cmd := false, whole := x.whole || (whole && s.on (SAST_CHAIN.WRAPPED n)) }
  let s := s.wr (SAST_CHAIN.HEADS n) p
  let s := if whole then s.down (SAST_CHAIN.BROKEN n) else s
  let s := if x.cmd then s.sastDone ccOk else s
  s.discReady

/-- CHAIN_LOCK: block lock starts discovery. -/
def State.chainLock (s : State) (n : Nat) : State := (s.up (SAST_CHAIN.LOCK n)).discStart n

/-- CAP_WAIT_EXPIRY: no CAP within 2 ms of CAP_REQ ends discovery. -/
def State.capExpiry (s : State) (n : Nat) : State :=
  match (s.chain n).disc with
  | some d => if d.caped then s else (s.reachCtr (d.asked + msTicks 2)).discEnd n d.pos
  | none => s

/-- Is a head compatible (R190)? -/
def State.compatible (s : State) (d : CapDesc) : Bool :=
  d.chainMaj == 1 && bitsOf d.bands (s.rd SAST_CTRL.BAND) 1 == 1 &&
    [2, 3, 4, 5, 6, 7, 8].all (fun k => bitsOf d.phys k 1 == 1)

/-- The 256 ECHO_REQ frames for a hop, 20 µs apart, each with the time at which it leaves (R184, R188, R191). -/
def State.sendEchoes (s : State) (n hop : Nat) : State :=
  (List.range 256).foldl (fun s k => s.sendHop n hop 0x04 (s.netNs + 20000 * k) (usTicks (20 * k))) s

/-- CAP from the hop that discovery waits for (R188, R189, R190); the echoes follow. -/
def State.capRx (s : State) (n hop : Nat) (d : CapDesc) : State :=
  match (s.chain n).disc with
  | some k =>
    if k.pos != hop || k.caped then s
    else
      let s := s.respan n (max (s.chain n).span (hop + 1))
      let h := s.headAt n hop
      let ok := s.compatible d
      let new := (s.head h).cap != some d || !ok
      let s := s.setHead h { s.head h with cap := some d }
      let s := (s.up (SAST_HEAD.PRESENT h)).bit (SAST_HEAD.COMPAT h) ok
      let s := if new then s.up SAST_EVT.HEAD_CHANGE else s
      (s.setChain n { s.chain n with disc := some { k with caped := true } }).sendEchoes n hop
  | none => s

/-- The delay of the hop before, with its head's forwarding delay, in 0.125 ns (R191). -/
def State.delayBefore (s : State) (n hop : Nat) : Nat :=
  if hop = 0 then 0
  else
    let h := s.headAt n (hop - 1)
    s.rd (SAST_HOP_DLY.DELAY h) + (((s.head h).cap.map CapDesc.fwd).getD 0)

/-- A head's delay and hop length from sums over its echoes (R191). CONFIG carries the delay to the head at its discovery,
and later when it has moved by more than 2 ns; a standby sends none (R181). -/
def State.hopSet (s : State) (h count rtt turn : Nat) (found : Bool) : State :=
  let d := divOpen (8 * (rtt - turn) - Config.portCal (h / 8) * count) (2 * max count 1)
  let len := min 100000 (divOpen ((d - s.delayBefore (h / 8) (s.hopOf h)) * 100000) 391800)
  let s := (s.wr (SAST_HOP_DLY.DELAY h) d).up (SAST_HOP_DLY.VALID h)
  let s := (s.wr (SAST_HOP_LEN.LENGTH h) len).up (SAST_HOP_LEN.VALID h)
  let moved := match (s.head h).cfg with
    | some c => decide (c + 16 < d || d + 16 < c)
    | none => true
  if (found || moved) && s.on (SAST_HEAD.COMPAT h) && !s.standsBy then s.sendConfig h d else s

/-- ECHO_RSP of the hop under discovery; after 256 the next follows (R188, R191). -/
def State.echoRsp (s : State) (n hop rtt turn : Nat) : State :=
  match (s.chain n).disc with
  | some k =>
    if k.pos != hop || !k.caped then s
    else
      let k' := { k with echoes := k.echoes + 1, rtt := k.rtt + rtt, turn := k.turn + turn }
      if k'.echoes < 256 then s.setChain n { s.chain n with disc := some k' }
      else
        let s := s.hopSet (s.headAt n hop) 256 k'.rtt k'.turn true
        if hop = 7 then s.discEnd n 8 else s.discAt n (hop + 1) k.old
  | none => s

/-- HOP_MEASURE: a head's delay measured again by 256 echoes (R191). -/
def State.hopMeasure (s : State) (h : Nat) (rtts turns : List Nat) : State :=
  if s.on (SAST_HEAD.PRESENT h) && !rtts.isEmpty then
    (s.sendEchoes (h / 8) (s.hopOf h)).hopSet h rtts.length (rtts.foldl (· + ·) 0) (turns.foldl (· + ·) 0) false
  else s

/-! ## Heads' reports, breaks and relays (R183, R184, R186, R187, R192) -/

/-- TX_DONE: the head is done with the frame; how it fared stands with the head (R184, R186). -/
def State.txDone (s : State) (h seq result : Nat) : State :=
  let t := { s with sast := { s.sast with air := s.sast.air.filter (fun a => !(a.head == h && a.seq == seq)) } }
  t.setHead h { t.head h with lastTx := some (seq, result) }

/-- HOLD_OFF: it takes effect at the next slot boundary. -/
def State.holdOff (s : State) (h mask us : Nat) : State :=
  if !s.holds then s else s.setHead h { s.head h with asked := (s.head h).asked ++ [(mask % 256, us)] }

/-- HOLDOFF_EXPIRY: the earliest hold of a head ends. -/
def State.holdoffExpiry (s : State) (h : Nat) : State :=
  let ts := (s.head h).holds.filterMap Prod.snd
  match ts with
  | [] => s
  | t :: l => (s.reachCtr (l.foldl min t)).holdsEnd h

/-- STATUS: the head's bits; SYNC_LOST shows in SAST_HEAD. A standby uses none (R181). -/
def State.headStatus (s : State) (h bits : Nat) : State :=
  if s.standsBy then s
  else (s.setHead h { s.head h with status := bits % 8 }).bit (SAST_HEAD.SYNC_LOST h) (bits % 2 == 1)

/-- CHAIN_BREAK (R192): reported, and the wrap begins where the pair and WRAP_EN allow it. With the port's block lock every
head of the chain is lost to this port, and a discovery under way has ended. -/
def State.chainBreak (s : State) (n pos : Nat) (lockLost : Bool) : State :=
  let s := ((s.up (SAST_CHAIN.BROKEN n)).wr (SAST_CHAIN.BREAK_POS n) pos).up SAST_EVT.CHAIN_BREAK
  let x := s.chain n
  let s := if lockLost then (s.down (SAST_CHAIN.LOCK n)).setChain n { x with disc := none, cmd := false } else s
  let s := if lockLost && x.cmd then s.sastDone ccBusy else s
  let s := if lockLost && x.disc.isSome then s.discReady else s
  if s.on PAIR_STATUS.PAIRED && s.on SAST_CTRL.WRAP_EN && s.holds then
    (((List.range 8).foldl (fun s p =>
      if s.behind (8 * n + p) && s.on (SAST_HEAD.PRESENT (8 * n + p)) then s.up (SAST_HEAD.VIA_PARTNER (8 * n + p))
      else s) s).up (SAST_CHAIN.WRAPPED n)).up SAST_EVT.CHAIN_WRAP
  else s

/-- WRAP_RELAY (R192): a frame that came over P leaves this module's chain port, a SYNC with its TIME stamped anew. A frame
that R183 bars is discarded and counted. -/
def State.wrapRelay (s : State) (n : Nat) (f : ChainFrame) : State :=
  if !chainOk f || f.dir != 0 then s.setChain n { s.chain n with discards := (s.chain n).discards + 1 }
  else
    let g := if f.typ = 0x01 then { f with time := s.netNs } else f
    (s.setChain n { s.chain n with relay := some (g, s.netNs) }).chainOut n g s.ctr

/-- CHAIN_FRAME_DISCARD (R183). -/
def State.chainDiscard (s : State) (n : Nat) : State :=
  s.setChain n { s.chain n with discards := (s.chain n).discards + 1 }

/-! ## Tethers (R219 to R221) -/

def State.tether (s : State) (i : Nat) : Option Tether := SMap.get (fun _ => none) s.sast.tethers i
def State.setTether (s : State) (i : Nat) (t : Option Tether) : State :=
  { s with sast := { s.sast with tethers := SMap.put (fun _ => none) s.sast.tethers i t } }

/-- The lowest free tether, where the module and the head have room (R219). -/
def State.tetherRoom (s : State) (h : Nat) : Option Nat :=
  if 4 ≤ ((present s.sast.tethers).filter (fun p => p.2.head == h)).length then none
  else (List.range 16).find? (fun i => (s.tether i).isNone)

/-- The RF channel of event e (R220). -/
def Tether.channel (t : Tether) : Nat :=
  let u := (t.seed + 37 * t.event) % 64
  let bits := (List.range 64).filter (fun k => bitsOf t.map k 1 == 1)
  if bits.contains u then t.base + u else t.base + (bits[u % bits.length]?).getD 0

/-- TETHER_ADV (R221): a known node is answered while TETHER_SCAN is 1; any other advert is reported. The event
interval, seed, mode and supervision timeout of such a tether are free. -/
def State.tetherAdv (s : State) (h eui lastHead : Nat) : State :=
  if !s.holds then s
  else
    let s := s.euiCheck eui
    let known := s.nodeByEui eui
    let s := match known with | some n => s.heardMac n | none => s
    let a := [s.rd SAST_ADV_CH.ADV0, s.rd SAST_ADV_CH.ADV1, s.rd SAST_ADV_CH.ADV2]
    let base := a.foldl min (s.rd SAST_ADV_CH.ADV0)
    match (if s.on SAST_CTRL.TETHER_SCAN && 2 ≤ a.eraseDups.length then known else none), s.tetherRoom h with
    | some n, some i =>
      let (x, s) := s.draw
      let (y, s) := s.draw
      let (z, s) := s.draw
      let (u, s) := s.draw
      s.setTether i (some
        { node := some n
          eui := eui
          head := h
          interval := 2 + x % 799
          base := base
          map := a.eraseDups.foldl (fun m c => m + 2 ^ (c - base)) 0
          seed := y % 64
          phy := (u + lastHead) % 9
          sup := 1 + z % 600
          event := 0
          next := s.nextSlot
          heard := s.ctr
          recovery := true
          begun := false
          told := false })
    | _, _ => s.up SAST_EVT.ADVERT

/-- The channel index on which a head sends on an RF channel in slot k of the superframe, to be launched at a network time, and
whether it has to be tuned there first: an index on which nothing else of the head goes out then, and on a head whose cell is used
only an IDLE slot-channel (R219). -/
def State.tetherIdx (s : State) (h k rf launch : Nat) : Option (Nat × Bool) :=
  let free (i : Nat) : Bool := !s.sast.air.any (fun a => a.head == h && a.ch == i && a.launch == launch)
  match s.cellRec h with
  | some r =>
    if r.rf.contains rf then
      ((List.range 8).find? (fun i => r.rf[i]? == some rf && r.typ k i == 0 && free i)).map (fun i => (i, false))
    else ((List.range 8).find? (fun i => r.typ k i == 0 && free i)).map (fun i => (i, true))
  | none => ((List.range 8).find? free).map (fun i => (i, true))

/-- A frame of a tether goes to its head for the slot that begins, whose channel index is tuned where it must be. -/
def State.tetherTx (s : State) (t : Tether) (i : Nat) (tune : Bool) (typ : Nat) (payload : List Byte) : State :=
  let h := t.head
  let s := if !tune then s
    else
      let l := (s.confOf h (((s.head h).cfg).getD 0)).set (1 + i) t.channel
      (s.setHead h { s.head h with conf := l, tuned := true }).sendHead h 0x03 0 (Config.layout 0x103 l)
  let x := s.cell h
  let short := (t.node.map s.shortOf).getD 0xFFFE
  (s.setCell h { x with seq := (x.seq + 1) % 256 }).tx h i (t.next * 5000000) t.phy
    (leBytes 1 typ ++ leBytes 2 short ++ leBytes 1 x.seq ++ payload)

/-- The longest PSDU that ends by 4,800 µs in a slot (R194): that of R195 for the modes of slots, and for the modes that R195
keeps to tethers what 3.8 ms hold beside preamble, SFD and PHR (DEDUCED, log entry 42). -/
def airMax (phy : Nat) : Nat :=
  match phy with | 0 => 11 | 1 => 35 | 4 => 15 | 5 => 32 | _ => psduMax phy

/-- What TETHER_DATA carries now: for a node in recovery the beacon channel and the head of its best cell (R221), which of
the used cells is the best being free; else the node's next queued packet that its mode can carry in a slot, or nothing (R194, R220). -/
def State.tetherLoad (s : State) (t : Tether) : List Byte × State :=
  if t.recovery then
    let used := (List.range 64).filter (fun c => (s.cellRec c).isSome)
    let (x, s) := s.draw
    let c := (used[x % used.length]?).getD t.head
    (Config.layout 0x32 [((((s.cellRec c).map CellRec.rf).getD [])[0]?).getD 0, c], s)
  else
    match s.takePkt (3136 + t.head) (fun n => some n == t.node) (fun d => d.length + 8 ≤ airMax t.phy) with
    | some (d, _, s) => (d, s)
    | none => ([], s)

/-- TETHER_EVENT (R219, R220): the first slot that may carry it takes TETHER_CONN; from then on the head sends TETHER_DATA
at each event, where its slot-channel may be used, and the event counter advances. -/
def State.tetherEvent (s : State) (i : Nat) : State :=
  match s.tether i with
  | none => s
  | some t =>
    let s := s.reachNs (t.next * 5000000)
    let way := match s.tetherIdx t.head (t.next % 200) t.channel (t.next * 5000000 + 1000000) with
      | some w => if s.holds && s.headLive t.head && !s.heldOff t.head w.1 then some w else none
      | none => none
    match t.begun, way with
    | false, none => s.setTether i (some { t with next := t.next + 1 })
    | false, some w =>
      (s.tetherTx t w.1 w.2 0x31 (Config.layout 0x31 [t.interval, t.base, t.map, t.seed, t.sup])).setTether i
        (some { t with begun := true, next := t.next + t.interval })
    | true, some w =>
      let (d, s) := s.tetherLoad t
      (s.tetherTx t w.1 w.2 0x32 d).setTether i
        (some { t with event := (t.event + 1) % 65536, next := t.next + t.interval, told := t.recovery })
    | true, none => s.setTether i (some { t with event := (t.event + 1) % 65536, next := t.next + t.interval })

/-- TETHER_DATA (R220, R221): supervision restarts; a recovery tether, whose node has been told its cell, closes. A frame partly
outside its slot's window is discarded (R194), and a standby uses none (R181). -/
def State.tetherData (s : State) (i : Nat) (f : TetherRx) : State :=
  match (if s.standsBy || f.start < 980 || f.stop < f.start || 4800 < f.stop then none else s.tether i) with
  | none => s
  | some t =>
    let s := match t.node with | some n => s.heardMac n | none => s
    if t.told then s.setTether i none else s.setTether i (some { t with heard := s.ctr })

/-- TETHER_END (R220): the supervision timeout passes. -/
def State.tetherEnd (s : State) (i : Nat) : State :=
  match s.tether i with
  | none => s
  | some t => ((s.reachCtr (t.heard + msTicks (100 * t.sup))).setTether i none).up SAST_EVT.TETHER_END

/-! ## Commands (R224) -/

/-- The number in SAST_KEY. -/
abbrev State.sastKey (s : State) : Nat := s.rd SAST_KEY.VALUE

/-- DISCOVER: it completes when the discovery ends. -/
def State.discover (s : State) : State :=
  let n := s.sastKey % 8
  if !s.on (SAST_CHAIN.LOCK n) then s.sastDone ccBusy
  else
    let s := (s.start SAST_STAT.addr).discStart n
    s.setChain n { s.chain n with cmd := true }

/-- NODE_INFO. -/
def State.nodeInfo (s : State) : State :=
  let n := s.sastKey
  match (if 2 ^ 18 ≤ n then none else s.nodeEnt n) with
  | none => s.sastDone ccNotFound
  | some e =>
    let m := s.mac n
    let st := if s.tethered n then 3
      else match m with
        | none => 0
        | some m => if m.lost then 4 else if m.wcode != 0 then 2 else 1
    let g := match m.bind NodeMac.grant with
      | some g => (g.slot + g.ch * 2 ^ 8 + g.logP * 2 ^ 11 + g.phase * 2 ^ 14 + 2 ^ 20, g.seq)
      | none => (0, 0)
    let s := (s.wr SAST_DATA0.VALUE (e.head + e.short * 2 ^ 6 + st * 2 ^ 22)).wr SAST_DATA1.VALUE g.1
    let s := (s.wr SAST_DATA2.VALUE g.2).wr SAST_DATA3.VALUE (((m.map NodeMac.heardSec).getD 0) % 2 ^ 32)
    s.sastDone ccOk

/-- HANDOVER. -/
def State.sastHandover (s : State) : State :=
  let n := s.sastKey
  let j := bitsOf (s.rd SAST_DATA0.VALUE) 0 6
  if s.standsBy then s.sastDone ccDenied
  else match s.cellOf n with
  | none => s.sastDone ccNotFound
  | some _ =>
    if s.sleepy n || s.tethered n then s.sastDone ccDenied
    else if !s.roomIn j then s.sastDone ccFull
    else (s.startMove n j).sastDone ccOk

/-- DISASSOC: the node is told, a sleepy one in its wake slot (R212), and forgotten. -/
def State.disassoc (s : State) : State :=
  let n := s.sastKey
  if s.standsBy then s.sastDone ccDenied
  else match s.nodeEnt n with
  | some e =>
    if !e.bound then s.sastDone ccNotFound
    else match s.mac n with
      | some m =>
        if m.wcode = 0 then ((s.queueMac e.head e.short 0x09 (2 ^ 18) []).forget n).sastDone ccOk
        else (((s.queueMac e.head e.short 0x09 n []).forget n).setLeaver n
          (some ⟨e.head, m.wslot, m.wch, m.wcode, m.wphase⟩)).sastDone ccOk
      | none => ((s.queueMac e.head e.short 0x09 (2 ^ 18) []).forget n).sastDone ccOk
  | none => s.sastDone ccNotFound

/-- GRANT_SET: a grant in place of the node's own, or its removal; the node is told (R209). -/
def State.grantSet (s : State) : State :=
  let n := s.sastKey
  let d := s.rd SAST_DATA0.VALUE
  if s.standsBy then s.sastDone ccDenied
  else match s.mac n, s.cellOf n with
  | some m, some c =>
    if 16 ≤ d || (bitsOf d 3 1 = 0 && bitsOf d 0 3 = 7) then s.sastDone ccRange
    else
      let s := if bitsOf d 3 1 = 1 then s else s.ctlMet 9 (grantKey c)
      let t := s.setMac n (some { m with grant := none })
      if bitsOf d 3 1 = 1 then ((t.sendGrant c n).usedReg c).sastDone ccOk
      else
        match t.allot c (bitsOf d 0 3) with
        | (some g, t) => (((t.setGrant n (some g)).sendGrant c n).usedReg c).sastDone ccOk
        | (none, _) => s.sastDone ccQuota
  | _, _ => s.sastDone ccNotFound

/-- TETHER_OPEN. -/
def State.tetherOpen (s : State) : State :=
  let d2 := s.rd SAST_DATA2.VALUE
  let d3 := s.rd SAST_DATA3.VALUE
  let h := bitsOf d2 0 6
  let itv := bitsOf d2 6 10
  let phy := bitsOf d2 22 4
  let byEui := bitsOf d2 26 1 == 1
  let sup := bitsOf d3 0 10
  let base := bitsOf d3 16 7
  let rf := match s.sast.plan with
    | some p => ((p.cells[h]?).map CellRec.rf).getD []
    | none => []
  let chs := (rf.filter (fun c => base ≤ c && c ≤ base + 63 && c ≤ topChannel (s.rd SAST_CTRL.BAND))).eraseDups
  let map := chs.foldl (fun m c => m + 2 ^ (c - base)) 0
  if (!byEui && 2 ^ 18 ≤ s.sastKey) || itv < 2 || 800 < itv || 8 < phy || sup = 0 || 600 < sup || bitsOf d2 27 5 != 0 ||
      bitsOf d3 10 6 != 0 || bitsOf d3 23 9 != 0 || (if s.on SAST_CTRL.BAND then 65 < base else base != 0) ||
      chs.length < 2 then s.sastDone ccRange
  else if !(s.mode == 2 || s.mode == 3) || !s.holds then s.sastDone ccDenied
  else match s.tetherRoom h with
  | none => s.sastDone ccFull
  | some i =>
    let node := if byEui then s.nodeByEui (s.rd64 SAST_DATA0.VALUE SAST_DATA1.VALUE) else some s.sastKey
    let eui := if byEui then s.rd64 SAST_DATA0.VALUE SAST_DATA1.VALUE
      else ((s.nodeEnt s.sastKey).map NodeEnt.eui).getD 0
    let t : Tether := ⟨node, eui, h, itv, base, map, bitsOf d2 16 6, phy, sup, 0, s.nextSlot, s.ctr, false, false, false⟩
    ((s.setTether i (some t)).wr SAST_DATA0.VALUE i).sastDone ccOk

/-- TETHER_CLOSE. -/
def State.tetherClose (s : State) : State :=
  let i := s.sastKey % 16
  match s.tether i with
  | some _ => (s.setTether i none).sastDone ccOk
  | none => s.sastDone ccNotFound

/-- The bytes of a capability descriptor (R189). -/
def capBytes (d : CapDesc) : List Byte :=
  leBytes 2 d.model ++ leBytes 1 d.chainMaj ++ leBytes 1 d.chainMin ++ leBytes 4 d.fw ++ leBytes 1 d.bands ++
    leBytes 2 d.phys ++ leBytes 1 d.pmax ++ leBytes 2 d.fwd ++ [0, 0] ++ leBytes 8 d.serial

/-- HEAD_CAP. -/
def State.headCap (s : State) : State :=
  let w := bitsOf (s.rd SAST_DATA0.VALUE) 0 3
  if 5 < w then s.sastDone ccRange
  else match (s.head (s.sastKey % 64)).cap with
  | none => s.sastDone ccNotFound
  | some d => (s.wr SAST_DATA0.VALUE (ofLe (((capBytes d).drop (4 * w)).take 4))).sastDone ccOk

/-- A write of SAST_CTRL (R224): EN needs an active plan, BAND is locked while EN is 1. A new BAND leaves COMPAT of the heads as it
was: R190 judges a head when its capabilities come in a discovery (DESIGN CHOICE, log entry 45). -/
def State.sastCtrlWrite (s : State) (v : Word) : State :=
  let x := v.toNat
  let s := if s.on SAST_CTRL.EN then s else s.wr SAST_CTRL.BAND (bitsOf x 1 1)
  let s := (s.wr SAST_CTRL.ASSOC_OPEN (bitsOf x 2 1)).wr SAST_CTRL.HANDOVER_AUTO (bitsOf x 3 1)
  let s := (s.wr SAST_CTRL.TETHER_SCAN (bitsOf x 4 1)).wr SAST_CTRL.WRAP_EN (bitsOf x 5 1)
  if bitsOf x 0 1 = 0 then s.down SAST_CTRL.EN else if s.sast.plan.isSome then s.up SAST_CTRL.EN else s

/-- A write of SAST_BUDGET(c): a value above 102,400 is stored as 102,400; grants over it go at the next superframe
boundary (R211, R224). -/
def State.budgetWrite (s : State) (c : Nat) (v : Word) : State :=
  s.wr (SAST_BUDGET.UNITS c) (min (bitsOf v.toNat 0 17) 102400)

/-- A write of SAST_ADV_CH (R224). -/
def State.advChWrite (s : State) (v : Word) : State :=
  let a := [bitsOf v.toNat 0 8, bitsOf v.toNat 8 8, bitsOf v.toNat 16 8]
  let lo := a.foldl min 255
  let hi := a.foldl max 0
  if topChannel (s.rd SAST_CTRL.BAND) < hi || lo + 63 < hi then s.up SAST_EVT.CFG_ERR
  else s.setReg SAST_ADV_CH.addr (v &&& 0x00FF_FFFF#32)

end Sys2Proof.Machine
end

