-- ==== Sys2Proof/Machine/Slots.lean ====
section
/-!
DEFINITION. Sys2Proof/Machine/Slots.lean: Sastrugi's slots and superframes: what each boundary brings and sends (R185, R192
to R194, R199, R203).
-/

namespace Sys2Proof.Machine

/-- The seven RF channels that a head surveys in slot 0, on channel indices 1 to 7, in rotation (R184, R203). -/
def State.sendSurvey (s : State) (c slotNs sec : Nat) : State :=
  let l := s.surveyPlan c
  (List.range 7).foldl (fun s i =>
    s.sendHead c 0x06 slotNs (leBytes 1 (i + 1) ++ leBytes 1 ((l[(7 * sec + i) % l.length]?).getD 0) ++ leBytes 2 5000)) s

/-- One head's frames of a slot: its survey, whether its cell is used or not, and the cell's frames. -/
def State.cellSlot (k slotNs sec : Nat) (s : State) (c : Nat) : State :=
  if !s.headLive c then s
  else
    let s := if k = 0 then s.sendSurvey c slotNs sec else s
    match s.cellRec c with
    | none => s
    | some r =>
      let s := if k = 0 && !s.heldOff c 0 then s.txMac c 0 slotNs 0x01 0xFFFF (s.beacon c r sec) else s
      if fastSlot k then s.fastSlotTx c r k slotNs else s.downSlot c r k slotNs sec

/-- A wrap that is no longer needed ends (R192). -/
def State.unwrap (s : State) (n : Nat) : State :=
  if !(s.chain n).whole then s
  else
    let s := s.setChain n { s.chain n with whole := false }
    if !s.on (SAST_CHAIN.WRAPPED n) then s
    else (((List.range 8).foldl (fun s p => s.down (SAST_HEAD.VIA_PARTNER (8 * n + p))) s).down
      (SAST_CHAIN.WRAPPED n)).up SAST_EVT.CHAIN_WRAP

/-- Requests that have waited 3 superframes are answered now, so that no answer comes after the fourth (R208). -/
def State.assocDue (s : State) (sec : Nat) : State :=
  (s.sast.assocs.filter (fun a => a.sec + 3 ≤ sec)).foldl (fun s a => s.assocResp a.caps.eui) s

/-- What a superframe boundary brings before its frames: wraps end, a plan becomes active, grants are revoked and
reissued, waiting associations are answered, temperatures are judged, FIRN_EARLIEST is refreshed, aborted commits end (R66,
R75, R95, R192, R205, R208, R209, R211). On a standby nothing but a wrap's end (R181). -/
def State.superframe (s : State) (sec : Nat) : State :=
  let s := (List.range 8).foldl State.unwrap s
  if s.standsBy then s
  else
    let s := s.planActive
    let s := if s.holds then (List.range 64).foldl State.revoke s else s
    let s := if s.holds then (List.range 64).foldl State.reissue s else s
    let s := (s.assocDue sec).judgeTemps
    let s := s.sast.cells.foldl (fun s p => s.setCell p.1 { s.cell p.1 with coll := 0 }) s
    (s.refreshEarliest).abortEnd sec

/-- A head that was tuned for a tether's event, and has no frame for this slot, is configured as before; a standby sends no CONFIG
(R181). -/
def State.untune (s : State) (h : Nat) : State :=
  if (s.head h).tuned && !s.standsBy && !s.sast.air.any (fun a => a.head == h) then s.sendConfig h (((s.head h).cfg).getD 0) else s

/-- A slot begins (R194): at its boundary holds begin and end, and the slot's frames go to the heads. -/
def State.beginSlot (s : State) (n : Nat) : State :=
  let ns := n * 5000000
  let s := s.reachNs ns
  let k := n % 200
  let sec := n / 200
  let s := { s with sast := { s.sast with slot := n, air := s.sast.air.filter (fun a => ns ≤ a.launch) } }
  let s := (List.range 64).foldl (fun s h => ((s.holdsEnd h).holdsBegin h).untune h) s
  let s := if k = 0 then s.superframe sec else s
  let s := if s.onAir then (List.range 64).foldl (State.cellSlot k ns sec) s else s
  if fastSlot k then s.dropRepeats ns else s

/-- SLOT_BOUNDARY. -/
def State.slotBoundary (s : State) : State := s.beginSlot s.nextSlot

/-- SUPERFRAME_BOUNDARY: the next whole second. -/
def State.superframeBoundary (s : State) : State := s.beginSlot (divUp s.nextSlot 200 * 200)

/-- SYNC (R185): 200 µs before a slot boundary, on every chain, and over P for the heads behind a wrapped break (R192). -/
def State.sendSync (s : State) : State :=
  if s.holds && s.rdy 4 then
    let ns := (s.netNs + 200000) / 5000000 * 5000000 + 5000000 - 200000
    let s := s.reachNs ns
    let s := { s with sast := { s.sast with sync := ns } }
    (List.range 8).foldl (fun s n =>
      let t := s.sendHop n 15 0x01 ns 0
      if s.on (SAST_CHAIN.WRAPPED n) then t.say [.wrap n ⟨0x01, 0, 15, [], s.sast.seq, ns⟩] else t) s
  else s

end Sys2Proof.Machine
end

