-- ==== Sys2Proof/Machine/Modes.lean ====
section
/-!
DEFINITION. Sys2Proof/Machine/Modes.lean: HOLD and its claim and release, the six modes and the paths between them, the
rails, contactor ownership and fallback, and islanding (R330 to R332, R355 to R373).
-/

namespace Sys2Proof.Machine

/-- What lies behind the PAIR registers changed. -/
def State.onPair (s : State) (f : PairSt → PairSt) : State := { s with pair := f s.pair }

/-- What lies behind the FLOE registers changed. -/
def State.onFloe (s : State) (f : FloeSt → FloeSt) : State := { s with floe := f s.floe }

/-- What lies behind the CRQ registers changed. -/
def State.onCrq (s : State) (f : Crq → Crq) : State := { s with crq := f s.crq }

/-- Is HOLD_IN asserted (R330)? -/
def State.holdIn (s : State) : Bool := s.on PAIR_STATUS.HOLD_IN

/-! ## HOLD (R331, R332, R368) -/

/-- FALLBACK of every contactor. -/
def State.setFallback (s : State) (b : Bool) : State :=
  (List.range 4).foldl (fun s n => s.bit (SYS_CTR.FALLBACK n) b) s

/-- HOLD is held: the gates open, fallback ends, the watchdog starts, and Moraine may write the drives. -/
def State.takeHold (s : State) : State :=
  (((s.up PAIR_STATUS.HOLD).setFallback false).onPair (fun p =>
    { p with
      holdOut := true
      retry := none
      kick := s.ctr })).morHolds

/-- HOLD_OUT deasserted by a claim that failed. -/
def State.withdraw (s : State) : State := s.onPair (fun p => { p with holdOut := false })

/-- The claim of R331: whether HOLD is held, and the state. inA and inB are what HOLD_IN reads 4 µs and 8 µs after
HOLD_OUT was asserted. -/
def State.claim (s : State) (inA inB : Bool) : Bool × State :=
  if s.holdIn then (false, s)
  else
    let s := (s.onPair (fun p => { p with holdOut := true })).reach (s.now + usTicks 4)
    if !inA then (true, s.takeHold)
    else if s.secondary && !s.on PAIR_STATUS.ROLE_CLASH then (false, s.withdraw)
    else
      let s := s.reach (s.now + usTicks 4)
      if !inB then (true, s.takeHold)
      else
        let (x, s) := s.draw
        (false, s.withdraw.onPair (fun p => { p with retry := some (s.ctr + msTicks 1 + x % (msTicks 7 + 1)) }))

/-- The claim of a mode that is entered. Without a partner on the cable HOLD_IN stays deasserted (R330); with one, what it
reads 4 µs and 8 µs later is the partner's and free here (log entry 13). -/
def State.claimNow (s : State) : Bool × State :=
  if s.holdIn || !s.on PAIR_STATUS.PAIRED then s.claim false false
  else
    let (x, s) := s.draw
    s.claim (x.testBit 0) (x.testBit 1)

/-- HOLD released (R332): the gates close, and HOLD_OUT deasserts 1 µs later. A drill that runs ends with neither PASS nor FAIL
(R342). -/
def State.release (s : State) : State :=
  if !s.holds then s
  else
    let t := s.now
    let s := (((s.morPause.down PAIR_STATUS.HOLD).down PAIR_STATUS.DRILL).up PAIR_EVT.RELEASED).reach (t + usTicks 1)
    s.onPair (fun p =>
      { p with
        holdOut := false
        offSince := t
        drillEnd := none })

/-! ## Ready sets (R364) -/

/-- The service set. -/
def serviceSet : List Nat := [2, 3, 4, 5, 6, 7, 8, 9, 18, 19, 23]

/-- The ready bits that a mode needs. -/
def needs (mode : Nat) : List Nat := if mode = 3 then serviceSet else if mode = 2 then [2, 3, 5] else []

/-- Are all ready bits that a mode needs set? -/
def State.canEnter (s : State) (mode : Nat) : Bool := (needs mode).all s.rdy

/-! ## The rails (R12, R360, R362) -/

/-- Registers that keep their value while the main rails are down: the RIME block, SYS_BOOT, FLOE_CFG, what the boot
store, the boot record and the fuses hold for ICF, and what the vault holds as PROVISIONED. -/
def keepsValue (a : Nat) : Bool :=
  blockOf a == 14 || a == SYS_BOOT.addr || a == FLOE_CFG.addr || a == ICF_SVN.addr || a == VLT_STATUS.addr ||
    (ICF_SLOT.addr 0 ≤ a && a ≤ ICF_AR.addr 1)

/-- Is a word of a block's storage one of Rime's SRAM, which the rails do not feed (R375)? -/
def rimeWord (w : Nat) : Bool := w / 2 ^ 31 == 5

/-- Everything on the main rails as after reset; what Rime, the backup domain, the drives, the boot store and the pins
hold stays. -/
def State.powerReset (s : State) : State :=
  { State.reset with
    pending := s.pending
    now := s.now
    free := s.free
    regs := (SMap.put resetOf
      ((List.range 4).foldl (fun m n => SMap.put resetOf m (SYS_CTR.addr n) (s.reg (SYS_CTR.addr n) &&& 16))
        (s.regs.filter (fun e => keepsValue e.1)))
      PAIR_STATUS.addr (s.reg PAIR_STATUS.addr &&& 0xB))
    rime := s.rime
    ice := { s.ice with
      logSec := 0
      logCount := 0 }
    mem := { State.reset.mem with
      blkUe := s.mem.blkUe.filter rimeWord
      blkCe := s.mem.blkCe.filter rimeWord }
    mor := {
      streams := s.mor.streams.map (fun p => (p.1, p.2.map (fun x => { x with staged := [] })))
      members := s.mor.members
      lost := s.mor.lost
      turn := s.mor.turn }
    vlt := { s.vlt with
      slots := s.vlt.slots.filter (fun p => decide (p.1 < 16))
      ops := []
      nonce := none
      begun := false }
    icf := { s.icf with
      rx := none
      act := none
      job := none
      jobs := []
      queue := []
      relayAt := 0
      runFrom := none }
    pair := {
      offSince := s.pair.offSince
      inSince := s.pair.inSince
      passDay := s.pair.passDay
      drillDay := s.pair.drillDay }
    time := { up := s.now }
    out := s.out }

/-- SYS_CTR.OWN of every contactor is RIME. -/
def State.toRime (s : State) : State := (List.range 4).foldl (fun s n => s.down (SYS_CTR.OWN n)) s

/-- The main rails come up in RECOVERY (R362), and the boot ROM is to run. -/
def State.railsUp (s : State) : State := s.powerReset.wr SYS_MODE.MODE 1

/-- The causes of a mode change, as the model counts them; their words in a record are free (log entry 3). -/
abbrev byRequest : Nat := 0
abbrev byAuto : Nat := 1
abbrev byFloe : Nat := 2
abbrev byTakeover : Nat := 3
abbrev byHandover : Nat := 4
abbrev byFault : Nat := 5
abbrev byPower : Nat := 6
abbrev byUpdate : Nat := 7
abbrev byWake : Nat := 8

/-- The main rails go down (R332, R360, R399): HOLD is released, the change is recorded, the rails' state is lost. -/
def State.railsDown (s : State) (cause : Nat) : State :=
  let s := s.release
  let s := (s.recordMode s.mode 0 cause).powerReset
  let s := { s with rime := { s.rime with
    byHoldup := cause == byPower
    holdupEnd := none } }
  (s.wr SYS_MODE.MODE 0).wr RIME_WAKE.CAUSE 0

/-- Rime stays up and every other island restarts as after PWRON_N (R428). -/
def State.restart (s : State) (cause : Nat) : State :=
  let s := s.release
  (s.recordMode s.mode 1 cause).railsUp.up SYS_EVT.MODE_CHANGED

/-! ## Entering a mode (R355, R356, R360) -/

/-- Entry to SHADOW: the mirror is to be copied whole (R336), and the partner's derating plane tells from now on when an
endpoint's state last changed (R95). -/
def State.enterShadow (s : State) : State :=
  let s := (s.down PAIR_STATUS.MIRROR_SYNC).onPair (fun p =>
    { p with
      shadowSince := s.now
      copying := s.on PAIR_STATUS.PEER_ALIVE && s.on PAIR_STATUS.COMPAT })
  { s with firn := { s.firn with changedAt := [] } }

/-- SYS_OUT_PERMIT on entry to COMMISSION (R356): what a takeover brings, all after SERVICE or ISLANDED, else none. -/
def permitAt (old : Nat) (mirrored : Option Nat) : Nat :=
  match mirrored with
  | some v => v % 16
  | none => if old = 3 || old = 5 then 0xF else 0

/-- A mode that is not DORMANT is entered. -/
def State.enterUp (s : State) (new : Nat) (noOut : Bool) (cause : Nat) (mirrored : Option Nat) : State :=
  let old := s.mode
  let s := if new = 1 || new = 4 || (new = 5 && noOut) then s.release else s
  let s := (s.wr SYS_MODE.MODE new).bit SYS_MODE_RES.NO_OUT (new == 5 && noOut)
  let s := if new = 5 then s else s.down SYS_MODE_RES.AUTO
  let s := if new = 2 && old ≠ 2 then s.wr ⟨SYS_OUT_PERMIT.addr, 0, 4⟩ (permitAt old mirrored) else s
  let s := if 1 ≤ new && new ≤ 3 && new ≠ old then s.up TIME_SYNC.STEP_ARMED else s
  let s := if new = 3 || new = 4 then s.down CRQ_FAULT.DUAL else s
  let s := if !s.holds && (new = 2 || new = 3 || (new = 5 && !noOut)) then s.claimNow.2 else s
  let s := (s.recordMode old new cause).up SYS_EVT.MODE_CHANGED
  match new with
  | 1 => s.stopAll.onCrq (fun c => { c with phase := 1, booted := false })
  | 4 => s.enterShadow
  | 5 => s.firnIslanded
  | _ => s

/-- A mode is entered. -/
def State.enter (s : State) (new : Nat) (noOut : Bool) (cause : Nat) : State :=
  if new = 0 then s.railsDown cause else s.enterUp new noOut cause none

/-! ## Requests (R357 to R360) -/

/-- Is a transition between two modes by request one of R360? -/
def listed (old new : Nat) : Bool :=
  new == 0 ||
  (match old with
   | 1 => new == 2 || new == 3
   | 2 => new == 1 || new == 3 || new == 4 || new == 5
   | 3 => new == 1 || new == 2 || new == 4 || new == 5
   | 4 => new == 1 || new == 2
   | 5 => new == 1 || new == 2 || new == 3 || new == 5
   | _ => false)

/-- Is the transition permitted now, its ready bits apart (R360)? -/
def State.permitted (s : State) (new : Nat) : Bool :=
  listed s.mode new &&
  (s.mode != 1 || new == 0 || (s.crq.booted && s.on VLT_STATUS.PROVISIONED)) &&
  (new != 4 || (s.holdIn && s.on PAIR_STATUS.COMPAT))

/-- A takeover, a handover or a drill is in progress (R358). A claim that waits for its retry is a takeover in SHADOW. -/
def State.pairBusy (s : State) : Bool :=
  s.pair.handover.isSome || s.on PAIR_STATUS.DRILL || (s.mode == 4 && s.pair.retry.isSome)

/-- A floe change is held that a request other than to RECOVERY or DORMANT waits for (R358, R359). -/
def State.floeHolds (s : State) (new : Nat) : Bool := s.rd FLOE_CHANGE.STATE == 1 && new != 0 && new != 1

/-- A transition is applied; one to SERVICE from RECOVERY or COMMISSION ends in SHADOW where HOLD_IN is asserted or HOLD is not
won. -/
def State.applyMode (s : State) (new : Nat) (noOut : Bool) (cause : Nat) : State :=
  if new = 3 && (s.mode = 1 || s.mode = 2) && (s.holdIn || !s.holds) then
    if s.holds then s.enter 4 false cause
    else
      let (h, s) := s.claimNow
      s.enter (if h then 3 else 4) false cause
  else s.enter new noOut cause

/-- The end of a request: CC and the mode actually reached. -/
def State.modeDone (s : State) (cc : Nat) : State :=
  ((s.wr SYS_MODE_RES.CC cc).wr SYS_MODE_RES.RESULT s.mode).down SYS_MODE_RES.BUSY

/-- The code of a request (R358). -/
def State.modeCode (s : State) (new : Nat) (noOut : Bool) : Nat :=
  if 5 < new || (noOut && new ≠ 5) then ccRange
  else if new = s.mode && (new ≠ 5 || noOut == s.on SYS_MODE_RES.NO_OUT) then ccOk
  else if !s.permitted new then ccDenied
  else if s.pairBusy || s.floeHolds new || !s.canEnter new then ccBusy
  else ccOk

/-- A mode is requested. -/
def State.request (s : State) (new : Nat) (noOut : Bool) (cause : Nat) : State :=
  let cc := s.modeCode new noOut
  if cc ≠ ccOk || (new = s.mode && (new ≠ 5 || noOut == s.on SYS_MODE_RES.NO_OUT)) then s.modeDone cc
  else if new = 0 then (s.modeDone ccOk).enter 0 false cause
  else (s.applyMode new noOut cause).modeDone ccOk

/-- MODE_REQUEST: a write of SYS_MODE_REQ starts a request; the vault's is ignored (R357). -/
def State.modeReqWrite (s : State) (r : Req) (v : Word) : State :=
  if !s.rails || r = 129 then s
  else if s.on SYS_MODE_RES.BUSY then s.up SYS_MODE_RES.OVERRUN
  else { s.up SYS_MODE_RES.BUSY with modeReq := some ⟨bitsOf v.toNat 0 3, v.getLsbD 3, s.ctr⟩ }

/-- The request in progress is judged and ends (R357, R358). -/
def State.modeSettle (s : State) : State :=
  match s.modeReq with
  | some q => { s with modeReq := none }.request q.target q.noOut byRequest
  | none => s

/-- The request in progress ends at the latest 10 ms after its write (R357). -/
def State.modeDue (s : State) : State :=
  match s.modeReq with
  | some q => if q.at' + msTicks 10 ≤ s.ctr then s.modeSettle else s
  | none => s

/-- A takeover or a handover overrides the request in progress, which ends with BUSY (R359). -/
def State.modeOverride (s : State) : State :=
  if s.modeReq.isSome then { s with modeReq := none }.modeDone ccBusy else s

/-! ## SYS_OUT_PERMIT, contactors, fallback (R356, R367 to R369) -/

/-- OUT_PERMIT_WRITE: locked outside COMMISSION. -/
def State.outPermitWrite (s : State) (v : Word) : State :=
  if s.mode = 2 then s.wr ⟨SYS_OUT_PERMIT.addr, 0, 4⟩ v.toNat else s

/-- A write of SYS_CTR(n) (R369): ignored without HOLD; CMD is loaded from RIME_OUT when OWN changes to 1. Only a program of
the array takes a contactor from Rime (R2): a write of OWN = 1 by another agent is ignored (log entry 13). -/
def State.ctrWrite (s : State) (r : Req) (n : Nat) (v : Word) : State :=
  if 4 ≤ n || !s.holds then s
  else if v.getLsbD 0 then
    if 128 ≤ r then s
    else if s.on (SYS_CTR.OWN n) then s.bit (SYS_CTR.CMD n) (v.getLsbD 1)
    else (s.bit (SYS_CTR.CMD n) (s.rimeOut n)).up (SYS_CTR.OWN n)
  else (s.down (SYS_CTR.OWN n)).bit (SYS_CTR.CMD n) (v.getLsbD 1)

/-- FALLBACK (R368): 50 ms without HOLD on either module. -/
def State.fallback (s : State) : State :=
  if s.holds || s.holdIn || s.on (SYS_CTR.FALLBACK 0) || s.rime.stopped then s
  else ((s.reach (max s.pair.offSince s.pair.inSince + msTicks 50)).toRime).setFallback true

/-- ECC_CE_CLEAR (R43). -/
def State.eccCeClear (s : State) (v : Word) : State :=
  if s.rails && v.getLsbD 31 then s.wr SYS_ECC_CE.COUNT 0 else s

/-! ## Islanding (R371, R372) -/

/-- Is an uplink up? -/
def State.uplink? (s : State) : Bool := s.on (PORT_LINK.UP 0) || s.on (PORT_LINK.UP 1)

/-- The condition of R371, or of R372. -/
def State.autoCond (s : State) : Bool :=
  if s.mode = 3 then s.on SYS_ISL_CFG.AUTO && !s.on FLOE_LEAD.LEAD_VALID && !s.uplink?
  else s.mode == 5 && s.on SYS_MODE_RES.AUTO && s.on FLOE_LEAD.LEAD_VALID && s.uplink?

/-- The time since which the condition has held without a break. -/
def State.autoWatch (s : State) : State :=
  match s.autoCond, s.pair.autoSince with
  | true, none => s.onPair (fun p => { p with autoSince := some s.ctr })
  | false, some _ => s.onPair (fun p => { p with autoSince := none })
  | _, _ => s

/-- DELAY in ticks. -/
def State.autoDelay (s : State) : Nat := msTicks (1000 * s.rd SYS_ISL_CFG.DELAY)

/-- AUTO_ISLAND: entry waits while a floe change is held. -/
def State.autoIsland (s : State) : State :=
  match s.pair.autoSince with
  | some c =>
    if s.mode ≠ 3 || !s.autoCond || s.rd FLOE_CHANGE.STATE = 1 then s
    else
      ((s.reachCtr (c + s.autoDelay)).enter 5 (!s.on SYS_ISL_CFG.AUTO_OUT) byAuto).up SYS_MODE_RES.AUTO
  | none => s

/-- AUTO_RETURN. -/
def State.autoReturn (s : State) : State :=
  match s.pair.autoSince with
  | some c =>
    if s.mode ≠ 5 || !s.autoCond then s
    else
      let s := s.reachCtr (c + s.autoDelay)
      if s.canEnter 3 then s.enter 3 false byAuto else s
  | none => s

/-! ## What follows every command -/

/-- After a command: a mode request 10 ms old ends, a check whose gate closed ends with DENIED, queued actuating frames whose gate closed are discarded,
contactors that closed start their captures, and the time of R371 and R372 is watched. -/
def State.gates (s : State) (f : State → State) : State :=
  (s.watchCtr (fun s => (f s).modeDue.checkGate.canGate)).autoWatch

end Sys2Proof.Machine
end

