-- ==== Sys2Proof/Machine/Vault.lean ====
section
/-!
DEFINITION. Sys2Proof/Machine/Vault.lean: the key vault: its slots, the operations of KOP and OP, zeroise, and the VLT
commands (R411 to R420).
-/

namespace Sys2Proof.Machine

/-- The vault changed. -/
def State.onVlt (s : State) (f : Vlt → Vlt) : State := { s with vlt := f s.vlt }

/-- A key slot. -/
def State.slot (s : State) (n : Nat) : KeySlot := SMap.get (fun _ => {}) s.vlt.slots n

/-- A key slot given its contents, whatever its generation. -/
def State.putSlot (s : State) (n : Nat) (k : KeySlot) : State :=
  s.onVlt (fun v => { v with slots := SMap.put (fun _ => {}) v.slots n k })

/-! ## Usage (R412) -/

abbrev useEnc : Nat := 0
abbrev useDec : Nat := 1
abbrev useMac : Nat := 2
abbrev useSign : Nat := 3
abbrev useVerify : Nat := 4
abbrev useDerive : Nat := 5
abbrev useWrap : Nat := 6
abbrev useExport : Nat := 7
abbrev useMacsec : Nat := 8
abbrev useLumen : Nat := 10

/-- The USAGE bits that a TYPE permits. -/
def usageMask (typ : Nat) : Nat :=
  match typ with
  | 1 => 0x4E7 | 2 => 0x4A4 | 3 => 0x4B8 | 4 => 0x410 | 5 => 0x100 | 6 => 0x200 | _ => 0

/-- Does a USAGE keep to what a TYPE permits? -/
def usageOk (typ usage : Nat) : Bool := 1 ≤ typ && typ ≤ 6 && usage &&& usageMask typ == usage

/-- Has a slot a USAGE bit set? -/
def KeySlot.may (k : KeySlot) (bit : Nat) : Bool := bitsOf k.usage bit 1 == 1

/-! ## Changes of a slot (R413) -/

/-- The generation that follows: modulo 65,536, passing over 0. -/
def nextGen (g : Nat) : Nat := if 65535 ≤ g then 1 else g + 1

/-- Every core of a notify mask is sent a word. -/
def State.notify (s : State) (agent tid mask : Nat) (v : Word) : State :=
  (List.range 32).foldl (fun s k => if bitsOf mask k 1 == 1 then (s.mbxSend agent k tid v).2 else s) s

/-- A slot changes: 1 written, 2 erased, 3 zeroised. -/
def State.changeSlot (s : State) (n event : Nat) (typ usage : Nat) (key : List Byte) : State :=
  let g := nextGen (s.slot n).gen
  let s := ((s.putSlot n ⟨typ, usage, g, key⟩).blkHeal 6 n).up VLT_EVT.SLOT_CHANGED
  s.notify 33 129 (s.rd VLT_NOTIFY.CORES) (BitVec.ofNat 32 (n + event * 2 ^ 8 + g * 2 ^ 16))

/-- VAULT became ready: after a power-on each volatile slot is EMPTY with a nonzero generation drawn from the TRNG (R413). An
island that restarts alone keeps what its slots hold (log entry 19). -/
def State.vaultReady (s : State) : State :=
  if s.vlt.begun then s
  else
    (List.range 48).foldl (fun s k =>
      let (x, s) := s.draw
      s.putSlot (16 + k) ⟨0, 0, 1 + x % 65535, []⟩) (s.onVlt (fun v => { v with begun := true }))

/-- VLT_SLOT(n) as it reads. -/
def State.slotWord (s : State) (n : Nat) : Nat :=
  let k := s.slot n
  k.typ % 16 + (k.usage % 2048) * 16 + (k.gen % 65536) * 2 ^ 16

/-- The vault's key of a MACsec slot for SA_INSTALL: its generation and bytes (R285, R412). -/
def State.sakOf (s : State) (n : Nat) : Option (Nat × List Byte) :=
  let k := s.slot n
  if k.typ = 5 && k.may useMacsec && !(s.blkMark 6 n).bad then some (k.gen, k.key) else none

/-! ## Random numbers -/

/-- Bytes from the DRBG or the TRNG: a free value. -/
def State.random (s : State) (n : Nat) : List Byte × State :=
  let (x, s) := s.draw
  (leBytes n x, s)

/-- A new P-384 private number, 48 bytes, most significant first. -/
def State.newPrivate (s : State) : List Byte × State :=
  let (x, s) := s.draw
  (beBytes 48 (1 + x % (pN - 1)), s)

/-! ## Operations (R418 to R420) -/

/-- Operations that take a descriptor. -/
def kopHasDesc (op : Nat) : Bool := (3 ≤ op && op ≤ 0x0E)

/-- Operations that write a key into a target slot. -/
def kopTargets (op : Nat) : Bool := op == 0x0A || op == 0x0B || op == 0x0C || op == 0x0E

/-- The TYPEs of key that an operation takes, and the usage it needs; none where it takes no key. -/
def kopKey (op : Nat) : Option (List Nat × Nat) :=
  match op with
  | 0x01 => some ([1], useEnc)
  | 0x02 => some ([1], useDec)
  | 0x03 => some ([1], useEnc)
  | 0x04 => some ([1], useDec)
  | 0x05 => some ([1], useMac)
  | 0x06 => some ([2], useMac)
  | 0x08 => some ([3], useSign)
  | 0x09 => some ([3, 4], useVerify)
  | 0x0A => some ([3], useDerive)
  | 0x0B => some ([1, 2], useDerive)
  | 0x0D => some ([1], useWrap)
  | 0x0E => some ([1], useWrap)
  | _ => none

/-- The input lengths that an operation accepts (R419). -/
def kopLen (op n : Nat) : Bool :=
  match op with
  | 0x04 => 16 ≤ n
  | 0x08 => n == 48
  | 0x09 => n == 144
  | 0x0A => n == 97
  | 0x0E => 16 ≤ n && n % 8 == 0
  | _ => true

/-- The key bytes of a TYPE that a derivation makes. -/
def keyLen (typ : Nat) : Nat := match typ with | 1 => 32 | 2 => 48 | 3 => 48 | 4 => 97 | 5 => 48 | 6 => 64 | _ => 0

/-- The TYPEs that an operation can put into its target. -/
def kopMakes (op typ : Nat) : Bool :=
  match op with
  | 0x0C => 1 ≤ typ && typ ≤ 3
  | 0x0A => typ == 1 || typ == 2 || typ == 5 || typ == 6
  | 0x0B => typ == 1 || typ == 2 || typ == 5 || typ == 6
  | _ => 1 ≤ typ && typ ≤ 6

/-- A KOP descriptor (R418). -/
structure KDesc where
  input : Nat
  len : Nat
  aad : Nat
  out : Nat
  tgt : Nat
  typ : Nat
  usage : Nat
  rsv : Nat

/-- The descriptor in 32 bytes. -/
def kdescOf (b : List Byte) : KDesc :=
  ⟨ofLe (b.take 8), ofLe ((b.drop 8).take 4), ofLe ((b.drop 12).take 4), ofLe ((b.drop 16).take 8),
    ofLe ((b.drop 24).take 1), ofLe ((b.drop 25).take 1), ofLe ((b.drop 26).take 2), ofLe ((b.drop 28).take 4)⟩

/-- Are the descriptor's fields legal for an operation? -/
def KDesc.legal (d : KDesc) (op : Nat) : Bool :=
  d.input % 8 == 0 && d.out % 8 == 0 && d.rsv == 0 && d.len ≤ 65536 && d.aad ≤ d.input && d.input + d.len ≤ 2 ^ 36 &&
    d.out < 2 ^ 36 && kopLen op d.len && (d.aad == 0 || op == 3 || op == 4) &&
    (!(kopTargets op || op == 0x0D) || d.tgt < 64) &&
    (!kopTargets op || (usageOk d.typ d.usage && kopMakes op d.typ))

/-- May the caller name the target (R418)? -/
def State.targetOk (s : State) (lumen : Bool) (op : Nat) (d : KDesc) : Bool :=
  let t := s.slot d.tgt
  1 < d.tgt &&
    (if op = 0x0D then t.may useExport && (!lumen || t.may useLumen)
     else !lumen || ((t.typ == 0 || t.may useLumen) && bitsOf d.usage useLumen 1 == 1))

/-- The code with which a slot refuses an operation: NOT_FOUND, STALE_GEN, DENIED; OK where it serves. -/
def State.keyCode (s : State) (lumen : Bool) (op ra : Nat) : Nat :=
  let k := s.slot (bitsOf ra 0 6)
  let stale := bitsOf ra 6 1 == 1 && bitsOf ra 16 16 != k.gen
  match kopKey op with
  | some (ts, use) =>
    if k.typ = 0 then ccNotFound
    else if stale then ccStaleGen
    else if !ts.contains k.typ || !k.may use || (lumen && !k.may useLumen) then ccDenied
    else ccOk
  | none =>
    if op = 0x0F then
      if k.typ = 0 then ccNotFound
      else if stale then ccStaleGen
      else if lumen && !k.may useLumen then ccDenied
      else ccOk
    else if op = 0x10 then
      if stale then ccStaleGen else if lumen && k.typ != 0 && !k.may useLumen then ccDenied else ccOk
    else ccOk

/-- Key slots are read: is a word of one of them poisoned (R39, R44)? The state after it. -/
def State.slotsMet (s : State) (l : List Nat) : Bool × State :=
  (l.any (fun n => (s.blkMark 6 n).bad), l.foldl (fun s n => s.blkMet 6 n) s)

/-- An operation that an agent starts (ERASE carries its slot as the target): the code where it ends at once; none where it is now in flight. -/
def State.kopStart (s : State) (tid : Option Nat) (lumen : Bool) (op ra rb : Nat) (w : Wide) : Option Nat × State :=
  let fail (cc : Nat) : Option Nat × State := (some cc, s)
  let put (s : State) (d : KDesc) (input aad : List Byte) : Option Nat × State :=
    let n := bitsOf ra 0 6
    let o : VOp := ⟨tid, op, s.slot n, input, aad, d.out, d.tgt, d.typ, d.usage, s.slot d.tgt, w, s.now⟩
    let (k, s) := s.slotsMet ((if (kopKey op).isSome || op = 0x10 then [n] else []) ++ (if op = 0x0D then [d.tgt] else []))
    if k then (some ccUe, s) else (none, s.onVlt (fun v => { v with ops := v.ops ++ [o] }))
  let kc := s.keyCode lumen op ra
  if !s.rdy 3 then fail ccBusy
  else if 0x10 < op || bitsOf ra 7 9 != 0 || bitsOf ra 32 32 != 0 || 2 ^ 40 ≤ rb || rb % 8 != 0 then fail ccRange
  else if op = 0x0C && bitsOf ra 0 6 != 0 then fail ccRange
  else if 16 ≤ s.vlt.ops.length then fail ccFull
  else if !kopHasDesc op then
    if rb != 0 then fail ccRange else if kc ≠ ccOk then fail kc
    else put s { kdescOf [] with tgt := bitsOf ra 0 6 } [] []
  else if 2 ^ 36 < rb + 32 then fail ccRange
  else match s.dmaRead rb 32 with
    | none => let (cc, s) := s.dmaFail rb 32; (some cc, s)
    | some b =>
      let s := s.dmaMet rb 32
      let fail (cc : Nat) : Option Nat × State := (some cc, s)
      let d := kdescOf b
      if !d.legal op then fail ccRange
      else if kc ≠ ccOk then fail kc
      else if op = 0x0D && (s.slot d.tgt).typ = 0 then fail ccNotFound
      else if op = 0x0D && s.on RIME_TAMP.C1 then fail ccDenied
      else if (kopTargets op || op = 0x0D) && !s.targetOk lumen op d then fail ccDenied
      else match s.dmaRead (d.input - d.aad) (d.aad + d.len) with
        | none => let (cc, s) := s.dmaFail (d.input - d.aad) (d.aad + d.len); (some cc, s)
        | some x => put (s.dmaMet (d.input - d.aad) (d.aad + d.len)) d (x.drop d.aad) (x.take d.aad)

/-- What an operation gives: the code, the output bytes, w where the operation gives one, and the key it makes. -/
structure VRes where
  cc : Nat := 0
  out : List Byte := []
  w : Option Wide := none
  key : Option (List Byte) := none

/-- The 16 bytes of a wide register. -/
def wideBytes (w : Wide) : List Byte := leBytes 16 w.toNat

/-- The public key of a slot of type 3 or 4. -/
def KeySlot.pub (k : KeySlot) : List Byte := if k.typ = 3 then pubOf (ofBe k.key) else k.key

/-- The nonce of GCM: lanes 0 to 5 of w. -/
def VOp.nonce (o : VOp) : List Byte := (wideBytes o.w).take 12

/-- The work of an operation on its copies. -/
def State.kopWork (s : State) (o : VOp) : VRes × State :=
  match o.op with
  | 0x00 => let (b, s) := s.random 16
            ({ w := some (wideOf b) }, s)
  | 0x01 => ({ w := some (wideOf (aesEnc o.src.key (wideBytes o.w))) }, s)
  | 0x02 => ({ w := some (wideOf (aesDec o.src.key (wideBytes o.w))) }, s)
  | 0x03 => ({ out := gcmSeal o.src.key o.nonce o.aad o.input }, s)
  | 0x04 => match gcmOpen o.src.key o.nonce o.aad o.input with
            | some m => ({ out := m }, s)
            | none => ({ cc := ccSigFail }, s)
  | 0x05 => ({ w := some (wideOf (cmac o.src.key o.input)) }, s)
  | 0x06 => let h := hmac o.src.key o.input
            ({ out := h, w := some (wideOf h) }, s)
  | 0x07 => let h := sha384 o.input
            ({ out := h, w := some (wideOf h) }, s)
  | 0x08 => ({ out := ecdsaSign (ofBe o.src.key) o.input }, s)
  | 0x09 => match pointOf o.src.pub with
            | some q => ({ cc := if ecdsaVerify q (o.input.take 48) (o.input.drop 48) then ccOk else ccSigFail }, s)
            | none => ({ cc := ccSigFail }, s)
  | 0x0A => match pointOf o.input with
            | some q => ({ key := some (hkdf (ecdhSecret (ofBe o.src.key) q) (wideBytes o.w) (keyLen o.tgtType)) }, s)
            | none => ({ cc := ccSigFail }, s)
  | 0x0B => ({ key := some (hkdf o.src.key o.input (keyLen o.tgtType)) }, s)
  | 0x0C => if o.tgtType = 3 then
              let (b, s) := s.newPrivate
              ({ key := some b }, s)
            else
              let (b, s) := s.random (keyLen o.tgtType)
              ({ key := some b }, s)
  | 0x0D => ({ out := kwpWrap o.src.key o.wrapped.key }, s)
  | 0x0E => match kwpUnwrap o.src.key o.input with
            | some k => if k.length = keyLen o.tgtType then ({ key := some k }, s) else ({ cc := ccRange }, s)
            | none => ({ cc := ccSigFail }, s)
  | 0x10 => ({ w := some (BitVec.ofNat 128 (o.src.typ + o.src.usage * 2 ^ 16 + o.src.gen * 2 ^ 32)) }, s)
  | _ => ({}, s)

/-- An operation ends: the code, rd, w where it gives one, the state (R414, R418). -/
def State.kopFinish (s : State) (o : VOp) : Nat × Nat × Option Wide × State :=
  let (r, s) := s.kopWork o
  if r.cc ≠ 0 then (r.cc, 0, r.w.map (fun _ => 0), s)
  else
    let (cc, s) := if r.out.isEmpty then (ccOk, s) else s.dmaWrite o.out r.out
    if cc ≠ ccOk then (cc, 0, r.w.map (fun _ => 0), s)
    else
      let s := match r.key with
        | some k => s.changeSlot o.tgt 1 o.tgtType o.tgtUsage k
        | none => s
      let s := if o.op = 0x0F then s.changeSlot o.tgt 2 0 0 [] else s
      let g := if (kopKey o.op).isSome || 0x0E < o.op then o.src.gen else 0
      (ccOk, g + r.out.length * 2 ^ 32, r.w, s)

/-- Does an operation give w (R419)? -/
def kopGivesW (op : Nat) : Bool := op ≤ 2 || op == 5 || op == 6 || op == 7 || op == 0x10

/-- The first operation in flight that a test names, taken out. -/
def State.takeOp (s : State) (p : VOp → Bool) : Option (VOp × State) :=
  (s.vlt.ops.find? p).map (fun o => (o, s.onVlt (fun v => { v with ops := v.ops.eraseP p })))

/-- KOP of a thread ends with its outputs (R168): rd, and w for an operation that gives it. -/
def State.kopReturn (s : State) (t : Nat) (op : Nat) (cc rd : Nat) (w : Option Wide) : State :=
  match s.prim t with
  | some (.kop r wr) =>
    let s := s.setG t r (BitVec.ofNat 64 rd)
    let s := if kopGivesW op then s.setW t wr (w.getD 0) else s
    s.primDone t cc
  | _ => s

/-- A command of the VLT interface ends. -/
def State.vltDone (s : State) (cc : Nat) : State := s.done VLT_STAT.addr VLT_EVT.CMD_DONE cc

/-- OP of the VLT interface ends: DATA0 and DATA1 return rd, VLT_W returns w. -/
def State.opReturn (s : State) (op cc rd : Nat) (w : Option Wide) : State :=
  let s := s.wr64 VLT_DATA0.VALUE VLT_DATA1.VALUE rd
  let s := if kopGivesW op then
      (List.range 4).foldl (fun s k => s.wr (VLT_W.W k) (bitsOf (w.getD 0).toNat (32 * k) 32)) s
    else s
  s.vltDone cc

/-- An operation gives its code to whoever asked. -/
def State.kopAnswer (s : State) (o : VOp) (cc rd : Nat) (w : Option Wide) : State :=
  match o.tid with
  | some t => s.kopReturn t o.op cc rd w
  | none => s.opReturn o.op cc rd w

/-- The ticks that an operation takes once it has reached the vault (R419): the input's bytes count, not the AAD's
(log entry 49). -/
def VOp.ticks (o : VOp) : Nat :=
  match o.op with
  | 0x00 => 160
  | 0x01 => 80
  | 0x02 => 80
  | 0x08 => 120000
  | 0x09 => 240000
  | 0x0A => 240000
  | 0x0B => 4000
  | 0x0C => if o.tgtType = 3 then 320000 else 1600
  | 0x0D => 4000
  | 0x0E => 4000
  | 0x0F => 800
  | 0x10 => 80
  | _ => 800 + divUp o.input.length 5

/-- The model time at which an operation's work ends. -/
def VOp.ends (o : VOp) : Nat := o.since + o.ticks

/-- An operation ends, and gives its code to whoever asked. -/
def State.kopEnd (s : State) (o : VOp) : State :=
  let (cc, rd, w, s) := s.kopFinish o
  s.kopAnswer o cc rd w

/-- The oldest operation in flight of a thread, or of the OP command, completes. -/
def State.kopComplete (s : State) (who : Option Nat) : State :=
  match s.takeOp (fun o => o.tid == who) with
  | none => s
  | some (o, s) => (s.reach o.ends).kopEnd o

/-! ## Zeroise and tamper (R415, R416) -/

/-- A zeroise: every slot and its sealed copy erased, operations in flight end with KEY_GONE, SAs of the slots are lost. An
operation whose work has ended is past the engine, and what is left of it, its burst to DRAM, finishes first (R415). -/
def State.zeroise (s : State) : State :=
  let os := s.vlt.ops
  let s := s.onVlt (fun v => { v with ops := [] })
  let s := (os.filter (fun o => decide (o.ends ≤ s.now))).foldl State.kopEnd s
  let s := (os.filter (fun o => decide (s.now < o.ends))).foldl (fun s o => s.kopAnswer o ccKeyGone 0 none) s
  let s := (List.range 64).foldl (fun s n => (s.changeSlot n 3 0 0 []).saLost n) s
  (s.up VLT_EVT.ZEROISED).down VLT_STATUS.PROVISIONED

/-- The address that DATA0 and DATA1[7:0] name. -/
def State.vltAddr (s : State) : Nat := s.rd VLT_DATA0.VALUE + bitsOf (s.rd VLT_DATA1.VALUE) 0 8 * 2 ^ 32

/-- OP: KOP for whoever wrote the command. -/
def State.vltOp (s : State) (r : Req) : State :=
  let w := (List.range 4).foldl (fun a k => a + s.rd (VLT_W.W k) * 2 ^ (32 * k)) 0
  let op := bitsOf (s.rd VLT_DATA2.VALUE) 0 6
  match s.kopStart none (r < 128) op (s.rd VLT_KEY.VALUE) s.vltAddr (BitVec.ofNat 128 w) with
  | (some cc, s) => s.opReturn op cc 0 none
  | (none, s) => s.start VLT_STAT.addr

/-- May the vault be provisioned now (R417)? -/
def State.mayProvision (s : State) : Bool :=
  (s.mode == 1 || s.mode == 2) && (s.slot 0).typ == 0 && s.on RIME_TAMP.LID

/-- What PROVISION does with a trust anchor: slot 0 generated, slot 1 loaded, C1 and C2 cleared; the slot 0 public key.
Which of the permitted USAGE bits slots 0 and 1 get, the spec does not say. -/
def State.provisionWith (s : State) (anchor : List Byte) : List Byte × State :=
  let (d, s) := s.newPrivate
  let (u0, s) := s.draw
  let (u1, s) := s.draw
  let s := s.changeSlot 0 1 3 (u0 &&& usageMask 3) d
  let s := s.changeSlot 1 1 4 (u1 &&& usageMask 4) anchor
  let s := (((s.down RIME_TAMP.C1).down RIME_TAMP.C2).up VLT_STATUS.PROVISIONED).up VLT_EVT.PROVISIONED
  let s := if s.crq.phase = 2 then { s with crq := { s.crq with phase := 3 } } else s
  (pubOf (ofBe d), s)

/-- PROVISION (R417). -/
def State.provision (s : State) : State :=
  let a := s.vltAddr
  if !s.mayProvision then s.vltDone ccDenied
  else if a % 8 != 0 then s.vltDone ccRange
  else match s.dmaRead a 97 with
    | none => let (cc, s) := s.dmaFail a 97; s.vltDone cc
    | some b =>
      let s := s.dmaMet a 97
      if (pointOf b).isNone then s.vltDone ccRange
      else
        let (pub, s) := s.provisionWith b
        let (cc, s) := s.dmaWrite (a + 128) pub
        s.vltDone cc

/-- CHALLENGE (R416). -/
def State.challenge (s : State) : State :=
  let (n, s) := s.random 32
  let (cc, s) := s.dmaWrite s.vltAddr n
  (s.onVlt (fun v => { v with nonce := some (n, s.ctr + msTicks 300000) })).vltDone cc

/-- CLEAR_TAMPER (R416). -/
def State.clearTamper (s : State) : State :=
  match s.vlt.nonce with
  | none => s.vltDone ccLate
  | some (n, t) =>
    let s := s.onVlt (fun v => { v with nonce := none })
    if t < s.ctr then s.vltDone ccLate
    else
      let a := s.vltAddr
      match s.dmaRead a 96 with
      | none => let (cc, s) := s.dmaFail a 96; s.vltDone cc
      | some sig =>
        let digest := sha384 (n ++ leBytes 8 Config.serial)
        let good := match pointOf (s.slot 1).key with
          | some q => ecdsaVerify q digest sig
          | none => false
        let (bad, s) := (s.dmaMet a 96).slotsMet [1]
        if bad then s.vltDone ccUe
        else if good then ((s.down RIME_TAMP.C1).up VLT_EVT.C1_CLEARED).vltDone ccOk
        else s.vltDone ccSigFail

/-- CERT_SET (R417). -/
def State.certSet (s : State) : State :=
  let n := bitsOf (s.rd VLT_DATA2.VALUE) 0 13
  if !s.on VLT_STATUS.PROVISIONED then s.vltDone ccDenied
  else if 4096 < n then s.vltDone ccRange
  else
    let a := s.vltAddr
    match s.dmaRead a n with
    | some b => ((s.dmaMet a n).onVlt (fun v => { v with cert := b })).vltDone ccOk
    | none => let (cc, s) := s.dmaFail a n; s.vltDone cc

end Sys2Proof.Machine
end

