-- ==== Sys2Proof/Machine/Faults.lean ====
section
/-!
DEFINITION. Sys2Proof/Machine/Faults.lean: Cirque's recoveries, one at a time, what may pre-empt or defer them, island
restarts, and the double-fault case of a pair (R450 to R456).
-/

namespace Sys2Proof.Machine

/-- Cirque's fault handling changed; CRQ_FAULT follows. -/
def State.onFaults (s : State) (f : Faults → Faults) : State := { s with faults := f s.faults }.faultRegs

/-! ## Islands and their ready bits (R362) -/

/-- The ready bit of an island of SYS_ISL; Rime never restarts. -/
def islandBit (isl : Nat) : Option Nat :=
  if isl < 8 then some (10 + isl)
  else match isl with
    | 8 => some 18 | 9 => some 19 | 10 => some 4 | 11 => some 6 | 12 => some 7 | 13 => some 8 | 14 => some 20
    | 15 => some 21 | 16 => some 23 | 17 => some 3 | 18 => some 2 | 19 => some 22 | _ => none

/-- LUMEN is 1 while all of L0 to L7 are. -/
def State.lumenBit (s : State) : State := s.setReady 9 ((List.range 8).all (fun c => s.rdy (10 + c)))

/-- Is an island ready? -/
def State.islandUp (s : State) (isl : Nat) : Bool := match islandBit isl with | some b => s.rdy b | none => true

/-- An island is restarted: its ready bit clears until its self-test has ended; the threads of a cluster stop. -/
def State.restartIsland (s : State) (isl : Nat) : State :=
  match islandBit isl with
  | none => s
  | some b =>
    let s := s.setReady b false
    if isl < 8 then
      ((List.range 16).foldl (fun s k =>
        if s.thState (16 * isl + k) = thStopped then s else s.haltThread (16 * isl + k)) s).lumenBit
    else s

/-! ## Recoveries (R450 to R452) -/

/-- Has the cause of a deferred fault cleared (R452)? -/
def State.causeGone (s : State) (f : FaultRec) : Bool :=
  match f.cause with
  | 0x08 => s.islandUp f.island && !s.crq.vddBad.contains f.island
  | 0x09 => !s.on (SAST_CHAIN.BROKEN f.chain)
  | 0x10 => !s.on (MOR_GROUP.FAILED 0) && !s.on (MOR_GROUP.FAILED 1)
  | 0x11 => false
  | 0x12 => !s.holds
  | 0x13 => s.islandUp f.island
  | 0x14 => s.islandUp f.island
  | _ => true

/-- Is the recovery of a cause none (R450)? -/
def noRecovery (cause : Nat) : Bool := cause < 8 || cause == 0x0A || cause == 0x0B

/-- Step 2 of R451: SHADOW where HOLD_IN and COMPAT are set, else ISLANDED without outputs; from RECOVERY the module
stays there. Step 3: the island of the cause is restarted. -/
def State.f2Step2 (s : State) (f : FaultRec) : State :=
  let s := { s with faults := { s.faults with step2 := false } }
  let s :=
    if s.mode = 1 then s
    else if s.holdIn && s.on PAIR_STATUS.COMPAT && !s.on CRQ_FAULT.DUAL then
      if s.mode = 4 then s else s.enterUp 4 false byFault none
    else if s.mode = 5 && s.on SYS_MODE_RES.NO_OUT then s
    else s.enterUp 5 true byFault none
  s.restartIsland f.island

/-- Step 2 of an F2 recovery is due once HOLD_IN is asserted, where there is no partner, in the double-fault case, or
within the 10 ms of R357. -/
def State.f2Settle (s : State) : State :=
  match s.faults.cur with
  | some f =>
    if s.faults.step2 && (s.holdIn || !s.on PAIR_STATUS.PAIRED || s.on CRQ_FAULT.DUAL ||
        decide (s.faults.start + msTicks 10 ≤ s.ctr)) then s.f2Step2 f
    else s
  | none => s

/-- The recovery in progress ends with a disposition in its record. -/
def State.endRecovery (s : State) (disp : Nat) : State :=
  match s.faults.cur with
  | some f => (s.recordEnd f disp).onFaults (fun x => { x with cur := none, step2 := false })
  | none => s

/-- The recovery of a fault starts (R450). A recovery that is complete at once leaves none in progress. -/
def State.startRecovery (s : State) (f : FaultRec) : State :=
  let s := s.onFaults (fun x => { x with cur := some f, start := s.ctr, step2 := false })
  match f.cause with
  | 0x08 => s.restartIsland f.island
  | 0x09 => if s.on (SAST_CHAIN.LOCK f.chain) then s.discStart f.chain else s.endRecovery dispDone
  | 0x0C => (s.setPc 128 (BitVec.ofNat 40 Config.bootEntry)).endRecovery dispDone
  | 0x11 => ((s.release).endRecovery dispDone).enter 0 false byFault
  | 0x18 =>
    let s := s.release
    (if s.mode = 1 then s else s.enterUp 1 false byFault none).endRecovery dispDone
  | _ =>
    if noRecovery f.cause then s.onFaults (fun x => { x with cur := none })
    else
      let had := s.holds
      let s := s.release.iceFlushStart
      let s := if had then s.onPair (fun p => { p with window := some s.ctr }) else s
      (s.onFaults (fun x => { x with step2 := true })).f2Settle

/-- Is a fault of this module the second of the double-fault case: F2 or F3, inside the takeover window, of a module that
was not in F2 recovery already (R454)? -/
def State.isDual (s : State) (cls : Nat) : Bool :=
  decide (2 ≤ cls) && s.inWindow && !s.on CRQ_FAULT.DUAL &&
    (match s.faults.cur with | some c => decide (c.cls < 2) | none => true)

/-- The double-fault case applies (R454). -/
def State.setDual (s : State) : State :=
  let s := (s.up CRQ_FAULT.DUAL).release
  match s.faults.cur with
  | some f => { s with faults := { s.faults with cur := some { f with case := 1 } } }
  | none => s

/-- A fault is raised (R450, R452): it starts, is merged, deferred or lost, or pre-empts a recovery of lower class. HOLD is
released at once by an F2 or F3 fault, one that is deferred too (R332). -/
def State.raiseFault (s : State) (cause island chain : Nat) : State :=
  let cls := faultClass cause
  let dual := s.isDual cls
  let s := if dual then s.setDual else s
  let f : FaultRec := ⟨cause, cls, island, if dual then 1 else s.faultCase cause chain 0, s.iceSeq, chain⟩
  if !s.rails then s
  else match s.faults.cur with
  | none => (s.recordFault f dispStarted).startRecovery f
  | some c =>
    if f.cls ≤ c.cls then (if 2 ≤ f.cls then s.release else s).deferFault f
    else
      let s := s.recordFault f dispPreempting
      let s := s.endRecovery (if cause = 0x14 && c.cause = 0x08 then dispEscalated else dispAbandoned)
      s.startRecovery f

/-- Deferred faults are handled in order of arrival: those whose cause has cleared complete with nothing further done, the
first other one starts. -/
def startNext : Nat → State → State
  | 0, s => s
  | n + 1, s =>
    match s.faults.cur, s.faults.deferred with
    | none, f :: fs =>
      let s := s.onFaults (fun x => { x with deferred := fs })
      if s.causeGone f then startNext n (if noRecovery f.cause then s else s.recordEnd f dispDone)
      else startNext n (s.startRecovery f)
    | _, _ => s

/-- Deferred faults are handled where no recovery is in progress. -/
def State.nextFault (s : State) : State := startNext (s.faults.deferred.length) s

/-- An F2 recovery completes (R451 steps 4 and 5): a module in ISLANDED requests SERVICE, unless DUAL is set. -/
def State.f2Complete (s : State) (f : FaultRec) : State :=
  let s := if s.faults.step2 then (s.reachCtr (s.faults.start + msTicks 10)).f2Step2 f else s
  let s := if s.canEnter 3 then s else s.reachCtr (s.faults.start + msTicks 10000)
  let s := s.endRecovery dispDone
  let s := if s.mode = 5 && !s.on CRQ_FAULT.DUAL then s.request 3 false byFault else s
  s.nextFault

/-- RECOVERY_COMPLETE: the recovery in progress is complete (R450), and the next deferred fault is handled. -/
def State.recoveryComplete (s : State) : State :=
  match s.faults.cur with
  | none => s.nextFault
  | some f =>
    if f.cause = 0x08 then if s.islandUp f.island then (s.endRecovery dispDone).nextFault else s
    else if f.cause = 0x09 then
      if (s.chain f.chain).disc.isNone then (s.endRecovery dispDone).nextFault else s
    else if f.cls = 2 then s.f2Complete f
    else (s.endRecovery dispDone).nextFault

/-- ISLAND_RESTART_TIMEOUT: an island restarted under F1 is not ready within 5 s. -/
def State.restartTimeout (s : State) : State :=
  match s.faults.cur with
  | some f =>
    if f.cause = 0x08 && !s.islandUp f.island then
      (s.reachCtr (s.faults.start + msTicks 5000)).raiseFault 0x14 f.island 0
    else s
  | none => s

/-- A drive has failed; a third one of a group raises F2 (R315, R456 case 8). -/
def State.driveFault (s : State) (d : Nat) : State :=
  let (bad, s) := s.driveFails d
  if bad then s.raiseFault 0x10 15 0 else s

/-- A drive reports its SMART data (R316): its wear, and a critical warning counts as its failure. -/
def State.smartPoll (s : State) (d wear : Nat) (critical : Bool) : State :=
  if 16 ≤ d || !s.rdy 21 || !s.on (MOR_DRIVE.PRESENT d) then s
  else
    let s := (s.toDrives [d] [.smartLog]).wr (MOR_DRIVE.WEAR d) (min wear 255)
    if critical then s.driveFault d else s

/-- Does a supply lie more than a percentage off its set point (R405)? -/
def offBy (pct mv set : Nat) : Bool := decide (mv * 100 < set * (100 - pct)) || decide (set * (100 + pct) < mv * 100)

/-- The supply set point of an island in mV: R113 for a cluster, 0.750 V for every other island (R48). -/
def State.setPoint (s : State) (isl : Nat) : Nat := if isl < 8 then supplyOf (s.rd (LUM_CL.FREQ_REQ isl)) else 750

/-- VDD_FAULT (R405): an island's supply has been at some mV for 1 ms. More than 5 % off the set point trips; within 4 % releases;
between, the threshold stays as it is. -/
def State.vddFault (s : State) (isl mv : Nat) : State :=
  if 21 ≤ isl || !s.rails then s
  else
    let bad := s.crq.vddBad.contains isl
    let s := s.wr (SYS_ISL.VDD isl) (min mv 4095)
    if bad then
      if offBy 4 mv (s.setPoint isl) then s else s.onCrq (fun c => { c with vddBad := NSet.del c.vddBad isl })
    else if offBy 5 mv (s.setPoint isl) then
      ((s.up CRQ_EVT.VDD_FAULT).onCrq (fun c => { c with vddBad := NSet.add c.vddBad isl })).raiseFault 0x08 isl 0
    else s

/-- A break of a head chain is an F1 fault whose recovery is a discovery (R192, R450). -/
def State.chainFault (s : State) (n pos : Nat) (lockLost : Bool) : State :=
  (s.chainBreak n pos lockLost).raiseFault 0x09 9 n

/-- Uncorrectable errors met in control state are raised (R450 cause 0x13). -/
def State.ctlFaults (s : State) : State :=
  s.faults.ctl.foldl (fun s i => s.raiseFault 0x13 i 0) { s with faults := { s.faults with ctl := [] } }

end Sys2Proof.Machine
end

