-- ==== Sys2Proof/Machine/Mirror.lean ====
section
/-!
DEFINITION. Sys2Proof/Machine/Mirror.lean: what the mirror carries: the updates that tell one state from another, and one
update put in place on the standby (R335, R336; log entry 13).
-/

namespace Sys2Proof.Machine

/-! ## What is mirrored (R335) -/

/-- Registers of Firn and of the floe, whose value the mirror puts in place; FIRN_EVT and its mask and route are this module's
own. -/
def mirroredReg (a : Nat) : Bool :=
  (blockOf a == 2 && 0x10 ≤ a % 0x1000000) || (FLOE_TERM.addr ≤ a && a ≤ FLOE_CHANGE_EP_NS.addr)

/-- Registers of which the standby keeps what the partner's hold, for a takeover. -/
def keptReg (a : Nat) : Bool := a == SAST_CTRL.addr || a == SYS_MODE.addr || a == SYS_OUT_PERMIT.addr

/-- Does a byte of DRAM lie in a program region (R335, R354)? -/
def State.inMreg (s : State) (a : Nat) : Bool :=
  (List.range 16).any (fun r =>
    let base := s.rd (PAIR_MREG_LO.BASE_LO r) * 4096 + s.rd (PAIR_MREG_HI.BASE_HI r) * 2 ^ 32
    decide (base ≤ a) && decide (a < base + 4096 * s.rd (PAIR_MREG_SIZE.PAGES r)))

/-- A table entry as the mirror carries it: without the check bits of this module's storage, and the uses and refreshes as they
are; an L2 entry's refresh goes as its age. -/
def NodeEnt.sent (e : NodeEnt) : NodeEnt := { e with suspect := false, mark := .clean }
def PfxEnt.sent (e : PfxEnt) : PfxEnt := { e with suspect := false, bad := false }
def L2Ent.sent (e : L2Ent) : L2Ent := { e with suspect := false, mark := .clean }

/-- How Sastrugi serves a node, its counter values turned into how long ago they were at c, and back (R335). -/
def NodeMac.aged (m : NodeMac) (c : Nat) : NodeMac :=
  { m with
    heard := c - m.heard
    lostAt := c - m.lostAt
    repAt := c - m.repAt
    det := m.det.map (fun d => (d.1, c - d.2)) }

/-! ## From one state to another -/

/-- The keys under which two tables differ. -/
def changedKeys {β : Type} [DecidableEq β] (d : Nat → β) (a b : SMap β) : List Nat :=
  (((a ++ b).map Prod.fst).eraseDups).filter (fun k => decide (SMap.get d a k ≠ SMap.get d b k))

/-- The entries of a plane that differ, as bytes. -/
def entryItems {w : Nat} (d : Nat → BitVec w) (base n : Nat) (a b : SMap (BitVec w)) : List MirrorItem :=
  (changedKeys d a b).map (fun k => .bytes (base + n * k) (leBytes n (SMap.get d b k).toNat))

/-- The bytes of a bit map that differ. -/
def mapItems (base : Nat) (a b : NSet) : List MirrorItem :=
  ((((a ++ b).filter (fun e => a.contains e != b.contains e)).map (· / 8)).eraseDups).map
    (fun i => .bytes (base + i) [mapByte b i])

/-- Firn's region. -/
def planeItems (p q : Planes) : List MirrorItem :=
  let new := p.base != q.base || p.filled != q.filled
  let o : Planes := if new then { base := q.base, filled := q.filled } else p
  let b := q.base.getD 0
  (if new then [.region q.base q.filled] else []) ++
  (if q.base.isNone then [] else
    entryItems zeroWide b 16 o.fb0 q.fb0 ++ entryItems zeroWide (b + 0x0100_0000) 16 o.fb1 q.fb1 ++
    entryItems zeroWide (b + 0x0200_0000) 16 o.ahead q.ahead ++ entryItems zeroWide (b + 0x0300_0000) 16 o.dp0 q.dp0 ++
    entryItems zeroWide (b + 0x0400_0000) 16 o.dp1 q.dp1 ++ entryItems zeroCal (b + 0x0500_0000) 64 o.cal q.cal ++
    entryItems zeroWord (b + 0x0900_0000) 4 o.map q.map ++ entryItems zeroWord (b + 0x0940_0000) 4 o.derate q.derate ++
    entryItems (nodeDefault q.filled) (b + 0x0980_0000) 16 o.node q.node ++ mapItems (b + 0x09C0_0000) o.dirty0 q.dirty0 ++
    mapItems (b + 0x09C2_0000) o.dirty1 q.dirty1 ++ mapItems (b + 0x09C4_0000) o.dirtyA q.dirtyA ++
    (changedKeys (fun _ => none) o.log q.log).map (fun k => .logSlot k (SMap.get (fun _ => none) q.log k)) ++
    (changedKeys (fun _ => none) o.above q.above).map (fun i => .bytes (b + i) [q.byte i]))

/-- Firn behind its registers: commits, what each node is owed, surges. A surge that was sent and is raised anew goes to the
end of the queue. -/
def firnItems (f g : Firn) (c : Nat) : List MirrorItem :=
  let nodes := (changedKeys (fun _ => []) f.owed g.owed ++ changedKeys (fun _ => 0) f.base g.base ++
    changedKeys (fun _ => 0) f.reports g.reports ++ (f.filt ++ g.filt).filter (fun n => f.filt.contains n != g.filt.contains n)).eraseDups
  let anew (x : Surge) : Bool := g.surges.all (fun y => y.ep != x.ep || (y.first.isNone && x.first.isSome))
  (if f.landed != g.landed || f.lastEpoch != g.lastEpoch || f.commit != g.commit || f.hadCommit != g.hadCommit ||
      f.offAfter != g.offAfter then [.firnCommit g.landed g.lastEpoch g.commit g.hadCommit g.offAfter] else []) ++
  nodes.map (fun n => .firnNode n (SMap.get (fun _ => 0) g.base n) (SMap.get (fun _ => 0) g.reports n) (g.filt.contains n)
    (SMap.get (fun _ => []) g.owed n)) ++
  (changedKeys (fun _ => 32768) f.kSent g.kSent).map (fun e => .kSent e (SMap.get (fun _ => 32768) g.kSent e)) ++
  (if f.aborted != g.aborted || f.waiting != g.waiting then [.firnLists g.aborted g.waiting] else []) ++
  (f.surges.filter anew).map (fun x => .noSurge x.ep) ++
  (g.surges.filter (fun x => !f.surges.contains x)).map (fun x =>
    .surge x.ep x.node x.index x.drives x.hold (x.last - c) x.reps x.first)

/-- Sastrugi's plan, cells and nodes. -/
def sastItems (x y : Sast) (c : Nat) : List MirrorItem :=
  (if x.plan != y.plan || x.next != y.next then [.plan y.plan y.next] else []) ++
  (changedKeys (fun _ => {}) x.cells y.cells).map (fun k => .cell k (SMap.get (fun _ => {}) y.cells k)) ++
  (changedKeys (fun _ => none) x.nodes y.nodes).map (fun n =>
    .mac n ((SMap.get (fun _ => none) y.nodes n).map (fun m => m.aged c)))

/-- How many entries two lists have in common at their front. -/
def commonFront {β : Type} [DecidableEq β] : List β → List β → Nat
  | a :: l, b :: m => if a = b then commonFront l m + 1 else 0
  | _, _ => 0

/-- The prefix table, in table order: between what both have in common at the front and at the back, entries are replaced, and
the rest put in or taken out. -/
def pfxItems (a b : List PfxEnt) : List MirrorItem :=
  let i := commonFront a b
  let a' := a.drop i
  let b' := b.drop i
  let j := commonFront a'.reverse b'.reverse
  let m := a'.length - j
  let new := b'.take (b'.length - j)
  new.zipIdx.map (fun p => if p.2 < m then .pfxSet (i + p.2) p.1 else .pfxIn (i + p.2) p.1) ++
    List.replicate (m - new.length) (.pfxOut (i + new.length))

/-- Serac's tables, at model time t. -/
def srcItems (x y : Src) (t : Nat) : List MirrorItem :=
  let n (z : Src) : SMap (Option NodeEnt) := z.nodes.map (fun p => (p.1, p.2.map NodeEnt.sent))
  let l (z : Src) : SMap (Option L2Ent) := z.l2.map (fun p => (p.1, p.2.map L2Ent.sent))
  (changedKeys (fun _ => none) (n x) (n y)).map (fun k => .node k (SMap.get (fun _ => none) (n y) k)) ++
  pfxItems (x.pfx.map PfxEnt.sent) (y.pfx.map PfxEnt.sent) ++
  (changedKeys (fun _ => none) (l x) (l y)).map (fun k =>
    .l2 k ((SMap.get (fun _ => none) (l y) k).map (fun e => { e with seen := t - e.seen }))) ++
  (if x.use != y.use || x.fails != y.fails then [.srcUse y.use y.fails] else [])

/-- One stream of Moraine: its settings, the records newly staged, the blocks written and the blocks gone. A block that the
trimmer took as soon as it was written went before anything that is left. -/
def streamItems (n : Nat) (x y : Stream) : List MirrorItem :=
  let set (z : Stream) : Bool × Nat × Nat × Nat × Option (Nat × Nat) := (z.isOpen, z.quota, z.retain, z.next, z.ext)
  let kept (r : MRec) : Bool := y.staged.contains r || y.blocks.any (fun b => b.recs.contains r)
  let fleeting := x.staged.filter (fun r => !kept r)
  (if set x != set y then [.stream n y.isOpen y.quota y.retain y.next y.ext] else []) ++
  (y.staged.filter (fun r => !x.staged.contains r)).map (.staged n) ++
  (if fleeting.isEmpty then [] else [.block n ⟨0, fleeting, 0⟩]) ++
  (y.blocks.filter (fun b => !x.blocks.contains b)).map (.block n) ++
  List.replicate ((x.blocks.filter (fun b => !y.blocks.contains b)).length + (if fleeting.isEmpty then 0 else 1)) (.trimmed n)

/-- Moraine: the groups formed anew, the streams, the member slots whose chunks are not whole and the rebuild. -/
def morItems (s t : State) : List MirrorItem :=
  let get (m : Mor) (n : Nat) : Option Stream := SMap.get (fun _ => none) m.streams n
  let new := s.mor.members != t.mor.members || s.mor.streams.any (fun p => (get t.mor p.1).isNone)
  let old : SMap (Option Stream) := if new then [] else s.mor.streams
  let pos (z : State) : Option (Nat × Nat) := z.mor.rebuild.map (fun r => (r.slot, z.rebuildPos r))
  (if new then [.format (t.mor.members.foldl (fun a d => a + 2 ^ d) 0)] else []) ++
  (changedKeys (fun _ => none) old t.mor.streams).flatMap (fun n =>
    streamItems n ((SMap.get (fun _ => none) old n).getD {}) ((get t.mor n).getD {})) ++
  (if s.mor.lost != t.mor.lost || pos s != pos t then [.drives t.mor.lost (pos t)] else [])

/-- The floe state behind its registers, at counter value c. -/
def floeItems (x y : FloeSt) (c : Nat) : List MirrorItem :=
  if x.maxTerm != y.maxTerm || x.count != y.count || x.order != y.order || x.aborts != y.aborts || x.wait != y.wait ||
      x.late != y.late || x.skewTo != y.skewTo then
    [.floe y.maxTerm y.count (y.order.map (fun o => { o with sentAt := c - o.sentAt })) y.aborts (y.wait.map (· - c)) y.late
      y.skewTo]
  else []

/-- The updates that tell state t to a standby that holds what s shows. -/
def mirrorItems (s t : State) : List MirrorItem :=
  ((changedKeys resetOf s.regs t.regs).filter (fun a => mirroredReg a || keptReg a)).map (fun a => .reg a (t.reg a)) ++
  planeItems s.planes t.planes ++
  ((changedKeys zeroByte s.mem.dram t.mem.dram).filter t.inMreg).map (fun a => .bytes a [t.dramByte a]) ++
  firnItems s.firn t.firn t.ctr ++ srcItems s.src t.src t.now ++ sastItems s.sast t.sast t.ctr ++
  ((List.range 4).filter (fun n => s.ctrWord n % 4 != t.ctrWord n % 4)).map (fun n =>
    .ctr n ((t.ctrWord n).testBit 0) ((t.ctrWord n).testBit 1)) ++
  morItems s t ++ floeItems s.floe t.floe t.ctr

/-- A state with nothing that the mirror carries: what a bulk copy starts from (R336). -/
def State.bare (s : State) : State := { State.reset with now := s.now, time := s.time }

/-! ## On the standby's side -/

/-- Firn's planes lie where FIRN_REGION says while EN is 1: as the mirror brings EN or the region, the bytes that stand
there become Firn's, and no fill is made (R52, R335). -/
def State.placePlanes (s : State) : State :=
  if !s.on FIRN_CTRL.EN then s
  else
    let s :=
      if s.planes.base = some s.firnBase then s
      else (match s.planes.base with | some b => s.spillPlanes b | none => s).takeRegion s.firnBase
    { s with planes := s.planes.absorb }

/-- Firn changed. -/
def State.onFirn (s : State) (f : Firn → Firn) : State := { s with firn := f s.firn }

/-- A bulk copy begins: what this module held of the mirrored state is gone (R336). -/
def State.mirrorClear (s : State) : State :=
  let s := s.resetRegs mirroredReg
  { s with
    planes := {}
    firn := {}
    src := {}
    sast := { s.sast with nodes := [], cells := [], plan := none, next := none }
    mor := { s.mor with streams := [], members := [], lost := [], rebuild := none, turn := 0, cursor := [] }
    floe := { s.floe with maxTerm := 0, count := 0, order := none, aborts := [], wait := none, late := false, skewTo := 0 }
    pair := { s.pair with mirror := [], ctr := [] } }

/-- A surge put in its place of the queue, or at the end. -/
def putSurge (l : List Surge) (g : Surge) : List Surge :=
  if l.any (fun x => x.ep == g.ep) then l.map (fun x => if x.ep = g.ep then g else x) else l ++ [g]

/-- The plan, and the one that waits. -/
def State.mirrorPlan (s : State) (p : Option Plan) (next : Option (Plan × Nat)) : State :=
  let s := { s with sast := { s.sast with plan := p, next := next } }
  let s := (s.wr SAST_PLAN_STAT.VERSION ((p.map Plan.version).getD 0)).bit SAST_PLAN_STAT.ACTIVE p.isSome
  (s.bit SAST_PLAN_STAT.PENDING next.isSome).phyRegs

/-- Serac's tables. -/
def State.mirrorSrc (s : State) (u : MirrorItem) : State :=
  match u with
  | .node n e => ((s.setNode n e).usedRegs).headCounts
  | .pfxIn i e => s.setPfx (s.src.pfx.take i ++ [e] ++ s.src.pfx.drop i)
  | .pfxSet i e => s.setPfx (s.src.pfx.set i e)
  | .pfxOut i => s.setPfx (s.src.pfx.take i ++ s.src.pfx.drop (i + 1))
  | .l2 i e => s.setL2 i (e.map (fun x => { x with seen := s.now - x.seen }))
  | .srcUse uses fails => { s with src := { s.src with use := uses, fails := fails } }
  | _ => s

/-- Moraine: a record or a block that this module has already is not taken a second time (R323). -/
def State.mirrorMor (s : State) (u : MirrorItem) : State :=
  let before := s.stageUse
  match u with
  | .staged n r =>
    let x := (s.stream n).getD {}
    let last := ((x.blocks.flatMap MBlock.recs ++ x.staged).getLast?).map MRec.seq
    if match last with | some q => decide (r.seq ≤ q) | none => false then s
    else
      (s.setStream n { x with
        staged := x.staged ++ [{ r with came := s.ctr }]
        next := max x.next (r.seq + 1) }).stageRegs before
  | .format mask => s.formGroups ((List.range 16).filter (fun d => bitsOf mask d 1 == 1))
  | .stream n isOpen quota retain next ext =>
    (s.setStream n { (s.stream n).getD {} with
      isOpen := isOpen
      quota := quota
      retain := retain
      next := next
      ext := ext }).quotaCheck n
  | .block n b =>
    let x := (s.stream n).getD {}
    match b.recs.getLast? with
    | some r =>
      if x.blocks.any (fun y => y.recs.any (fun z => z.seq == r.seq)) then s
      else
        let s := s.setStream n { x with
          staged := x.staged.filter (fun y => decide (r.seq < y.seq))
          blocks := x.blocks ++ [b]
          next := max x.next (r.seq + 1) }
        (((s.wr (MOR_DURABLE.SEQ n) r.seq).quotaCheck n).groupRegs).stageRegs before
    | none => s
  | .trimmed n =>
    match s.stream n with
    | some x => ((s.setStream n x.dropOldest).quotaCheck n).groupRegs
    | none => s
  | .drives lost rebuild =>
    let slot (d : Nat) : Bool := match rebuild with | some r => r.1 == d | none => false
    let s := s.onMor (fun m => { m with lost := lost, rebuild := rebuild.map (fun r => ⟨r.1, r.2, s.ctr⟩) })
    (s.mor.members.foldl (fun s d => (s.bit (MOR_DRIVE.FAILED d) (lost.contains d)).bit (MOR_DRIVE.REBUILDING d) (slot d))
      s).groupRegs
  | _ => s

/-- One update put in place. -/
def State.applyMirror (s : State) (u : MirrorItem) : State :=
  match u with
  | .clear => s.mirrorClear
  | .region base filled =>
    let s := match s.planes.base, base with
      | some a, some b => if a = b then s else s.spillPlanes a
      | _, _ => s
    { (match base with | some b => s.healDram b firnSize | none => s) with planes := { base := base, filled := filled } }
  | .bytes a d => if a + d.length ≤ 2 ^ 36 then (s.healDram a d.length).putDramBytes a d else s
  | .reg a v =>
    if mirroredReg a then (s.setReg a v).placePlanes
    else { s with pair := { s.pair with mirror := SMap.set s.pair.mirror a v } }
  | .ctr n own cmd =>
    { s with pair := { s.pair with
        ctr := SMap.put (fun _ => 0) s.pair.ctr n ((if own then 1 else 0) + (if cmd then 2 else 0)) } }
  | .surge ep node index drives hold left reps first =>
    let last := s.ctr + left
    s.onFirn (fun f => { f with
      surges := putSurge f.surges ⟨ep, node, index, drives, hold, last - hold * 80000000, first, reps, last⟩ })
  | .noSurge ep => s.onFirn (fun f => { f with surges := f.surges.filter (fun g => g.ep != ep) })
  | .firnCommit landed lastEpoch c hadCommit offAfter =>
    s.onFirn (fun f =>
      { f with
        landed := landed
        lastEpoch := lastEpoch
        commit := c
        hadCommit := hadCommit
        offAfter := offAfter })
  | .firnNode n base reports filt owes =>
    (s.setBase n base).onFirn (fun f => { f with
      owed := SMap.put (fun _ => []) f.owed n owes
      reports := SMap.put (fun _ => 0) f.reports n reports
      filt := if filt then NSet.add f.filt n else NSet.del f.filt n })
  | .kSent ep k => s.onFirn (fun f => { f with kSent := SMap.put (fun _ => 32768) f.kSent ep k })
  | .firnLists ab wt => s.onFirn (fun f => { f with aborted := ab, waiting := wt })
  | .logSlot k l => { s with planes := { s.planes with log := SMap.put (fun _ => none) s.planes.log k l } }
  | .plan p next => s.mirrorPlan p next
  | .mac n m => (s.setMac n (m.map (fun x => x.aged s.ctr))).usedRegs
  | .cell c x => (s.setCell c x).usedReg c
  | .floe maxTerm count order aborts left late skewTo =>
    { s with floe := { s.floe with
        maxTerm := max s.floe.maxTerm maxTerm
        count := count
        order := order.map (fun o => { o with sentAt := s.ctr - o.sentAt })
        aborts := aborts
        wait := left.map (s.ctr + ·)
        late := late
        skewTo := skewTo } }
  | .node _ _ | .pfxIn _ _ | .pfxSet _ _ | .pfxOut _ | .l2 _ _ | .srcUse _ _ => s.mirrorSrc u
  | .staged _ _ | .format _ | .stream _ _ _ _ _ _ | .block _ _ | .trimmed _ | .drives _ _ => s.mirrorMor u

end Sys2Proof.Machine
end

