-- ==== Sys2Proof/Machine/Pair.lean ====
section
/-!
DEFINITION. Sys2Proof/Machine/Pair.lean: the pair: heartbeat, mirror, takeover, handover, switchback and drills (R330 to
R342), and what follows every command of a block.
-/

namespace Sys2Proof.Machine

/-! ## The running image (R334, R343) -/

/-- The slot of the running module image. -/
def State.runningSlot (s : State) : Option Nat := (List.range 2).find? (fun k => s.on (ICF_SLOT.RUNNING k))

/-- A slot of the boot store, or a node area. -/
def State.storeOf (s : State) (k : Nat) : Store := SMap.get (fun _ => {}) s.icf.store k

/-- Byte i of the running image's header. -/
def State.runByte (s : State) (i : Nat) : Nat :=
  match s.runningSlot with
  | some k => ((s.storeOf k).header.getD i 0).toNat
  | none => 0

/-- PAIR_MAJ and the floe protocol major of the running image, and its VERSION. -/
def State.pairMaj (s : State) : Nat := s.runByte 28
def State.floeMaj (s : State) : Nat := s.runByte 29
def State.runVersion (s : State) : Nat :=
  match s.runningSlot with
  | some k => s.rd (ICF_SLOT_VER.VERSION k)
  | none => 0

/-! ## Heartbeat (R334) -/

/-- The heartbeat this module sends now. -/
def State.ownHeartbeat (s : State) : Heartbeat :=
  { role := s.rd PAIR_STATUS.ROLE
    hold := s.holds
    mode := s.mode
    maj := s.pairMaj
    min := Config.pairMinor s.runVersion
    sent := s.pair.sent
    applied := s.pair.applied
    faultClass := s.pair.lastClass
    faults := s.pair.faults }

/-- HEARTBEAT_SEND. -/
def State.heartbeatSend (s : State) : State :=
  if s.rails && s.rdy 23 then s.say [.heartbeat s.ownHeartbeat] else s

/-- Does the partner's last heartbeat show something? -/
def State.peer (s : State) (p : Heartbeat → Bool) : Bool :=
  match s.pair.hb with
  | some h => p h
  | none => false

/-- ILK_OPEN (R337): HOLD_IN reads deasserted while heartbeats of a partner that holds HOLD, or is not there by
PEER_PRESENT, still arrive (log entry 13): only one that has come since HOLD_IN fell tells that. -/
def State.ilkCheck (s : State) : State :=
  let bad := s.mode == 4 && !s.holdIn && s.on PAIR_STATUS.PEER_ALIVE && s.pair.hbSince &&
    (s.peer (·.hold) || !s.on PAIR_STATUS.PAIRED)
  if bad == s.on PAIR_STATUS.ILK_OPEN then s
  else if bad then (s.up PAIR_STATUS.ILK_OPEN).raiseFault 0x0B 16 0
  else s.down PAIR_STATUS.ILK_OPEN

/-- In the takeover window, this module's fault behind it, the partner's F2 or F3 sets DUAL (R454). -/
def State.dualCheck (s : State) (partnerFailed : Bool) : State :=
  let inF2 : Bool := match s.faults.cur with | some f => decide (2 ≤ f.cls) | none => false
  if partnerFailed && s.inWindow && inF2 && !s.holds && !s.on CRQ_FAULT.DUAL then
    let s := s.setDual.f2Settle
    if s.mode = 4 then s.enterUp 5 true byFault none else s
  else s

/-- HEARTBEAT. -/
def State.heartbeat (s : State) (h : Heartbeat) : State :=
  if !s.rails || !s.rdy 23 then s
  else
    let old := s.pair.hb
    let found := !s.on PAIR_STATUS.PEER_ALIVE
    let clash := h.role == s.rd PAIR_STATUS.ROLE
    let standby := h.mode == 4 && (match old with | some o => o.mode != 4 | none => true)
    let fault := match old with | some o => o.faultClass != h.faultClass || o.faults != h.faults | none => false
    let compat := h.maj == s.pairMaj
    let copy := compat && (if s.holds then standby else s.mode == 4 && !s.on PAIR_STATUS.COMPAT)
    let s := s.onPair (fun p =>
      { p with
        hb := some h
        hbAt := s.ctr
        hbSince := true
        acked := max p.acked h.applied
        copying := p.copying || copy
        revertFrom := if fault then none else p.revertFrom })
    let s := if found then (s.up PAIR_STATUS.PEER_ALIVE).up PAIR_EVT.PEER_FOUND else s
    let s := if clash && !s.on PAIR_STATUS.ROLE_CLASH then s.up PAIR_EVT.ROLE_CLASH else s
    let s := (s.bit PAIR_STATUS.ROLE_CLASH clash).bit PAIR_STATUS.COMPAT compat
    let s := if compat then s else s.down PAIR_STATUS.MIRROR_SYNC
    let s := s.wr PAIR_MIRROR_LAG.LAG
      (if s.pair.sent ≤ s.pair.acked then 0 else min 65535 ((s.ctr - s.pair.sentAt) / 800))
    (s.dualCheck (2 ≤ h.faultClass)).ilkCheck

/-- PEER_LOST: no heartbeat for 5 ms. -/
def State.peerLost (s : State) : State :=
  if !s.on PAIR_STATUS.PEER_ALIVE then s
  else
    let s := ((s.reachCtr (s.pair.hbAt + msTicks 5)).down PAIR_STATUS.PEER_ALIVE).up PAIR_EVT.PEER_LOST
    let s := s.onPair (fun p => { p with revertFrom := none })
    (s.dualCheck true).ilkCheck

/-! ## The mirror (R335, R336) -/

/-- Updates go to the standby, each under a sequence number of its own. -/
def State.sendMirror (s : State) (l : List MirrorItem) : State :=
  (s.onPair (fun p =>
    { p with
      sent := p.sent + l.length
      sentAt := if p.sent ≤ p.acked then s.ctr else p.sentAt })).say
    (l.zipIdx.map (fun u => .mirror (s.pair.sent + 1 + u.2) u.1))

/-- MIRROR_UPDATE: the standby applies updates in order and acknowledges. -/
def State.mirrorUpdate (s : State) (seq : Nat) (u : MirrorItem) : State :=
  if s.mode ≠ 4 || !s.rdy 23 || !s.on PAIR_STATUS.COMPAT || seq ≤ s.pair.applied then s
  else ((s.applyMirror u).onPair (fun p => { p with applied := seq })).say [.mirrorAck seq]

/-- MIRROR_ACK_TIMEOUT: an update has waited 500 µs; the held action proceeds and the mirror rebuilds. -/
def State.mirrorTimeout (s : State) : State :=
  if !s.holds || s.pair.sent ≤ s.pair.acked || !s.on PAIR_STATUS.COMPAT then s
  else
    let s := ((s.reachCtr (s.pair.sentAt + usTicks 500)).down PAIR_STATUS.MIRROR_SYNC).up PAIR_EVT.MIRROR_LOST
    s.onPair (fun p => { p with copying := true, acked := p.sent })

/-- BULK_COPY_DONE: every mirrored item has gone to the standby, which has put each in place as it came. -/
def State.bulkDone (s : State) : State :=
  if !s.pair.copying || !s.on PAIR_STATUS.COMPAT || !s.on PAIR_STATUS.PEER_ALIVE then s
  else
    let s := if s.holds then s.sendMirror (.clear :: mirrorItems s.bare s) else s
    ((s.up PAIR_STATUS.MIRROR_SYNC).up PAIR_EVT.MIRROR_SYNC).onPair (fun p => { p with copying := false })

/-- PAIR_MREG_SIZE written (R354): a region outside DRAM, or a total above 4 GiB, is ignored. -/
def State.mregWrite (s : State) (r : Nat) (v : Word) : State :=
  let n := bitsOf v.toNat 0 20
  let base := s.rd (PAIR_MREG_LO.BASE_LO r) * 4096 + s.rd (PAIR_MREG_HI.BASE_HI r) * 2 ^ 32
  let total := (List.range 16).foldl (fun a k => a + (if k = r then n else s.rd (PAIR_MREG_SIZE.PAGES k))) 0
  if 16 ≤ r || 2 ^ 20 < total || (n ≠ 0 && 2 ^ 36 < base + 4096 * n) then s
  else if n = s.rd (PAIR_MREG_SIZE.PAGES r) then s
  else (s.wr (PAIR_MREG_SIZE.PAGES r) n).onPair (fun p =>
    { p with copying := p.copying || (s.on PAIR_STATUS.COMPAT && s.on PAIR_STATUS.PEER_ALIVE) })

/-! ## Taking HOLD as standby (R337, R338) -/

/-- What the mirror records of a register of the partner; 0 where no update has brought it. -/
def State.mirrored (s : State) (a : Nat) : Word := (SMap.get? s.pair.mirror a).getD 0

/-- The mode that the mirror records for the partner, as the standby enters it. -/
def State.inheritedMode (s : State) : Nat :=
  let m := (s.mirrored SYS_MODE.addr).toNat % 8
  if m = 2 || m = 5 then m else 3

/-- CTR0 to CTR3 take the mirrored commanded state. -/
def State.inheritCtr (s : State) : State :=
  (List.range 4).foldl (fun s n =>
    let v := SMap.get (fun _ => 0) s.pair.ctr n
    (s.bit (SYS_CTR.OWN n) (v % 2 == 1)).bit (SYS_CTR.CMD n) (v / 2 % 2 == 1)) s

/-- Sastrugi goes on as on the partner (R223, R338): with its SAST_CTRL, where the mirror brought it, a conflict window that
begins with the next superframe (R203), and every head configured with the delay from this module's port. -/
def State.inheritSast (s : State) : State :=
  let s := match SMap.get? s.pair.mirror SAST_CTRL.addr with
    | some v => (s.setReg SAST_CTRL.addr v).bit SAST_CTRL.EN (bitsOf v.toNat 0 1 == 1 && s.sast.plan.isSome)
    | none => s
  let s := { s with sast := { s.sast with winStart := s.netSec + 1, conflict := [] } }
  (List.range 64).foldl (fun s h =>
    if s.headLive h && s.on (SAST_HOP_DLY.VALID h) then s.sendConfig h (s.rd (SAST_HOP_DLY.DELAY h)) else s) s

/-- HOLD has been won (R338): contactors, mode, and the parts of Firn that a takeover changes. `fell` says that fallback
had begun before. -/
def State.tookOver (s : State) (cause : Nat) (fell : Bool) : State :=
  let s := if fell then s else s.inheritCtr
  let s := s.enterUp s.inheritedMode false cause (some (s.mirrored SYS_OUT_PERMIT.addr).toNat)
  let s := if s.rd FIRN_COMMIT_STAT.STATE = 1 then s.wr FIRN_COMMIT_STAT.STATE 0 else s
  let s := s.inheritSast.derateAll
  let s := if s.on PAIR_STATUS.MIRROR_SYNC then s else s.mappedNodes.foldl State.resync s
  let s := s.down PAIR_STATUS.MIRROR_SYNC
  if s.on (MOR_GROUP.FAILED 0) || s.on (MOR_GROUP.FAILED 1) then s.raiseSimple 0x0A 15 8 else s

/-- May this standby claim at all (R331, R453, R454)? -/
def State.mayClaim (s : State) : Bool :=
  s.mode == 4 && s.rdy 23 && !s.holds && !s.holdIn && !s.on CRQ_FAULT.DUAL &&
    (match s.faults.cur with | some f => decide (f.cls < 2) | none => true)

/-- The counter value at which ring beacons of the partner have been absent for 30 ms. -/
def State.ringGone (s : State) : Nat :=
  match SMap.get (fun _ => none) s.floe.members s.partnerIndex with
  | some m => max (m.eAt.getD 0) (m.wAt.getD 0) + msTicks 30
  | none => 0

/-- A claim by the standby, and what follows where it wins. -/
def State.claimAsStandby (s : State) (cause : Nat) (inA inB : Bool) : Bool × State :=
  let fell := s.on (SYS_CTR.FALLBACK 0)
  let (h, s) := s.claim inA inB
  (h, if h then s.tookOver cause fell else s)

/-- A claim that takes HOLD over from the partner: it overrides a request in progress (R359), and a drill ends (R342). -/
def State.takeOver (s : State) (inA inB : Bool) : State :=
  let (h, s) := s.modeOverride.claimAsStandby byTakeover inA inB
  if h then
    ((s.up PAIR_EVT.TAKEOVER).down PAIR_STATUS.DRILL).onPair (fun p =>
      { p with
        handover := none
        drillEnd := none })
  else s

/-- TAKEOVER: the claim condition of R337 holds. -/
def State.takeover (s : State) (inA inB : Bool) : State :=
  if !s.mayClaim || !s.on PAIR_STATUS.COMPAT || !s.on PAIR_CTRL.TAKEOVER_EN || s.on PAIR_STATUS.ILK_OPEN then s
  else if s.on PAIR_STATUS.PAIRED then (s.reach (max s.pair.inSince s.pair.shadowSince + usTicks 100)).takeOver inA inB
  else if s.on PAIR_STATUS.PEER_ALIVE then s
  else (s.reachCtr (max (s.pair.hbAt + msTicks 5) s.ringGone)).takeOver inA inB

/-- CLAIM_RETRY (R331): the delay of a clashed claim ends. -/
def State.claimRetry (s : State) (inA inB : Bool) : State :=
  match s.pair.retry with
  | none => s
  | some c =>
    let s := (s.reachCtr c).onPair (fun p => { p with retry := none })
    if s.mayClaim then s.takeOver inA inB
    else if !s.holds && (s.mode = 2 || s.mode = 3 || (s.mode = 5 && !s.on SYS_MODE_RES.NO_OUT)) then (s.claim inA inB).2
    else s

/-! ## The HOLD watchdog (R332) -/

/-- PAIR_WDOG written. -/
def State.wdogWrite (s : State) (v : Word) : State :=
  let s := s.wr PAIR_WDOG.TIMEOUT (max 2 (bitsOf v.toNat 0 4))
  if v.getLsbD 31 then s.onPair (fun p => { p with kick := s.ctr }) else s

/-- WDOG_EXPIRY. -/
def State.wdogExpiry (s : State) : State :=
  if !s.holds then s
  else (s.reachCtr (s.pair.kick + msTicks (s.rd PAIR_WDOG.TIMEOUT))).raiseFault 0x12 0xFF 0

/-! ## Handover, switchback, drills (R340 to R342) -/

/-- Is the partner as R340 needs it? -/
def State.partnerReady (s : State) : Bool :=
  s.peer (·.mode == 4) && s.on PAIR_STATUS.PEER_ALIVE && s.on PAIR_STATUS.MIRROR_SYNC && s.on PAIR_STATUS.COMPAT &&
    s.on PAIR_STATUS.PAIRED

/-- The first superframe boundary at least 50 ms ahead that is not an epoch. -/
def State.frameBoundary (s : State) : Nat :=
  let t := divUp (s.netNs + 50000000) 1000000000
  match s.firn.commit with
  | some c => if c.epoch = t then t + 1 else t
  | none => t

/-- A handover is announced to the partner. -/
def State.announce (s : State) (drill fail : Nat) : State :=
  let t := s.frameBoundary
  (s.onPair (fun p => { p with handover := some { sec := t, releases := true, drill := drill } })).say [.handover t drill fail]

/-- A command of the PAIR interface ends. -/
def State.pairDone (s : State) (cc : Nat) : State := s.done PAIR_STAT.addr PAIR_EVT.CMD_DONE cc

/-- May this module hand over now (R340, R360)? -/
def State.mayHandOver (s : State) : Bool := s.holds && (s.mode == 2 || s.mode == 3) && s.partnerReady

/-- HANDOVER and DRILL. -/
def State.handoverCmd (s : State) (drill : Nat) : State :=
  if s.pairBusy then s.pairDone ccBusy
  else if !s.mayHandOver then s.pairDone ccDenied
  else ((if drill = 1 then s.up PAIR_STATUS.DRILL else s).announce drill 0).pairDone ccOk

/-- The result of a drill. -/
def State.drillResult (s : State) (fail : Nat) : State :=
  let s := (s.wr PAIR_DRILL_STAT.FAIL fail).bit PAIR_DRILL_STAT.PASS (fail % 16 == 0)
  if fail % 16 = 0 then
    (s.up PAIR_EVT.DRILL_DONE).onPair (fun p => { p with passDay := some (s.netSec / 86400) })
  else s.up PAIR_EVT.DRILL_FAIL

/-- HANDOVER_MSG: the partner is told of a handover at T and acknowledges. -/
def State.handoverMsg (s : State) (t drill fail : Nat) : State :=
  if s.mode ≠ 4 || !s.rdy 23 || !s.on PAIR_STATUS.COMPAT then s
  else
    let s := s.onPair (fun p => { p with handover := some { sec := t, releases := false, drill := drill } })
    (if drill = 2 then s.drillResult fail else s).say [.handoverAck t]

/-- 50 ms before T the active module looks at COPYING (R340): s is what stood before the command in hand, t what it has made. -/
def State.handoverJudge (s t : State) : State :=
  match t.pair.handover with
  | some h =>
    if h.releases && h.judged.isNone && h.sec * 1000000000 ≤ t.netNs + 50000000 then
      t.onPair (fun p => { p with handover := some { h with judged := some (!s.copying) } })
    else t
  | none => t

/-- HANDOVER_RELEASE: at T the active module releases HOLD and enters SHADOW; T moves on by a superframe where it is no frame
boundary, having become an epoch or with copy-forward running 50 ms before. -/
def State.handoverRelease (s : State) : State :=
  match s.pair.handover with
  | some h =>
    if !h.releases then s
    else if !s.holds || !(s.mode = 2 || s.mode = 3) then (s.onPair (fun p => { p with handover := none })).down PAIR_STATUS.DRILL
    else
      let s := s.reachNs (h.sec * 1000000000)
      let epoch := match s.firn.commit with | some c => c.epoch == h.sec | none => false
      if epoch || !h.judged.getD (!s.copying) then
        (s.onPair (fun p => { p with handover := some { h with sec := h.sec + 1, judged := none } })).say
          [.handover (h.sec + 1) h.drill 0]
      else
        let s := s.modeOverride.onPair (fun p => { p with handover := none })
        let s := s.enterUp 4 false byHandover none
        (if h.drill = 1 then s.up PAIR_STATUS.DRILL else s).up PAIR_EVT.HANDOVER
  | none => s

/-- The partner's side of a handover: HOLD_IN has fallen, and it claims at once. -/
def State.handoverClaim (s : State) (h : Handover) : State :=
  let s := s.modeOverride.onPair (fun p => { p with handover := none })
  let (won, s) := s.claimAsStandby byHandover false false
  if !won then s
  else
    let s := s.up PAIR_EVT.HANDOVER
    if h.drill = 1 then
      (s.up PAIR_STATUS.DRILL).onPair (fun p =>
        { p with drillEnd := some (s.ctr + msTicks (1000 * s.rd PAIR_DRILL_CFG.DURATION)) })
    else if h.drill = 2 then s.down PAIR_STATUS.DRILL
    else s

/-- REVERT (R341): the secondary hands back after REVERT_DELAY. -/
def State.revert (s : State) : State :=
  match s.pair.revertFrom with
  | some c =>
    let s := s.reachCtr (c + msTicks (1000 * s.rd PAIR_REVERT.DELAY))
    if s.pairBusy || !s.mayHandOver then s else s.announce 0 0
  | none => s

/-- The condition of R341 on the secondary. -/
def State.revertCond (s : State) : Bool :=
  s.on PAIR_CTRL.REVERT_EN && s.secondary && s.holds && s.partnerReady && s.peer (·.role == 0) && !s.pairBusy

/-- REVERT_PENDING and its delay follow the condition. -/
def State.revertWatch (s : State) : State :=
  match s.revertCond, s.pair.revertFrom with
  | true, none => (s.up PAIR_STATUS.REVERT_PENDING).onPair (fun p => { p with revertFrom := some s.ctr })
  | false, some _ => (s.down PAIR_STATUS.REVERT_PENDING).onPair (fun p => { p with revertFrom := none })
  | false, none => s.down PAIR_STATUS.REVERT_PENDING
  | true, some _ => s

/-- DRILL_SCHEDULE: every PERIOD days at MINUTE, where R340 allows it. -/
def State.drillSchedule (s : State) : State :=
  let period := s.rd PAIR_DRILL_CFG.PERIOD
  if period = 0 || !s.holds || !s.rdy 4 then s
  else
    let today := s.netSec / 86400
    let first := if s.pair.drillDay = 0 then today else s.pair.drillDay + period
    let at' (d : Nat) : Nat := (d * 86400 + s.rd PAIR_DRILL_CFG.MINUTE * 60) * 1000000000
    let day := if at' first < s.netNs then max (first + 1) (today + 1) else first
    let s := (s.reachNs (at' day)).onPair (fun p => { p with drillDay := day })
    if s.pairBusy || !s.mayHandOver then s else (s.up PAIR_STATUS.DRILL).announce 1 0

/-- DRILL_END: DURATION ends, or a check has failed; HOLD is handed back as R340 allows it. Without the partner ready for it a
drill that has passed goes on, and one that has failed ends with this module active (log entry 13). -/
def State.drillStop (s : State) (fail : Nat) : State :=
  match s.pair.drillEnd with
  | none => s
  | some c =>
    let pass : Bool := fail % 16 == 0
    let s := if pass then s.reachCtr c else s
    if !s.holds || (pass && !s.mayHandOver) then s
    else
      let s := (s.onPair (fun p => { p with drillEnd := none })).drillResult fail
      let s := if pass then s else s.raiseFault 0x0B 16 0
      if s.mayHandOver then s.announce 2 (fail % 16) else s.down PAIR_STATUS.DRILL

/-- PAIR_DRILL_STAT.AGE as it reads. -/
def State.drillAge (s : State) : Nat :=
  match s.pair.passDay with
  | some d => min 65535 (s.netSec / 86400 - d)
  | none => 0

/-! ## The interlock pins (R330, R368) -/

/-- The takeover window opens (R454): an F2 recovery that runs here makes the pair's failure dual. -/
def State.openWindow (s : State) : State :=
  let s := s.onPair (fun p => { p with window := some s.ctr })
  let inF2 : Bool := match s.faults.cur with | some f => decide (2 ≤ f.cls) | none => false
  if inF2 then s.setDual.enterUp 5 true byFault none else s.ilkCheck

/-- HOLD_IN falls on a standby: at T of an announced handover it claims at once; before T the partner has released for another
reason, and the handover is off (R337, R340). -/
def State.holdInFalls (s : State) : State :=
  match s.pair.handover with
  | some h =>
    if !h.releases && h.sec * 1000000000 ≤ s.netNs then s.handoverClaim h
    else (s.onPair (fun p => { p with handover := none })).openWindow
  | none => s.openWindow

/-- HOLD_IN_CHANGE. -/
def State.holdInChange (s : State) (b : Bool) : State :=
  if b == s.holdIn then s
  else
    let s := s.bit PAIR_STATUS.HOLD_IN b
    if b then (s.setFallback false).ilkCheck
    else
      let s := s.onPair (fun p => { p with inSince := s.now, hbSince := false })
      if s.mode = 4 then s.holdInFalls else s

/-- PEER_PRESENT_CHANGE: what the ILK connector shows, PEER_PRESENT and the ROLE strap (R330). -/
def State.peerPresent (s : State) (c : PairCable) : State :=
  ((s.bit PAIR_STATUS.PAIRED c.present).bit PAIR_STATUS.ROLE c.secondary).ilkCheck

/-! ## What follows every command of a block -/

/-- The active module of a pair mirrors: its partner is a compatible standby (R334, R335). -/
def State.mirrors (s : State) : Bool :=
  s.holds && s.on PAIR_STATUS.PEER_ALIVE && s.on PAIR_STATUS.COMPAT && s.peer (·.mode == 4)

/-- The updates that tell what a command changed are sent. -/
def State.mirrorNote (s t : State) : State :=
  if t.mirrors then
    match mirrorItems s t with
    | [] => t
    | l => t.sendMirror l
  else t

/-- What follows a command's effect before the mirror tells of it: errors met in control state, the gates, an F2 recovery's
second step, what Serac's table says of a node, switchback, the ports' flow control, the pulses and the time source. -/
def State.after (s : State) (f : State → State) : State :=
  let t := { s with out := [] }.gates (fun s => (f s).ctlFaults.f2Settle)
  s.handoverJudge (s.sourceWatch (s.nodesFollow t.revertWatch.flowChecks.pulseHolds))

/-- A command of a block: its effect, then what follows from it in every case. What it sends stands alone in `out`. -/
def State.run (s : State) (f : State → State) : State := s.mirrorNote (s.after f)

end Sys2Proof.Machine
end

