-- ==== Sys2Proof/Machine/Floe.lean ====
section
/-!
DEFINITION. Sys2Proof/Machine/Floe.lean: the ring and the floe: beacons, membership, spans, the lead, and floe-wide changes
(R343 to R353).
-/

namespace Sys2Proof.Machine

/-! ## The ring (R343) -/

/-- FLOE_CFG.INDEX. -/
def State.ownIndex (s : State) : Nat := s.rd FLOE_CFG.INDEX

/-- Is the floe controller up? -/
def State.floeOn (s : State) : Bool := s.rails && s.rdy 24

/-- A module of a floe acts for its pair: it holds HOLD, or it is unpaired. -/
def State.isActive (s : State) : Bool := s.holds || !s.on PAIR_STATUS.PAIRED

/-- The ports that a frame sent on both sides leaves by: 2 is E, 3 is W; none through a wrapped side. -/
def State.ringPorts (s : State) : List Nat :=
  (if s.on FLOE_STATUS.WRAPPED_E then [] else [2]) ++ (if s.on FLOE_STATUS.WRAPPED_W then [] else [3])

/-- Has a frame (SRC, SEQ) passed within the last second? -/
def State.ringSeen (s : State) (src seq : Nat) : Bool :=
  s.floe.fwd.any (fun e => e.1 == src && e.2.1 == seq && decide (s.ctr ≤ e.2.2 + msTicks 1000))

/-- A frame (SRC, SEQ) noted as passed; entries older than a second are forgotten. -/
def State.ringNote (s : State) (src seq : Nat) : State :=
  s.onFloe (fun f =>
    { f with fwd := f.fwd.filter (fun e => decide (s.ctr ≤ e.2.2 + msTicks 1000)) ++ [(src, seq, s.ctr)] })

/-- A frame of this module's own goes out on both sides. -/
def State.ringSend (s : State) (m : FloeMsg) : State :=
  let q := s.floe.seq
  ((s.ringNote s.ownIndex q).onFloe (fun f => { f with seq := (q + 1) % 65536 })).say
    (s.ringPorts.map (fun p => .ring p 0 q m))

/-- A frame goes on out of the other ring port, or back where that side is wrapped. -/
def State.ringForward (s : State) (h : RingHdr) (m : FloeMsg) : State :=
  if h.src = s.ownIndex || 1023 ≤ h.hops || s.ringSeen h.src h.seq then s
  else
    let p := if h.viaW then (if s.on FLOE_STATUS.WRAPPED_E then 3 else 2)
      else (if s.on FLOE_STATUS.WRAPPED_W then 2 else 3)
    (s.ringNote h.src h.seq).say [.ring p (h.hops + 1) h.seq m]

/-! ## Members (R344, R346) -/

/-- HEALTHY (R346). -/
def State.healthy (s : State) : Bool :=
  s.mode == 3 && s.rdy 24 && (s.rd TIME_SYNC.STATE == 2 || s.rd TIME_SYNC.STATE == 3) &&
    (match s.pair.f2At with | some c => decide (c + msTicks 60000 < s.ctr) | none => true)

/-- The beacon that this module sends now. -/
def State.ownBeacon (s : State) : Beacon :=
  let b (c : Bool) (k : Nat) : Nat := if c then 2 ^ k else 0
  { flags := b s.isActive 0 + b (s.on FLOE_CFG.LEAD_EL) 1 + b s.healthy 2 + b (s.on FLOE_STATUS.LEAD) 3 + b s.secondary 4
      + b (s.on FLOE_STATUS.SKEW) 5
    src := s.ownIndex
    hops := 0
    seq := s.floe.seq
    mode := s.mode
    maj := s.floeMaj
    min := Config.floeMinor s.runVersion
    term := s.rd FLOE_TERM.TERM
    change := s.rd FLOE_CHANGE_ID.ID
    cstate := s.rd FLOE_CHANGE.STATE
    frame := s.frameNo % 2 ^ 32
    image := s.runVersion }

/-- A flag of a beacon. -/
def beaconFlag (b : Beacon) (k : Nat) : Bool := bitsOf b.flags k 1 == 1

/-- Is the sender a candidate, and under which index (R17, R346)? -/
def beaconCand (b : Beacon) : Bool := beaconFlag b 0 && beaconFlag b 1 && beaconFlag b 2
def beaconIdx (b : Beacon) : Nat := if beaconFlag b 4 then b.src ^^^ 1 else b.src

/-- A member. -/
def State.member (s : State) (i : Nat) : Option Member := SMap.get (fun _ => none) s.floe.members i

/-- Did a beacon come that way within 30 ms? -/
def State.recent (s : State) (t : Option Nat) : Bool :=
  match t with
  | some c => decide (s.ctr ≤ c + msTicks 30)
  | none => false

/-- FLOE_MEMBER(i) follows the member's last beacon. -/
def State.memberReg (s : State) (i : Nat) : State :=
  match s.member i with
  | none => s.wr (FLOE_MEMBER.reg i) 0
  | some m =>
    let e := s.recent m.eAt
    let viaW := s.recent m.wAt && (!e || m.wHops < m.eHops)
    let s := ((s.up (FLOE_MEMBER.PRESENT i)).bit (FLOE_MEMBER.ACTIVE i) (beaconFlag m.b 0)).bit (FLOE_MEMBER.LEAD_EL i) (beaconFlag m.b 1)
    let s := ((s.wr (FLOE_MEMBER.MODE i) m.b.mode).bit (FLOE_MEMBER.HEALTHY i) (beaconFlag m.b 2)).bit (FLOE_MEMBER.SKEW i)
      (beaconFlag m.b 5)
    (s.bit (FLOE_MEMBER.VIA_W i) viaW).wr (FLOE_MEMBER.HOPS i) (if viaW then m.wHops else m.eHops)

/-- A member entered, changed or gone. -/
def State.setMember (s : State) (i : Nat) (m : Option Member) : State :=
  let s := s.onFloe (fun f => { f with members := SMap.put (fun _ => none) f.members i m })
  (s.memberReg i).wr FLOE_STATUS.MEMBERS s.floe.members.length

/-- The members' beacons. -/
def State.beacons (s : State) : List (Nat × Member) :=
  s.floe.members.filterMap (fun p => p.2.map (fun m => (p.1, m)))

/-! ## The lead (R346, R347, R353) -/

/-- The candidates: index, whether it says it leads, since when. -/
def State.candidates (s : State) : List (Nat × Bool × Nat) :=
  (s.beacons.filter (fun p => beaconCand p.2.b)).map (fun p =>
    (beaconIdx p.2.b, beaconFlag p.2.b 3, p.2.since.getD s.ctr))

/-- The lowest of some numbers. -/
def lowest : List Nat → Option Nat
  | [] => none
  | a :: l => match lowest l with
    | some b => some (min a b)
    | none => some a

/-- The lead in office. -/
def State.leadNow (s : State) : Option Nat := if s.on FLOE_LEAD.LEAD_VALID then some (s.rd FLOE_LEAD.LEAD) else none

/-- The lead that the beacons give: the one in office while it is a candidate, unless a lower one leads elsewhere (two
parts rejoin); else the lowest that leads, where this module had no lead; else the lowest candidate. -/
def State.leadBy (s : State) : Option Nat :=
  let c := s.candidates
  let leading := lowest ((c.filter (fun x => x.2.1)).map (·.1))
  match s.leadNow with
  | some l =>
    if c.any (fun x => x.1 == l) then
      (match leading with | some k => some (min k l) | none => some l)
    else lowest (c.map (·.1))
  | none => match leading with
    | some k => some k
    | none => lowest (c.map (·.1))

/-- The index under which this module would lead. -/
def State.ownCand (s : State) : Nat := if s.secondary then s.ownIndex ^^^ 1 else s.ownIndex

/-- Is this module the lead? -/
def State.leads (s : State) : Bool := s.leadNow == some s.ownCand && s.isActive && s.on FLOE_STATUS.MEMBER

/-- FLOE_STATUS.LEAD and BACKUP and the backup lead. -/
def State.leadRegs (s : State) : State :=
  let b := lowest ((s.candidates.map (·.1)).filter (fun i => some i != s.leadNow))
  let s := match b with
    | some i => (s.wr FLOE_LEAD.BACKUP i).up FLOE_LEAD.BACKUP_VALID
    | none => (s.wr FLOE_LEAD.BACKUP 0).down FLOE_LEAD.BACKUP_VALID
  (s.bit FLOE_STATUS.LEAD s.leads).bit FLOE_STATUS.BACKUP (b == some s.ownCand && s.isActive)

/-- The epoch of the change held, in ns of network time. -/
def State.changeEpoch (s : State) : Nat :=
  s.rd64 FLOE_CHANGE_EP_LO.S_LO FLOE_CHANGE_EP_HI.S_HI * 1000000000 + s.rd FLOE_CHANGE_EP_NS.NS

/-- The change held ends without landing, where the abort comes in time; late, a frame change lands skewed, or has landed so
(R77, R350, R352). The repeats of an abort change nothing more. -/
def State.changeAborted (s : State) (id : Nat) : State :=
  let waits := s.floe.wait.isSome
  let landed := s.rd FLOE_CHANGE.STATE == 4 && s.rd FLOE_CHANGE.KIND == 2 &&
    s.firn.landed * 1000000000 == s.changeEpoch && !s.on FLOE_STATUS.FRAME_SKEW
  if s.rd FLOE_CHANGE_ID.ID ≠ id then s
  else if landed then s.firnSkewed.up FLOE_STATUS.FRAME_SKEW
  else if !(waits || s.rd FLOE_CHANGE.STATE == 1) || s.floe.late then s
  else if waits || s.netNs + 100000000 < s.changeEpoch then
    let s := (s.wr FLOE_CHANGE.STATE 3).up PAIR_EVT.CHANGE_DONE
    let s := s.onFloe (fun f => { f with wait := none })
    if s.rd FLOE_CHANGE.KIND = 2 then s.floeAbortCommit else s
  else if s.rd FLOE_CHANGE.KIND = 2 then
    s.floeAbortCommit.onFloe (fun f => { f with late := true })
  else s

/-- What is kept of an order says that it was aborted (R351, R353). -/
def State.orderAborted (s : State) (id : Nat) : State :=
  s.onFloe (fun f => { f with order := f.order.map (fun o => if o.id = id then { o with aborted := true } else o) })

/-- The lead aborts the change it ordered (R350). -/
def State.abortOrder (s : State) : State :=
  match s.floe.order with
  | some o =>
    let s := s.orderAborted o.id
    (s.ringSend (.abort s.ownIndex (s.rd FLOE_TERM.TERM) o.id)).changeAborted o.id
  | none => s

/-- A new lead aborts every change that some beacon shows as pending, and the one it holds so itself (R353); of one whose
PREPARE it has seen it repeats the ABORT, whatever it answered. -/
def State.abortPending (s : State) : State :=
  let ids := s.beacons.foldl (fun (a : NSet) p => if p.2.b.cstate = 1 then NSet.add a p.2.b.change else a) []
  let ids := if s.rd FLOE_CHANGE.STATE = 1 then NSet.add ids (s.rd FLOE_CHANGE_ID.ID) else ids
  ids.foldl (fun s i =>
    ((s.orderAborted i).ringSend (.abort s.ownIndex (s.rd FLOE_TERM.TERM) i)).changeAborted i) s

/-- The lead is now the one given (R347): the event, the F0 fault of a change in office, and where this module is the new
lead its TERM. -/
def State.setLead (s : State) (l : Option Nat) : State :=
  if l == s.leadNow then s.leadRegs
  else
    let had := s.leadNow.isSome
    let s := match l with
      | some i => (s.wr FLOE_LEAD.LEAD i).up FLOE_LEAD.LEAD_VALID
      | none => (s.wr FLOE_LEAD.LEAD 0).down FLOE_LEAD.LEAD_VALID
    let s := (s.up PAIR_EVT.LEAD_CHANGE).leadRegs
    let s := if had then s.raiseFault 0x04 16 0 else s
    if s.leads then
      let t := (s.floe.maxTerm + 1) % 2 ^ 32
      ((s.wr FLOE_TERM.TERM t).onFloe (fun f =>
        { f with
          maxTerm := t
          count := 0 })).abortPending
    else s

/-- The lead follows the beacons. -/
def State.leadRefresh (s : State) : State := s.setLead s.leadBy

/-- LEAD_CHANGE: a candidate below the lead has been one for 10 s; else the lead follows the beacons. -/
def State.leadChange (s : State) : State :=
  if !s.floeOn then s
  else match s.leadNow with
  | none => s.leadRefresh
  | some l =>
    match lowest ((s.candidates.filter (fun x => decide (x.1 < l))).map (·.1)) with
    | none => s.leadRefresh
    | some k =>
      let since := ((s.candidates.find? (fun x => x.1 == k)).map (fun x => x.2.2)).getD s.ctr
      (s.reachCtr (since + msTicks 10000)).setLead (some k)

/-! ## Beacons (R343 to R345) -/

/-- Whether this module's index is another member's already (R344), and where it is not, this module a member by its own
beacon. -/
def State.joinRing (s : State) (b : Beacon) : State :=
  if s.floe.self != some b.src && (s.member b.src).isSome then
    let s := if s.on FLOE_STATUS.INDEX_CLASH then s else (s.up FLOE_STATUS.INDEX_CLASH).up PAIR_EVT.INDEX_CLASH
    (s.down FLOE_STATUS.MEMBER).onFloe (fun f => { f with self := none })
  else
    let since := if beaconCand b then (match s.member b.src with
      | some m => some (m.since.getD s.ctr)
      | none => some s.ctr) else none
    (((s.down FLOE_STATUS.INDEX_CLASH).up FLOE_STATUS.MEMBER).onFloe (fun f => { f with self := some b.src })).setMember b.src
      (some ⟨b, some s.ctr, some s.ctr, 0, 0, since⟩)

/-- RING_BEACON_SEND: this module's beacon, by which it is a member itself; SKEW ends once it agrees with the lead. -/
def State.ringBeaconSend (s : State) : State :=
  if !s.floeOn then s
  else
    let s := if s.on FLOE_STATUS.SKEW && s.mode == s.floe.skewTo then s.down FLOE_STATUS.SKEW else s
    let b := s.ownBeacon
    let s := (s.joinRing b).leadRefresh
    s.ringSend (.beacon { b with seq := s.floe.seq })

/-- A beacon has crossed the span on one side. -/
def State.spanHeard (s : State) (west : Bool) : State :=
  s.onFloe (fun f =>
    if west then
      { f with
        lastW := s.ctr
        crossW := if s.on FLOE_STATUS.WRAPPED_W && f.crossW.isNone then some s.ctr else f.crossW }
    else
      { f with
        lastE := s.ctr
        crossE := if s.on FLOE_STATUS.WRAPPED_E && f.crossE.isNone then some s.ctr else f.crossE })

/-- Does a frame come from a module whose index is that of an existing member (R344)? What tells the two apart is how far the
frame has come, where a beacon of the member has come that way within 30 ms (DESIGN CHOICE, log entry 46). -/
def State.clashes (s : State) (viaW : Bool) (src hops : Nat) : Bool :=
  match s.member src with
  | some m => if viaW then s.recent m.wAt && m.wHops != hops else s.recent m.eAt && m.eHops != hops
  | none => false

/-- The membership of a beacon's sender (R344, R346). -/
def State.hearBeacon (s : State) (viaW : Bool) (b : Beacon) : State :=
  let old := s.member b.src
  let since := if beaconCand b then some ((old.bind (·.since)).getD s.ctr) else none
  let m : Member :=
    { b := b
      eAt := if viaW then old.bind (·.eAt) else some s.ctr
      wAt := if viaW then some s.ctr else old.bind (·.wAt)
      eHops := if viaW then (old.map (·.eHops)).getD 0 else b.hops
      wHops := if viaW then b.hops else (old.map (·.wHops)).getD 0
      since := since }
  let s := (s.onFloe (fun f => { f with maxTerm := max f.maxTerm b.term })).setMember b.src (some m)
  let s := s.leadRefresh
  if beaconFlag b 0 && s.leadNow == some (beaconIdx b) && !s.leads then s.wr FLOE_TERM.TERM b.term else s

/-- RING_BEACON: delivered, forwarded, and used for the spans, membership and the lead. -/
def State.ringBeacon (s : State) (viaW : Bool) (b : Beacon) : State :=
  if !s.floeOn || 1024 ≤ b.src then s
  else
    let s := s.spanHeard viaW
    let own := b.src == s.ownIndex
    if own && s.ringSeen b.src b.seq then s
    else
      let known := s.ringSeen b.src b.seq
      let s := if known || 1023 ≤ b.hops then s
        else
          let p := if viaW then (if s.on FLOE_STATUS.WRAPPED_E then 3 else 2)
            else (if s.on FLOE_STATUS.WRAPPED_W then 2 else 3)
          (s.ringNote b.src b.seq).say [.ring p (b.hops + 1) b.seq (.beacon { b with hops := b.hops + 1 })]
      if b.maj ≠ s.floeMaj then s
      else if own then
        if s.on FLOE_STATUS.MEMBER then s
        else
          let s := if s.on FLOE_STATUS.INDEX_CLASH then s
            else (s.up FLOE_STATUS.INDEX_CLASH).up PAIR_EVT.INDEX_CLASH
          s.hearBeacon viaW b
      else if s.clashes viaW b.src b.hops then s
      else s.hearBeacon viaW b

/-- MEMBER_TIMEOUT: a member's beacons are absent from both directions for 30 ms. -/
def State.memberTimeout (s : State) (i : Nat) : State :=
  match s.member i with
  | none => s
  | some m =>
    if !s.floeOn || (i = s.ownIndex && s.on FLOE_STATUS.MEMBER) then s
    else
      let s := s.reachCtr (max (m.eAt.getD 0) (m.wAt.getD 0) + msTicks 30)
      let s := if i = s.ownIndex then s.down FLOE_STATUS.INDEX_CLASH else s
      (s.setMember i none).leadRefresh

/-- SPAN_BREAK: the span's link fails, or no beacon comes through it for 30 ms. -/
def State.spanBreak (s : State) (west : Bool) : State :=
  let w := if west then FLOE_STATUS.WRAPPED_W else FLOE_STATUS.WRAPPED_E
  if !s.floeOn || s.on w then s
  else
    let at' := if west then s.floe.lastW else s.floe.lastE
    let s := if s.on (PORT_LINK.UP (if west then 3 else 2)) then s.reachCtr (at' + msTicks 30) else s
    let s := s.onFloe (fun f => if west then { f with crossW := none } else { f with crossE := none })
    ((s.up w).up PAIR_EVT.SPAN_BREAK).raiseFault 0x03 16 0

/-- SPAN_RESTORED: beacons have crossed the span again for 1 s. -/
def State.spanRestored (s : State) (west : Bool) : State :=
  let w := if west then FLOE_STATUS.WRAPPED_W else FLOE_STATUS.WRAPPED_E
  match (if west then s.floe.crossW else s.floe.crossE) with
  | some c =>
    if !s.floeOn || !s.on w then s
    else
      let s := ((s.reachCtr (c + msTicks 1000)).down w).up PAIR_EVT.SPAN_RESTORED
      s.onFloe (fun f => if west then { f with crossW := none } else { f with crossE := none })
  | none => s

/-! ## Changes at a participant (R348 to R350, R361) -/

/-- Does a control frame come from the module seen as lead, with that lead's current TERM? -/
def State.fromLead (s : State) (src term : Nat) : Bool :=
  term == s.rd FLOE_TERM.TERM &&
    (match s.member src with
     | some m => beaconFlag m.b 0 && s.leadNow == some (beaconIdx m.b)
     | none => false)

/-- The transitions by floe change (R360). -/
def floeListed (old new : Nat) : Bool :=
  match new with
  | 2 => old == 3 || old == 5
  | 5 => old == 2 || old == 3
  | 3 => old == 5
  | _ => false

/-- Does Firn hold a sealed floe commit with this epoch (R76)? -/
def State.floeSealedAt (s : State) (epoch : Nat) : Bool :=
  match s.firn.commit with
  | some c => c.floe && c.epoch * 1000000000 == epoch
  | none => false

/-- The answer to a PREPARE (R349): a code, OK for READY, or none where a frame change waits for its commit. -/
def State.prepareCode (s : State) (kind target epoch : Nat) : Option Nat :=
  if s.rd FLOE_CHANGE.STATE = 1 || s.floe.wait.isSome || s.faults.cur.isSome then some ccBusy
  else if epoch < s.netNs + 300000000 then some ccLate
  else if s.netNs + 60000000000 < epoch then some ccRange
  else if kind = 1 then
    if target ≠ 2 && target ≠ 3 && target ≠ 5 then some ccRange
    else if target = s.mode || floeListed s.mode target then some ccOk
    else some ccDenied
  else if kind ≠ 2 then some ccRange
  else if s.mode = 5 then some ccDenied
  else if s.floeSealedAt epoch then some ccOk
  else none

/-- The participants now, with their modes. -/
def State.partsNow (s : State) : List (Nat × Nat) :=
  (s.beacons.filter (fun p => beaconFlag p.2.b 0)).map (fun p => (p.1, p.2.b.mode))

/-- A change is held, and what an order of it would need to know is kept (R351, R353). -/
def State.holdChange (s : State) (id kind target epoch st : Nat) : State :=
  let s := ((s.wr FLOE_CHANGE_ID.ID id).wr FLOE_CHANGE.KIND kind).wr FLOE_CHANGE.STATE st
  let s := (s.wr FLOE_CHANGE.MODE (if kind = 1 then target else 0)).wr FLOE_CHANGE.FRAME (if kind = 2 then target else 0)
  let s := (s.wr64 FLOE_CHANGE_EP_LO.S_LO FLOE_CHANGE_EP_HI.S_HI (epoch / 1000000000)).wr FLOE_CHANGE_EP_NS.NS
    (epoch % 1000000000)
  s.onFloe (fun f =>
    { f with
      order := some ⟨id, kind, target, epoch, s.ctr, s.partsNow, [], false, false, (f.order.map Order.sets).getD []⟩
      aborts := (f.aborts ++ ((f.order.filter Order.aborted).map (fun o => (o.id, o.epoch))).toList).filter (fun p =>
        p.1 != id && decide (s.netNs ≤ p.2 + 1000000000)) })

/-- PREPARE. -/
def State.prepare (s : State) (h : RingHdr) (term id kind target sec ns : Nat) : State :=
  let epoch := sec * 1000000000 + ns
  if !s.floeOn then s
  else
    let s := s.ringForward h (.prepare h.src term id kind target epoch)
    if h.src = s.ownIndex || !s.fromLead h.src term then s
    else if s.rd FLOE_CHANGE_ID.ID = id && (s.rd FLOE_CHANGE.STATE ≠ 0 || s.floe.wait.isSome) then s
    else if !s.isActive || s.mode = 4 || !s.on FLOE_STATUS.MEMBER then s
    else
      let s := s.up PAIR_EVT.PREPARE
      match s.prepareCode kind target epoch with
      | some 0 => (s.holdChange id kind target epoch 1).ringSend (.ready s.ownIndex id)
      | some cc =>
        let s := if s.rd FLOE_CHANGE.STATE = 1 || s.floe.wait.isSome then s else s.holdChange id kind target epoch 2
        s.ringSend (.refuse s.ownIndex id cc)
      | none => (s.holdChange id kind target epoch 0).onFloe (fun f => { f with wait := some (s.ctr + msTicks 200) })

/-- PREPARE_WAIT_EXPIRY: no floe commit with the prepared epoch was sealed within 200 ms (R76). -/
def State.prepareWaitExpiry (s : State) : State :=
  match s.floe.wait with
  | none => s
  | some c =>
    let s := (s.reachCtr c).onFloe (fun f => { f with wait := none })
    (s.wr FLOE_CHANGE.STATE 2).ringSend (.refuse s.ownIndex (s.rd FLOE_CHANGE_ID.ID)
      (if s.firn.hadCommit then s.rd FIRN_COMMIT_STAT.LAST_CC else ccLate))

/-- ABORT from the lead. -/
def State.floeAbort (s : State) (h : RingHdr) (term id : Nat) : State :=
  if !s.floeOn then s
  else
    let s := s.ringForward h (.abort h.src term id)
    if h.src = s.ownIndex || !s.fromLead h.src term then s else (s.orderAborted id).changeAborted id

/-- FLOE_EPOCH: a participant that answered READY switches; a standby, or a module that has gone to RECOVERY since, does
not (R359, R350). -/
def State.floeEpoch (s : State) : State :=
  if s.rd FLOE_CHANGE.STATE ≠ 1 || !s.rails then s
  else
    let s := s.reachNs s.changeEpoch
    let goal := s.rd FLOE_CHANGE.MODE
    let s := if s.rd FLOE_CHANGE.KIND = 1 && s.mode ≠ 4 && floeListed s.mode goal && s.canEnter goal then
        s.enter goal false byFloe
      else s
    (s.wr FLOE_CHANGE.STATE 4).up PAIR_EVT.CHANGE_DONE

/-- A SET takes effect here (R351, R352, R361): SKEW from the first one; a transition that R360 does not permit makes an F0
record; one whose ready bits are missing waits for the next SET. -/
def State.setApply (s : State) (mode : Nat) : State :=
  let s := (if s.on FLOE_STATUS.SKEW then s else (s.up FLOE_STATUS.SKEW).up PAIR_EVT.SKEW).onFloe (fun f =>
    { f with skewTo := mode })
  if mode = s.mode then s
  else if !floeListed s.mode mode then s.raiseFault 0x00 16 0
  else if s.canEnter mode then s.enter mode false byFloe
  else s

/-- SET from the lead. -/
def State.floeSet (s : State) (h : RingHdr) (term mode dst : Nat) : State :=
  if !s.floeOn then s
  else
    let s := s.ringForward h (.set h.src term mode dst)
    if dst = s.ownIndex && s.fromLead h.src term && s.on FLOE_STATUS.MEMBER then s.setApply mode else s

/-! ## Changes at the lead (R349 to R351) -/

/-- Is a change pending at the lead? -/
def State.changePending (s : State) : Bool :=
  s.rd FLOE_CHANGE.STATE == 1 ||
    (match s.floe.order with
     | some o => s.leads && !o.aborted && decide (s.netNs < o.epoch)
     | none => false)

/-- The id of the next change of this term. -/
def State.nextId (s : State) : Nat :=
  1 + Config.changeId (s.rd FLOE_TERM.TERM) s.floe.count % (2 ^ 32 - 1)

/-- The lead sends a PREPARE and answers it itself; a frame change with READY, for its own commit is sealed (R350). -/
def State.sendPrepare (s : State) (kind target epoch : Nat) : State :=
  let id := s.nextId
  let code := if kind = 2 then some ccOk else s.prepareCode kind target epoch
  let s := s.ringSend (.prepare s.ownIndex (s.rd FLOE_TERM.TERM) id kind target epoch)
  let s := (s.holdChange id kind target epoch (if code = some 0 then 1 else 2)).onFloe (fun f =>
    { f with
      count := f.count + 1
      order := f.order.map (fun o => { o with readies := [s.ownIndex] }) })
  if code = some 0 then s else s.abortOrder

/-- FLOE_MODE (R350). -/
def State.floeMode (s : State) : State :=
  let mode := bitsOf (s.rd PAIR_DATA0.VALUE) 0 3
  let ns := bitsOf (s.rd PAIR_KEY.VALUE) 0 30
  let epoch := (s.rd PAIR_DATA1.VALUE + bitsOf (s.rd PAIR_DATA2.VALUE) 0 16 * 2 ^ 32) * 1000000000 + ns
  if !s.leads then s.pairDone ccDenied
  else if s.changePending then s.pairDone ccBusy
  else if (mode ≠ 2 && mode ≠ 3 && mode ≠ 5) || 1000000000 ≤ ns || epoch < s.netNs + 500000000 ||
      s.netNs + 60000000000 < epoch then s.pairDone ccRange
  else (s.sendPrepare 1 mode epoch).pairDone ccOk

/-- MEMBER_INFO. -/
def State.memberInfo (s : State) : State :=
  match s.member (bitsOf (s.rd PAIR_KEY.VALUE) 0 10) with
  | none => s.pairDone ccNotFound
  | some m =>
    let s := s.wr PAIR_DATA0.VALUE (m.b.maj % 256 + m.b.min % 256 * 256)
    ((s.wr PAIR_DATA1.VALUE m.b.image).wr PAIR_DATA2.VALUE m.b.frame).pairDone ccOk

/-- READY from a participant. -/
def State.floeReady (s : State) (h : RingHdr) (id : Nat) : State :=
  if !s.floeOn then s
  else
    let s := s.ringForward h (.ready h.src id)
    match s.floe.order with
    | some o =>
      if s.leads && o.id = id && o.parts.any (fun p => p.1 == h.src) && !s.clashes h.viaW h.src h.hops then
        s.onFloe (fun f => { f with order := some { o with readies := NSet.add o.readies h.src } })
      else s
    | none => s

/-- REFUSE from a participant: the first one aborts the change. -/
def State.floeRefuse (s : State) (h : RingHdr) (id code : Nat) : State :=
  if !s.floeOn then s
  else
    let s := s.ringForward h (.refuse h.src id code)
    match s.floe.order with
    | some o =>
      if s.leads && o.id = id && !o.aborted && o.parts.any (fun p => p.1 == h.src) && !s.clashes h.viaW h.src h.hops then
        s.abortOrder
      else s
    | none => s

/-- PREPARE_TIMEOUT: 250 ms without READY from every participant. -/
def State.prepareTimeout (s : State) : State :=
  match s.floe.order with
  | some o =>
    if !s.floeOn || !s.leads || o.aborted || o.parts.all (fun p => o.readies.contains p.1) then s
    else (s.reachCtr (o.sentAt + msTicks 250)).abortOrder
  | none => s

/-- The changes whose ABORT the lead repeats: the one it holds, and those it aborted before it (R350). -/
def State.abortsDue (s : State) : List Nat :=
  ((s.floe.aborts ++ ((s.floe.order.filter Order.aborted).map (fun o => (o.id, o.epoch))).toList).filter (fun p =>
    decide (s.netNs ≤ p.2 + 1000000000))).map Prod.fst

/-- ABORT_REPEAT: until epoch + 1 s. -/
def State.abortRepeat (s : State) : State :=
  if !s.floeOn || !s.leads then s
  else s.abortsDue.foldl (fun s i => s.ringSend (.abort s.ownIndex (s.rd FLOE_TERM.TERM) i)) s

/-- What the lead intends for a module, where it intends something (R351). -/
def Order.intended (o : Order) (i : Nat) : Option Nat :=
  if o.kind ≠ 1 then none
  else if !o.aborted then some o.target
  else (o.parts.find? (fun p => p.1 == i)).map (·.2)

/-- The mode that a module shows: this one's own, another's in its beacon. -/
def State.shownMode (s : State) (i : Nat) : Option Nat :=
  if i = s.ownIndex then some s.mode else (s.member i).map (fun m => m.b.mode)

/-- The modules that show ACTIVE and disagree, with the mode each is to take. -/
def State.disagree (s : State) (o : Order) : List (Nat × Nat) :=
  s.partsNow.filterMap (fun p =>
    match o.intended p.1 with
    | some m => if s.shownMode p.1 != some m then some (p.1, m) else none
    | none => none)

/-- A SET to each of some modules; this one applies its own. -/
def State.sendSets (s : State) (l : List (Nat × Nat)) : State :=
  let t := s.rd FLOE_TERM.TERM
  l.foldl (fun s p => if p.1 = s.ownIndex then s.setApply p.2 else s.ringSend (.set s.ownIndex t p.2 p.1)) s

/-- SKEW_CHECK: within 50 ms of an epoch the lead compares the beacons with its intended outcome. -/
def State.skewCheck (s : State) : State :=
  match s.floe.order with
  | some o =>
    if !s.floeOn || !s.leads || o.checked then s
    else
      let s := s.reachNs (o.epoch + 50000000)
      let l := s.disagree o
      (s.onFloe (fun f => { f with order := some { o with checked := true, sets := l } })).sendSets l
  | none => s

/-- The modules that SET still goes to: those found to disagree that have not agreed since, and those that have joined before
epoch + 1 s in another mode than a landed change's (R351). -/
def State.setsDue (s : State) (o : Order) : List (Nat × Nat) :=
  let old := o.sets.filter (fun p => match s.shownMode p.1 with | some m => m != p.2 | none => false)
  let joined := if o.aborted || o.epoch + 1000000000 ≤ s.netNs then []
    else (s.disagree o).filter (fun p => !o.parts.any (fun q => q.1 == p.1) && !old.contains p)
  old ++ joined

/-- SET_REPEAT. -/
def State.setRepeat (s : State) : State :=
  match s.floe.order with
  | some o =>
    if !s.floeOn || !s.leads || !o.checked then s
    else
      let l := s.setsDue o
      (s.onFloe (fun f => { f with order := some { o with sets := l } })).sendSets l
  | none => s

/-! ## Floe commits (R76 to R78) -/

/-- A floe commit has been sealed: the lead sends its PREPARE; a PREPARE that waits for it is answered READY. -/
def State.floeSealed (s : State) : State :=
  match s.firn.commit with
  | some c =>
    let epoch := c.epoch * 1000000000
    if !c.floe || !s.floeOn then s
    else if s.leads then
      if s.changePending || s.floe.wait.isSome then s else s.sendPrepare 2 ((s.frameNo + 1) % 65536) epoch
    else if s.floe.wait.isSome && s.changeEpoch = epoch then
      ((s.wr FLOE_CHANGE.STATE 1).onFloe (fun f => { f with wait := none })).ringSend
        (.ready s.ownIndex (s.rd FLOE_CHANGE_ID.ID))
    else s
  | none => s

/-- COMMIT_CHECK_END. -/
def State.checkEnds (s : State) : State :=
  let t := s.commitCheckEnd
  if s.firn.check.isSome && s.firn.commit.isNone && t.firn.commit.isSome then t.floeSealed else t

/-- EPOCH: a floe commit that lands settles FRAME_SKEW. -/
def State.epochTick (s : State) : State :=
  let floe := match s.firn.commit with | some c => c.floe && !s.standsBy | none => false
  let t := s.firnEpoch
  if floe then (t.bit FLOE_STATUS.FRAME_SKEW t.floe.late).onFloe (fun f => { f with late := false }) else t

/-- ABORT_CUTOFF: the cutoff of R74 passes; a floe commit that no PREPARE has matched is aborted (R350). -/
def State.abortCutoff (s : State) : State :=
  match s.firn.commit with
  | some c =>
    let e := c.epoch * 1000000000
    let s := s.reachNs (e - 100000000)
    let matched := s.rd FLOE_CHANGE.KIND == 2 && s.rd FLOE_CHANGE.STATE == 1 && s.changeEpoch == e
    if c.floe && !matched && !s.standsBy then s.abortCommit else s
  | none => s

end Sys2Proof.Machine
end

