-- ==== Sys2Proof/Machine/Icefall.lean ====
section
/-!
DEFINITION. Sys2Proof/Machine/Icefall.lean: images, the boot store, receipts, the relay, activation, confirmation, and the
boot of Cirque (R404, R421 to R434).
-/

namespace Sys2Proof.Machine

/-- Icefall changed. -/
def State.onIcf (s : State) (f : Icf → Icf) : State := { s with icf := f s.icf }

/-- Bytes of a list from a place. -/
def cut (b : List Byte) (lo n : Nat) : List Byte := (b.drop lo).take n

/-- A little-endian number in a list of bytes. -/
def numAt (b : List Byte) (lo n : Nat) : Nat := ofLe (cut b lo n)

/-! ## The header (R421) -/

abbrev hdrKind (h : List Byte) : Nat := numAt h 5 1
abbrev hdrSvn (h : List Byte) : Nat := numAt h 7 1
abbrev hdrVersion (h : List Byte) : Nat := numAt h 8 4
abbrev hdrChunks (h : List Byte) : Nat := numAt h 24 4
abbrev hdrRoot (h : List Byte) : List Byte := cut h 32 48
/-- IMAGE_ID: bytes 0 to 7 of ROOT (R425). -/
abbrev hdrId (h : List Byte) : Nat := numAt h 32 8

/-- The largest size of an image of a kind (R423 step 2). -/
def kindMax (kind : Nat) : Nat :=
  match kind with | 1 => 268435456 | 2 => 16777216 | 4 => 67108864 | _ => 0

/-- The index of a kind in ICF_AR. -/
def arOf (kind : Nat) : Nat := if kind = 4 then 1 else 0

/-- Step 1 of R423. -/
def hdrShape (h : List Byte) : Bool :=
  cut h 0 4 == [0x45, 0x56, 0x49, 0x01] && numAt h 4 1 == 1 && (hdrKind h == 1 || hdrKind h == 2 || hdrKind h == 4)

/-- Step 3 of R423. -/
def hdrSigned (h : List Byte) : Bool :=
  let k := numAt h 6 1 % 4
  let pub := cut h 80 97
  sha384 pub == Config.keyHash k && !Config.keyRevoked k &&
    (match pointOf pub with
     | some q => ecdsaVerify q (sha384 (h.take 3968)) (cut h 3968 96)
     | none => false)

/-- Step 4 of R423; without an authenticated boot record only SVN counts (R432). -/
def State.notRolledBack (s : State) (h : List Byte) : Bool :=
  hdrKind h == 2 ||
    ((s.icf.lostRecord || s.rd (ICF_AR.VERSION (arOf (hdrKind h))) ≤ hdrVersion h) && s.rd ICF_SVN.COUNT ≤ hdrSvn h)

/-- Steps 1 to 4 of R423: OK or the code of the first failure. -/
def State.headerCode (s : State) (h : List Byte) : Nat :=
  if !hdrShape h then ccRange
  else if kindMax (hdrKind h) < 4096 + 65584 * hdrChunks h then ccRange
  else if !hdrSigned h then ccSigFail
  else if !s.notRolledBack h then ccRollback
  else ccOk

/-! ## Slots (R424, R434) -/

/-- A slot of the boot store, or a node area, changed. -/
def State.setStore (s : State) (k : Nat) (x : Store) : State :=
  s.onIcf (fun i => { i with store := SMap.put (fun _ => {}) i.store k x })

/-- The base of a node area. -/
def State.nodeArea (s : State) (k : Nat) : Nat :=
  s.rd ICF_NODE_LO.BASE_LO * 2 ^ 25 + s.rd ICF_NODE_HI.BASE_HI * 2 ^ 32 + 16777216 * (k - 3)

/-- The address of a chunk in a node area. -/
def State.chunkAddr (s : State) (k i : Nat) : Nat := s.nodeArea k + 4096 + 48 * hdrChunks (s.storeOf k).header + 65536 * i

/-- Does a slot, or a node area, hold a chunk? -/
def State.hasChunk (s : State) (k i : Nat) : Bool := (SMap.get? (s.storeOf k).chunks i).isSome

/-- A chunk that a slot holds; a node area's lies in DRAM, and none where a word of it is poisoned (R44). -/
def State.chunkOf (s : State) (k i : Nat) : Option (List Byte) :=
  match SMap.get? (s.storeOf k).chunks i with
  | some d => if k < 3 then some d else s.dmaRead (s.chunkAddr k i) 65536
  | none => none

/-- What reading a chunk leaves in the marks of its words and in SYS_ECC (R44, R45). -/
def State.chunkMet (s : State) (k i : Nat) : State :=
  if k < 3 || !s.hasChunk k i then s
  else if (s.chunkOf k i).isSome then s.dmaMet (s.chunkAddr k i) 65536 else (s.dmaFail (s.chunkAddr k i) 65536).2

/-- Chunk i matches its leaf (R423 step 6). -/
def chunkGood (leaves : List Byte) (i : Nat) (d : List Byte) : Bool := sha384 d == cut leaves (48 * i) 48

/-- Steps 1 to 5 of R423 hold of what a slot holds. -/
def State.headerGood (s : State) (k : Nat) : Bool :=
  let x := s.storeOf k
  s.headerCode x.header == ccOk && sha384 x.leaves == hdrRoot x.header

/-- Step 6 of R423 holds of a chunk of a slot. -/
def State.chunkChecks (s : State) (k i : Nat) : Bool :=
  match s.chunkOf k i with
  | some d => chunkGood (s.storeOf k).leaves i d
  | none => false

/-- A slot holds an image whole, and all of R423 holds of it. -/
def State.imageGood (s : State) (k : Nat) : Bool :=
  s.headerGood k && (List.range (hdrChunks (s.storeOf k).header)).all (s.chunkChecks k)

/-- Does a slot, or a node area, hold a checked image? -/
def State.slotValid (s : State) (k : Nat) : Bool :=
  if k < 3 then s.rd (ICF_SLOT.STATE k) == 2
  else k < 5 && !(s.storeOf k).header.isEmpty && (match s.icf.rx with | some r => r.slot != k | none => true)

/-- The slot that NEXT names. -/
def State.bootNext (s : State) : Nat := if s.on (ICF_SLOT.NEXT 1) then 1 else 0

/-- NEXT names a slot. -/
def State.setNext (s : State) (k : Nat) : State := (s.bit (ICF_SLOT.NEXT 0) (k == 0)).bit (ICF_SLOT.NEXT 1) (k == 1)

/-- Icefall's event sets, and every core of ICF_NOTIFY is sent its bit number (R437). -/
def State.icfEvent (s : State) (f : Fld) : State :=
  (s.up f).notify 34 130 (s.rd ICF_NOTIFY.CORES) (BitVec.ofNat 32 f.lo)

/-- A command of the ICF interface ends. -/
def State.icfDone (s : State) (cc : Nat) : State :=
  (s.done ICF_STAT.addr ICF_EVT.CMD_DONE cc).notify 34 130 (s.rd ICF_NOTIFY.CORES) 0

/-! ## Receipts (R423, R424, R427, R431 to R434) -/

/-- Where an image of a kind is received; a code where it is refused. In RECOVERY a module image goes where R432 says, whatever
slot runs; else to the slot that is not RUNNING (R424; DEDUCED, log entry 50). -/
def State.rxSlot (s : State) (kind : Nat) : Nat × Nat :=
  match kind with
  | 1 =>
    let weaker := if s.rd (ICF_SLOT.FAILS 1) < s.rd (ICF_SLOT.FAILS 0) then 0 else 1
    let k := match s.runningSlot with
      | some r => if s.mode = 1 then weaker else 1 - r
      | none => weaker
    if s.on ICF_ACT_HI.PENDING && s.rd ICF_ACT_HI.SLOT = k then (ccBusy, k) else (ccOk, k)
  | 4 => (ccOk, 2)
  | _ =>
    if s.rd ICF_NODE_LO.BASE_LO = 0 && s.rd ICF_NODE_HI.BASE_HI = 0 then (ccDenied, 3) else (ccOk, 4 - s.icf.node)

/-- The receipt in progress ends. -/
def State.rxEnd (s : State) : State := ((s.onIcf (fun i => { i with rx := none })).down ICF_RX.ACTIVE).wr ICF_RX.SOURCE 0

/-- The receipt ends by a failure, and its slot is INVALID. -/
def State.rxFail (s : State) : State :=
  match s.icf.rx with
  | some r =>
    let s := s.rxEnd
    if r.slot < 3 then s.wr (ICF_SLOT.STATE r.slot) 3
    else if r.slot < 5 then s.setStore r.slot {} else s
  | none => s

/-- A header has been read: steps 1 to 4 of R423, and the slot is taken. -/
def State.rxHeader (s : State) (source : Nat) (h : List Byte) : Nat × State :=
  if !hdrShape h then (ccRange, s)
  else
    let (rc, k) := s.rxSlot (hdrKind h)
    if rc ≠ ccOk then (rc, s)
    else
      let r : Receipt := ⟨k, source, false, 0, [], hdrId h, [], [], [], []⟩
      let s := (s.onIcf (fun i => { i with rx := some r })).setStore k { header := h }
      let cc := s.headerCode h
      if cc ≠ ccOk then (cc, s.rxFail)
      else
        let s := ((s.wr ICF_RX.DONE 0).wr ICF_RX.TOTAL (hdrChunks h)).wr ICF_RX.SOURCE source
        let s := s.up ICF_RX.ACTIVE
        if k < 3 then
          let s := ((s.wr (ICF_SLOT.STATE k) 1).wr (ICF_SLOT.FAILS k) 0).down (ICF_SLOT.CONFIRMED k)
          (ccOk, (s.wr (ICF_SLOT.SVN k) (hdrSvn h)).wr (ICF_SLOT_VER.VERSION k) (hdrVersion h))
        else
          let (cc, s) := s.dmaWrite (s.nodeArea k) h
          if cc ≠ ccOk then (cc, s.rxFail) else (ccOk, s.onIcf (fun i => { i with node := k - 3 }))

/-- A port of the ring, or the other one where the side is wrapped. -/
def State.relayPort (s : State) (p : Nat) : Nat :=
  if p = 2 && s.on FLOE_STATUS.WRAPPED_E then 3 else if p = 3 && s.on FLOE_STATUS.WRAPPED_W then 2 else p

/-- Relay frames out of a port. -/
def State.relaySay (s : State) (p : Nat) (l : List RelayMsg) : State :=
  s.say (l.map (fun m => .relay (s.relayPort p) m))

/-- The parts of 8,192 bytes of a run of bytes, with their numbers. -/
def partsOf (d : List Byte) : List (Nat × List Byte) :=
  (List.range (divUp d.length 8192)).map (fun k => (k, cut d (8192 * k) 8192))

/-- The header and the leaf list of a slot go out of a port. -/
def State.relayHead (s : State) (k p : Nat) : State :=
  let x := s.storeOf k
  let id := hdrId x.header
  s.relaySay p (.header s.ownIndex id x.header :: (partsOf x.leaves).map (fun q => .leaves s.ownIndex id q.1 q.2))

/-- The relay or push of a slot begins; its chunks follow those of a relay that is under way. -/
def State.relayStart (s : State) (k : Nat) (ports : List Nat) : State :=
  (ports.foldl (fun s p => s.relayHead k p) s).onIcf (fun i =>
    if i.job.isNone then { i with job := some ⟨k, 0, ports⟩ } else { i with jobs := i.jobs ++ [⟨k, 0, ports⟩] })

/-- The relay under way has ended, and the next one follows. -/
def State.relayNext (s : State) : State :=
  s.onIcf (fun i =>
    { i with
      job := i.jobs.head?
      jobs := i.jobs.tail })

/-- Step 5 of R423: the leaf list is whole. -/
def State.rxLeaves (s : State) (r : Receipt) (leaves : List Byte) : Nat × State :=
  let x := s.storeOf r.slot
  if sha384 leaves ≠ hdrRoot x.header then (ccSigFail, s.rxFail)
  else
    let s := (s.setStore r.slot { x with leaves := leaves }).onIcf (fun i => { i with rx := some { r with ok := true } })
    let (cc, s) := if r.slot < 3 then (ccOk, s) else s.dmaWrite (s.nodeArea r.slot + 4096) leaves
    if cc ≠ ccOk then (cc, s.rxFail)
    else
      let s := s.icfEvent ICF_EVT.HDR_OK
      (ccOk, if s.leads && s.on ICF_CTRL.RELAY_EN then s.relayStart r.slot [2, 3] else s)

/-- Every chunk has passed: the slot is VALID; in RECOVERY the module restarts with it (R432). -/
def State.rxDone (s : State) (r : Receipt) : State :=
  let s := s.rxEnd.icfEvent ICF_EVT.IMG_DONE
  let s := if r.slot < 3 then s.wr (ICF_SLOT.STATE r.slot) 2 else s
  if s.mode = 1 && r.slot < 2 then
    let s := if s.icf.lostRecord then
        (s.wr (ICF_AR.VERSION 0) (s.rd (ICF_SLOT_VER.VERSION r.slot))).onIcf (fun i => { i with lostRecord := false })
      else s
    ((s.setNext r.slot).wr (ICF_SLOT.FAILS r.slot) 0).restart byUpdate
  else s

/-- A chunk that has passed its check is written; a node area that refuses it ends the receipt (R22, R53). -/
def State.rxStore (s : State) (r : Receipt) (i : Nat) (d : List Byte) : Nat × State :=
  let x := s.storeOf r.slot
  let y : Store := { x with chunks := SMap.set x.chunks i (if r.slot < 3 then d else []) }
  let (cc, s) := if r.slot < 3 then (ccOk, s) else s.dmaWrite (s.chunkAddr r.slot i) d
  if cc ≠ ccOk then (cc, s.rxFail) else (ccOk, (s.setStore r.slot y).wr ICF_RX.DONE y.chunks.length)

/-- Where every chunk is held the receipt is done. -/
def State.rxCheck (s : State) : State :=
  match s.icf.rx with
  | some r =>
    let x := s.storeOf r.slot
    if r.ok && hdrChunks x.header ≤ x.chunks.length then s.rxDone r else s
  | none => s

/-- The bytes that IMAGE_PUSH has brought are taken up as far as they make whole parts of the image. -/
def pushTake : Nat → State → Nat × State
  | 0, s => (ccOk, s)
  | n + 1, s =>
    match s.icf.rx with
    | none => (ccOk, s)
    | some r =>
      if r.source ≠ 1 then (ccOk, s)
      else if 5 ≤ r.slot then
        if r.buf.length < 4096 then (ccOk, s)
        else
          let (cc, t) := (s.onIcf (fun i => { i with rx := none })).rxHeader 1 (r.buf.take 4096)
          if cc ≠ ccOk then (cc, t)
          else
            pushTake n (t.onIcf (fun i => { i with rx := i.rx.map (fun q =>
              { q with
                pushed := r.pushed
                buf := r.buf.drop 4096 }) }))
      else
        let x := s.storeOf r.slot
        let c := hdrChunks x.header
        if !r.ok then
          if r.buf.length < 48 * c then (ccOk, s)
          else
            let (cc, t) := s.rxLeaves { r with buf := r.buf.drop (48 * c) } (r.buf.take (48 * c))
            if cc ≠ ccOk then (cc, t) else pushTake n t.rxCheck
        else if r.buf.length < 65536 then (ccOk, s)
        else
          let i := x.chunks.length
          let d := r.buf.take 65536
          if chunkGood x.leaves i d then
            let (cc, t) := (s.onIcf (fun q => { q with rx := some { r with buf := r.buf.drop 65536 } })).rxStore r i d
            if cc ≠ ccOk then (cc, t) else pushTake n t.rxCheck
          else (ccSigFail, s.rxFail)

/-- IMAGE_PUSH (R409, R424): the code, and the state. -/
def State.imagePush (s : State) (off : Nat) (d : List Byte) : Nat × State :=
  if !s.rdy 25 then (ccBusy, s)
  else if d.isEmpty || 65536 < d.length then (ccRange, s)
  else match s.icf.rx with
  | some r =>
    if r.source ≠ 1 then (ccBusy, s)
    else if off ≠ r.pushed then (ccRange, s.rxFail)
    else pushTake 5 (s.onIcf (fun i => { i with rx := some { r with
      pushed := r.pushed + d.length
      buf := r.buf ++ d } }))
  | none =>
    if off ≠ 0 then (ccRange, s)
    else pushTake 5 ((s.onIcf (fun i => { i with rx := some ⟨7, 1, false, d.length, d, 0, [], [], [], []⟩ })))

/-! ## The relay (R425 to R427, R432) -/

/-- The direction of a port: 0 E, 1 W, 2 P; and the ring port opposite. -/
def dirOf (port : Nat) : Nat := if port = 2 then 0 else if port = 3 then 1 else 2
def opposite (port : Nat) : List Nat := if port = 2 then [3] else if port = 3 then [2] else []

/-- May a relay frame from a port be taken: E and W, and P in RECOVERY (R432)? -/
def State.relayFrom (s : State) (port : Nat) : Bool :=
  s.rdy 25 && (if s.mode = 1 then port == 4 else port == 2 || port == 3)

/-- Does the module hold, or receive, an image already? -/
def State.hasImage (s : State) (id : Nat) : Bool :=
  (List.range 5).any (fun k => s.slotValid k && hdrId (s.storeOf k).header == id)

/-- HEADER. -/
def State.relayHeader (s : State) (port id : Nat) (h : List Byte) : State :=
  if !s.relayFrom port || s.icf.rx.isSome || s.hasImage id || h.length ≠ 4096 || hdrId h ≠ id then s
  else
    let (cc, t) := s.rxHeader (port % 8) h
    if cc ≠ ccOk then t
    else (opposite port).foldl (fun s p => s.relaySay p [.header s.ownIndex id h]) t

/-- LEAVES: the parts of the leaf list. -/
def State.relayLeaves (s : State) (port id part : Nat) (d : List Byte) : State :=
  match s.icf.rx with
  | some r =>
    if !s.relayFrom port || r.id ≠ id || r.ok || 5 ≤ r.slot || r.source = 1 then s
    else
      let c := hdrChunks (s.storeOf r.slot).header
      let ps := SMap.set r.leafParts part d
      let whole := ((List.range (divUp (48 * c) 8192)).map (fun k => (SMap.get? ps k).getD [])).flatten
      let s := s.onIcf (fun i => { i with rx := some { r with leafParts := ps } })
      if (whole.take (48 * c)).length < 48 * c then s
      else
        let (cc, t) := s.rxLeaves { r with leafParts := [] } (whole.take (48 * c))
        if cc ≠ ccOk then t
        else
          let t := (opposite port).foldl (fun s p =>
            s.relaySay p ((partsOf (whole.take (48 * c))).map (fun q => .leaves s.ownIndex id q.1 q.2))) t
          t.rxCheck
  | none => s

/-- A chunk has failed (R427): NACK, and after three failures the direction is given up. -/
def State.chunkFails (s : State) (r : Receipt) (port i : Nat) : State :=
  let key := 3 * i + dirOf port
  let n := SMap.get (fun _ => 0) r.fails key + 1
  let r := { r with fails := SMap.put (fun _ => 0) r.fails key n }
  let s := (s.onIcf (fun q => { q with rx := some r })).relaySay port [.nack s.ownIndex r.id i]
  if n < 3 then s
  else
    let st := NSet.add r.stopped (dirOf port)
    let s := (s.onIcf (fun q => { q with rx := some { r with stopped := st } })).icfEvent ICF_EVT.CHUNK_FAIL
    if port = 4 || (st.contains 0 && st.contains 1) then s.rxFail else s

/-- CHUNK: a part of a chunk; the whole chunk is checked, written and queued to be sent on. -/
def State.relayChunk (s : State) (port id i part : Nat) (d : List Byte) : State :=
  match s.icf.rx with
  | some r =>
    let x := s.storeOf r.slot
    let key (k : Nat) : Nat := (8 * i + k) * 3 + dirOf port
    if !s.relayFrom port || r.id ≠ id || !r.ok || r.source = 1 || 8 ≤ part || hdrChunks x.header ≤ i ||
        (SMap.get? x.chunks i).isSome || r.stopped.contains (dirOf port) then s
    else
      let ps := SMap.set r.parts (key part) d
      if (List.range 8).all (fun k => (SMap.get? ps (key k)).isSome) then
        let w := ((List.range 8).map (fun k => (SMap.get? ps (key k)).getD [])).flatten
        let r := { r with parts := (List.range 8).foldl (fun m k => SMap.erase m (key k)) ps }
        if w.length = 65536 && chunkGood x.leaves i w then
          let (cc, s) := (s.onIcf (fun q => { q with
            rx := some r
            queue := q.queue ++ (opposite port).map (fun p => (r.slot, i, p)) })).rxStore r i w
          if cc ≠ ccOk then s else s.rxCheck
        else s.chunkFails r port i
      else s.onIcf (fun q => { q with rx := some { r with parts := ps } })
  | none => s

/-- NACK: the chunk is to be sent again. -/
def State.relayNack (s : State) (port id i : Nat) : State :=
  match (List.range 5).find? (fun k => hdrId (s.storeOf k).header == id && s.hasChunk k i) with
  | some k => if s.rdy 25 then s.onIcf (fun q => { q with queue := q.queue ++ [(k, i, port)] }) else s
  | none => s

/-- A chunk goes out of a port in its 8 parts; one that cannot be read, or that does not match its leaf any longer (a node
area lies in DRAM), does not (R423 step 6, R44). -/
def State.sendChunk (s : State) (k i p : Nat) : State :=
  match s.chunkOf k i with
  | some d =>
    if chunkGood (s.storeOf k).leaves i d then
      (s.chunkMet k i).relaySay p ((partsOf d).map (fun q => .chunk s.ownIndex (hdrId (s.storeOf k).header) i q.1 q.2))
    else s.chunkMet k i
  | none => s.chunkMet k i

/-- Ticks between chunks at RELAY_RATE × 100 Mbit/s. -/
def State.relayGap (s : State) : Nat := divUp 4194304 (max 1 (s.rd ICF_CTRL.RELAY_RATE))

/-- RELAY_CHUNK_SEND: the next chunk, paced. -/
def State.relayChunkSend (s : State) : State :=
  if !s.rdy 25 then s
  else
    let go (s : State) : State :=
      let s := s.reachCtr s.icf.relayAt
      s.onIcf (fun q => { q with relayAt := s.ctr + s.relayGap })
    match s.icf.queue with
    | (k, i, p) :: rest => ((go s).onIcf (fun q => { q with queue := rest })).sendChunk k i p
    | [] => match s.icf.job with
      | some j =>
        if hdrChunks (s.storeOf j.slot).header ≤ j.next then s.relayNext
        else if !s.hasChunk j.slot j.next then s
        else
          let s := j.ports.foldl (fun s p => s.sendChunk j.slot j.next p) (go s)
          if hdrChunks (s.storeOf j.slot).header ≤ j.next + 1 then s.relayNext
          else s.onIcf (fun q => { q with job := some { j with next := j.next + 1 } })
      | none => s

/-! ## Activation (R428, R429) -/

/-- A pending activation recorded. -/
def State.actSet (s : State) (floe : Bool) (slot sec version : Nat) : State :=
  let s := (s.wr64 ICF_ACT_LO.S_LO ICF_ACT_HI.S_HI sec).wr ICF_ACT_HI.SLOT slot
  let s := (s.up ICF_ACT_HI.PENDING).wr (ICF_SLOT.FAILS slot) 0
  (s.onIcf (fun i => { i with act := some ⟨floe, version, false, false⟩ })).icfEvent ICF_EVT.ACT_PENDING

/-- No activation is pending any longer. -/
def State.actClear (s : State) : State :=
  (s.onIcf (fun i => { i with act := none })).down ICF_ACT_HI.PENDING

/-- The epoch of the pending activation, in seconds. -/
def State.actSec (s : State) : Nat := s.rd64 ICF_ACT_LO.S_LO ICF_ACT_HI.S_HI

/-- Is a module the lead's active module, as its beacon shows? -/
def State.isLead (s : State) (src : Nat) : Bool :=
  match s.member src with | some m => beaconFlag m.b 0 && s.leadNow == some (beaconIdx m.b) | none => false

/-- Is a module one whose ACT counts: the lead, or the partner over P? -/
def State.actFrom (s : State) (src : Nat) : Bool :=
  s.rdy 25 && src != s.ownIndex && (s.isLead src || (s.on PAIR_STATUS.PAIRED && src == s.partnerIndex))

/-- What the lead sends around the ring goes on both ways; what the partner tells over P goes no further (R428). -/
def State.actForward (s : State) (src : Nat) (m : RelayMsg) : State :=
  if s.isLead src then (s.relaySay 2 [m]).relaySay 3 [m] else s

/-- ACT (R428). -/
def State.relayAct (s : State) (src slot sec version : Nat) : State :=
  if !s.actFrom src || 2 ≤ slot then s
  else if s.on ICF_ACT_HI.PENDING && s.actSec = sec && s.rd ICF_ACT_HI.SLOT = slot then s
  else
    (s.actSet (s.isLead src) slot sec version).actForward src (.act src slot sec version)

/-- An activation can still be withdrawn: E - 1 s lies ahead. -/
def State.actOpen (s : State) : Bool := decide (s.netNs + 1000000000 < s.actSec * 1000000000)

/-- ACT_CANCEL of the relay. -/
def State.relayActCancel (s : State) (src : Nat) : State :=
  if s.actFrom src && s.icf.act.isSome && s.actOpen then
    s.actClear.actForward src (.actCancel src)
  else s

/-- ACT_CHECK: the checks of E - 1 s. -/
def State.actCheck (s : State) : State :=
  match s.icf.act with
  | some a =>
    if a.checked then s
    else
      let s := s.reachNs (s.actSec * 1000000000 - 1000000000)
      let k := s.rd ICF_ACT_HI.SLOT
      if s.slotValid k && s.rd (ICF_SLOT_VER.VERSION k) = a.version && s.imageGood k then
        s.onIcf (fun i => { i with act := some { a with checked := true } })
      else s.actClear.icfEvent ICF_EVT.ACT_FAIL
  | none => s

/-- The module restarts on the slot to be activated. -/
def State.actRestart (s : State) : State :=
  let k := s.rd ICF_ACT_HI.SLOT
  ((s.actClear.setNext k).wr (ICF_SLOT.FAILS k) 0).restart byUpdate

/-- Does the partner run the image to be activated, as far as its beacon shows? -/
def State.partnerNew (s : State) (version : Nat) : Bool :=
  match s.member s.partnerIndex with
  | some m => m.b.image == version
  | none => true

/-- The active module of a pair, whose E has come: it hands over to a partner that is ready on the new image, and restarts
itself once PAIR_MAJ bars that. -/
def State.actPartner (s : State) (a : Act) : State :=
  let maj := ((s.storeOf (s.rd ICF_ACT_HI.SLOT)).header.getD 28 0).toNat
  if maj ≠ s.pairMaj then
    if s.on PAIR_STATUS.PEER_ALIVE && s.peer (fun h => h.mode == 4 && h.maj == maj) then s.actRestart else s
  else if s.mayHandOver && s.partnerNew a.version && !s.pairBusy then s.announce 0 0
  else s

/-- While an active module waits for its partner, whatever command comes (R429): it hands over as soon as the partner is
ready, and restarts once it has. -/
def State.actWatch (s : State) : State :=
  match s.icf.act with
  | some a => if !a.waits then s else if !s.holds then s.actRestart else if s.on PAIR_STATUS.PAIRED then s.actPartner a else s
  | none => s

/-- ACTIVATION: E has come. -/
def State.activation (s : State) : State :=
  match s.icf.act with
  | some _ =>
    let s := s.actCheck
    match s.icf.act with
    | some a =>
      let s := s.reachNs (s.actSec * 1000000000)
      if s.on PAIR_STATUS.PAIRED && s.holds then
        (s.onIcf (fun i => { i with act := some { a with waits := true } })).actPartner a
      else s.actRestart
    | none => s
  | none => s

/-- ACT_PARTNER_TIMEOUT: E + 60 s without a partner that is ready. -/
def State.actTimeout (s : State) : State :=
  match s.icf.act with
  | some a => if a.waits then (s.reachNs ((s.actSec + 60) * 1000000000)).actRestart else s
  | none => s

/-- CONFIRMED (R430). -/
def State.confirm (s : State) : State :=
  match s.icf.runFrom, s.runningSlot with
  | some c, some k =>
    let s := (s.reachCtr (c + msTicks (1000 * s.rd ICF_CTRL.CONFIRM))).onIcf (fun i => { i with runFrom := none })
    let s := (s.wr (ICF_SLOT.FAILS k) 0).up (ICF_SLOT.CONFIRMED k)
    let s := s.wr (ICF_AR.VERSION 0) (max (s.rd (ICF_AR.VERSION 0)) (s.rd (ICF_SLOT_VER.VERSION k)))
    let s := s.icfEvent ICF_EVT.CONFIRMED
    if s.on ICF_CTRL.SVN_AUTO then s.wr ICF_SVN.COUNT (max (s.rd ICF_SVN.COUNT) (s.rd (ICF_SLOT.SVN k))) else s
  | _, _ => s

/-- The time towards a confirmation runs in COMMISSION, SERVICE, SHADOW and ISLANDED. -/
def State.confirmWatch (s : State) : State :=
  match s.runningSlot with
  | some k =>
    let due := s.crq.booted && 2 ≤ s.mode && s.mode ≤ 5 && (!s.on (ICF_SLOT.CONFIRMED k) || s.rd (ICF_SLOT.FAILS k) != 0)
    if due && s.icf.runFrom.isNone then s.onIcf (fun i => { i with runFrom := some s.ctr })
    else if !due && s.icf.runFrom.isSome then s.onIcf (fun i => { i with runFrom := none })
    else s
  | none => s

/-! ## Programs (R131, R422, R433) -/

/-- Bytes of the payload that a slot holds. -/
def State.payload (s : State) (k off n : Nat) : List Byte :=
  let first := off / 65536
  let l := ((List.range (divUp (off % 65536 + n) 65536)).map (fun i => (s.chunkOf k (first + i)).getD [])).flatten
  cut l (off % 65536) n

/-- A section entry: TYPE, TARGET, load address, offset, length (R422). -/
structure Entry where
  typ : Nat
  target : Nat
  addr : Nat
  off : Nat
  len : Nat

/-- The section entries of a header. -/
def entriesOf (h : List Byte) : List Entry :=
  (List.range 64).map (fun i =>
    let b := cut h (256 + 16 * i) 16
    ⟨numAt b 0 1, numAt b 1 1, numAt b 2 5, numAt b 8 4, numAt b 12 4⟩)

/-- An address as an offset in a memory that begins at a base; beyond every memory where it lies below. -/
def offsetIn (base a : Nat) : Nat := if base ≤ a then a - base else 2 ^ 40

/-- The program that the sections of a slot's image hold, on some cores; with none, on those that it names and whose cluster is
ready. -/
def State.programOf (s : State) (k : Nat) (cores : Option (List Nat)) : Image :=
  let es := entriesOf (s.storeOf k).header
  let data (e : Entry) : List Byte := s.payload k e.off e.len
  let threads := ((es.filter (fun e => e.typ == 7)).map (fun e =>
    (List.range (e.len / 16)).map (fun i =>
      let b := cut (data e) (16 * i) 16
      (⟨numAt b 0 1 % 128, numAt b 2 5, numAt b 1 1 % 2 == 1, numAt b 1 1 / 2 % 2 == 1, numAt b 7 5,
        BitVec.ofNat 32 (numAt b 12 4)⟩ : ThreadEntry)))).flatten
  let named := (es.filter (fun e => e.typ == 3)).map (·.target) ++ threads.map (fun e => e.tid / 4)
  let cs := (cores.getD (List.range 32)).filter (fun c => cores.isSome || (named.contains c && s.clusterReady (c / 4)))
  { cores := cs
    sections := (es.filter (fun e => 2 ≤ e.typ && e.typ ≤ 4 && (e.typ != 3 || cs.contains e.target))).map (fun e =>
      ⟨e.typ - 2, e.target, if e.typ = 2 then e.addr else offsetIn (if e.typ = 3 then 0x80_0000_0000 else 0x80_1000_0000) e.addr,
        data e⟩)
    clusters := ((es.filter (fun e => e.typ == 5)).map (fun e => (List.range (min 8 e.len)).map (fun i =>
      (i, numAt (data e) i 1)))).flatten
    mailboxes := ((es.filter (fun e => e.typ == 6)).map (fun e => (List.range (e.len / 4)).map (fun i =>
      let b := cut (data e) (4 * i) 4
      (numAt b 0 1, numAt b 1 1, BitVec.ofNat 32 (numAt b 2 2 % 512 / 256 * 256 + numAt b 2 2 % 32))))).flatten.filter
      (fun m => decide (m.1 < 32) && decide (m.2.1 < 36))
    threads := threads.filter (fun e => cs.contains (e.tid / 4)) }

/-- PROG_LOAD (R433). -/
def State.progLoad (s : State) : State :=
  let mask := s.rd ICF_KEY.VALUE
  let cores := (List.range 32).filter (fun c => bitsOf mask c 1 == 1)
  let waits := cores.any (fun c => (List.range 4).any (fun k =>
    match s.prim (4 * c + k) with
    | some (.wait _ _) => false
    | some _ => true
    | none => false))
  if !s.slotValid 2 then s.icfDone ccNotFound
  else if waits then s.icfDone ccDenied
  else
    let (cc, s) := s.loadImage (s.programOf 2 (some cores))
    let s := if cc = ccOk then
        s.wr (ICF_AR.VERSION 1) (max (s.rd (ICF_AR.VERSION 1)) (s.rd (ICF_SLOT_VER.VERSION 2)))
      else s
    s.icfDone cc

/-! ## The other ICF commands (R437) -/

/-- RELAY. -/
def State.relayCmd (s : State) : State :=
  let k := bitsOf (s.rd ICF_KEY.VALUE) 0 3
  if !s.leads then s.icfDone ccDenied
  else if !s.slotValid k then s.icfDone ccNotFound
  else if s.icf.job.isSome then s.icfDone ccBusy
  else (s.relayStart k [2, 3]).icfDone ccOk

/-- ACTIVATE. -/
def State.activateCmd (s : State) : State :=
  let key := s.rd ICF_KEY.VALUE
  let floe := bitsOf key 0 1 == 1
  let k := bitsOf key 1 1
  let sec := s.rd ICF_DATA0.VALUE + bitsOf (s.rd ICF_DATA1.VALUE) 0 16 * 2 ^ 32
  let e := sec * 1000000000
  let v := s.rd (ICF_SLOT_VER.VERSION k)
  if floe && !s.leads then s.icfDone ccDenied
  else if e < s.netNs + 10000000000 || s.netNs + 604800000000000 < e then s.icfDone ccRange
  else if !s.slotValid k then s.icfDone ccNotFound
  else if !s.notRolledBack (s.storeOf k).header then s.icfDone ccRollback
  else if s.icf.act.isSome then s.icfDone ccBusy
  else
    let s := s.actSet floe k sec v
    let s := if floe then
        (s.relaySay 2 [.act s.ownIndex k sec v]).relaySay 3 [.act s.ownIndex k sec v]
      else if s.on PAIR_STATUS.PAIRED then s.say [.actPartner k sec] else s
    s.icfDone ccOk

/-- ACT_CANCEL. -/
def State.actCancelCmd (s : State) : State :=
  match s.icf.act with
  | none => s.icfDone ccNotFound
  | some a =>
    if !s.actOpen then s.icfDone ccLate
    else
      let s := s.actClear
      let s := if a.floe then (s.relaySay 2 [.actCancel s.ownIndex]).relaySay 3 [.actCancel s.ownIndex]
        else s.relaySay 4 [.actCancel s.ownIndex]
      s.icfDone ccOk

/-- SVN_BURN. -/
def State.svnBurn (s : State) : State :=
  let n := bitsOf (s.rd ICF_DATA0.VALUE) 0 8
  let top := match s.runningSlot with
    | some k => if s.on (ICF_SLOT.CONFIRMED k) then some (s.rd (ICF_SLOT.SVN k)) else none
    | none => none
  match top with
  | some m => if n < s.rd ICF_SVN.COUNT || m < n then s.icfDone ccRange else (s.wr ICF_SVN.COUNT n).icfDone ccOk
  | none => s.icfDone ccRange

/-- PUSH_PARTNER: the running image goes to a partner in RECOVERY over P. -/
def State.pushPartner (s : State) : State :=
  if !(s.on PAIR_STATUS.PEER_ALIVE && s.peer (·.mode == 1)) then s.icfDone ccDenied
  else if s.icf.job.isSome then s.icfDone ccBusy
  else match s.runningSlot with
    | some k => (s.relayStart k [4]).icfDone ccOk
    | none => s.icfDone ccDenied

/-- SLOT_ERASE. -/
def State.slotErase (s : State) : State :=
  let k := bitsOf (s.rd ICF_KEY.VALUE) 0 2
  if k = 3 then s.icfDone ccRange
  else if s.on (ICF_SLOT.RUNNING k) || (s.on (ICF_SLOT.NEXT k) && s.icf.act.isSome) then s.icfDone ccDenied
  else
    let s := match s.icf.rx with
      | some r => if r.slot = k then s.rxFail else s
      | none => s
    let s := (s.setStore k {}).wr (ICF_SLOT.STATE k) 0
    let s := ((s.wr (ICF_SLOT.FAILS k) 0).down (ICF_SLOT.CONFIRMED k)).wr (ICF_SLOT.SVN k) 0
    (s.wr (ICF_SLOT_VER.VERSION k) 0).icfDone ccOk

/-! ## The boot of Cirque (R363, R404) -/

/-- A receipt that the rails' fall has cut short leaves its slot INVALID. -/
def State.bootSlots (s : State) : State :=
  let s := (List.range 3).foldl (fun s k => if s.rd (ICF_SLOT.STATE k) = 1 then s.wr (ICF_SLOT.STATE k) 3 else s) s
  (s.down (ICF_SLOT.RUNNING 0)).down (ICF_SLOT.RUNNING 1)

/-- Step 4 of R404: the slot that boots. -/
def State.bootSlot (s : State) : Option Nat :=
  let n := s.bootNext
  [n, 1 - n].find? (fun k => s.rd (ICF_SLOT.FAILS k) < 3 && s.slotValid k && s.headerGood k)

/-- A slot whose image failed its check at the boot is INVALID (R423). -/
def State.bootMark (s : State) : State :=
  let n := s.bootNext
  let tried := [n, 1 - n].takeWhile (fun k => some k != s.bootSlot)
  let bad := tried.filter (fun k => s.rd (ICF_SLOT.FAILS k) < 3 && s.slotValid k)
  bad.foldl (fun s k => s.wr (ICF_SLOT.STATE k) 3) s

/-- Step 5 of R404, the record: NEXT names the slot, the third failed boot of the other one is recorded (R431), and FAILS
counts. -/
def State.bootPick (s : State) (k : Nat) : State :=
  let n := s.bootNext
  let third := s.rd (ICF_SLOT.FAILS n) = 3
  let s := if k = n then s
    else
      let s := s.setNext k
      if third then (s.icfEvent ICF_EVT.REVERTED).raiseFault 0x0B 0xFF 0 else s
  s.wr (ICF_SLOT.FAILS k) (min 3 (s.rd (ICF_SLOT.FAILS k) + 1))

/-- The Cirque code sections of a slot's image. -/
def State.codeSections (s : State) (k : Nat) : List Entry := (entriesOf (s.storeOf k).header).filter (fun e => e.typ == 1)

/-- Does each chunk of the Cirque code sections match its leaf? -/
def State.codeGood (s : State) (k : Nat) : Bool :=
  (s.codeSections k).all (fun e => (List.range (divUp (e.off % 65536 + e.len) 65536)).all (fun i => s.chunkChecks k (e.off / 65536 + i)))

/-- The Cirque code sections of a slot loaded, and their start (R404 steps 5 and 6). -/
def State.bootImage (s : State) (k : Nat) : State :=
  let s := (s.codeSections k).foldl (fun s e =>
    { s with mem := { s.mem with crqSram := SMap.putList zeroByte s.mem.crqSram e.addr (s.payload k e.off e.len) } })
    (s.up (ICF_SLOT.RUNNING k))
  (s.setPc 128 (BitVec.ofNat 40 (Config.imageEntry (s.storeOf k).header))).onCrq (fun c => { c with booted := true })

/-- Steps 4 to 6 of R404, tried at most so often: did a slot boot? A chunk that fails at step 5 makes FAILS 3, its slot
INVALID (R423), and step 4 follows again. -/
def State.bootSteps : Nat → State → Bool × State
  | 0, s => (false, s)
  | n + 1, s =>
    let found := s.bootSlot
    let s := s.bootMark
    match found with
    | none => (false, s)
    | some k =>
      let s := s.bootPick k
      if s.codeGood k then (true, s.bootImage k)
      else ((s.wr (ICF_SLOT.FAILS k) 3).wr (ICF_SLOT.STATE k) 3).bootSteps n

/-- The boot ROM runs (R404), and R363 decides how the boot goes on. What the tests of step 1 find, and whether a copy of the
boot record authenticates (step 2), are free (log entry 1). -/
def State.bootRom (s : State) : State :=
  let (x, s) := (s.bootSlots.onCrq (fun c => { c with phase := 0 })).draw
  if x.testBit 0 then s.railsDown byFault
  else
    let s := s.onIcf (fun i => { i with lostRecord := x.testBit 1 && x.testBit 2 })
    if s.icf.lostRecord || s.on RIME_TAMP.C2 then s
    else
      let (up, s) := s.bootSteps 3
      if !up || s.on SYS_BOOT.RECOVERY then s.down SYS_BOOT.RECOVERY
      else s.onCrq (fun c => { c with phase := if s.on VLT_STATUS.PROVISIONED then 3 else 2 })

/-- The image's programs are loaded (R131, R433): a program slot that fails a check of R423 is INVALID, and the module image's own
sections are taken. -/
def State.bootLoad (s : State) : State :=
  let s := if s.slotValid 2 && !s.imageGood 2 then s.wr (ICF_SLOT.STATE 2) 3 else s
  let k := if s.slotValid 2 then some 2 else s.runningSlot
  let s := match k with
    | some k => ((s.onCrq (fun c => { c with phase := 4 })).loadImage (s.programOf k none)).2
    | none => s
  s.onCrq (fun c => { c with phase := 4 })

/-- A thread that Cirque stopped waits for its primitive to complete (R132). -/
def State.stillStopping (s : State) : Bool := s.lum.prims.any (fun e => s.thState e.1 == thStopping)

/-- The start of Cirque goes on as far as the ready bits let it. -/
def State.bootTry (s : State) : State :=
  if s.mode ≠ 1 then s
  else
    let s := if s.crq.phase = 1 && s.rdy 2 && s.rdy 3 then s.bootRom else s
    let s := if s.crq.phase = 3 && s.rdy 9 && s.rdy 5 && !s.stillStopping then s.bootLoad else s
    if s.crq.phase = 4 && s.canEnter (s.rd SYS_BOOT.TARGET) then
      (s.onCrq (fun c => { c with phase := 0 })).request (s.rd SYS_BOOT.TARGET) false byRequest
    else s

end Sys2Proof.Machine
end

