-- ==== Sys2Proof/Machine/Rime.lean ====
section
/-!
DEFINITION. Sys2Proof/Machine/Rime.lean: Rime's inputs and rules, supplies and waking, the real-time clock, tamper, and the
icecore's commands and LOG (R374 to R403).
-/

namespace Sys2Proof.Machine

/-- Rime changed. -/
def State.onRime (s : State) (f : Rime → Rime) : State := { s with rime := f s.rime }

/-- The source of Rime's own records (R396). -/
abbrev srcRime : Nat := 129

/-- A record of Rime's. -/
def State.rimeRecord (s : State) (trigger : Nat) (base : Bool) (ws : List Word) : State :=
  s.record trigger srcRime 0xFF base ws

/-! ## Waking (R385, R386) -/

/-- Rime drives PWRON_N low. -/
def State.assertPwron (s : State) : State :=
  (s.onRime (fun r => { r with pwronAt := some s.now })).down RIME_WAKE.PENDING

/-- Does a feed satisfy feed restore: either has been at or above 40 V for 100 ms, and no power-fail warning says that both have
fallen since (R383, R475; DEDUCED, log entry 47)? -/
def State.feedGood (s : State) : Bool := s.rime.feedOk && !s.on RIME_PWR.PFW

/-- A wake cause, by its bit of RIME_WAKE.CAUSE; while the rails are up it makes only its record. -/
def State.wake (s : State) (cause : Nat) : State :=
  let s := if s.rails then s else s.wr RIME_WAKE.CAUSE (s.rd RIME_WAKE.CAUSE ||| 2 ^ cause)
  let s := s.rimeRecord 0x21 false [s.reg RIME_WAKE.addr]
  if s.rails then s
  else if s.feedGood then s.assertPwron
  else s.up RIME_WAKE.PENDING

abbrev wakeFeed : Nat := 0
abbrev wakeAlarm : Nat := 1
abbrev wakeRule : Nat := 3
abbrev wakeTamper : Nat := 4
abbrev wakeExt : Nat := 5

/-- Is PWRON_N low: Rime drives it, or external equipment pulls it (R385)? -/
def State.pwronLow (s : State) : Bool := s.rime.pwronAt.isSome || s.rime.pwronExt

/-- PWRON_N: the line is low while a feed satisfies feed restore (R362). The change of mode makes its record (R360, R397). -/
def State.pwron (s : State) : State :=
  if s.rails || s.rime.stopped || !s.feedGood || !s.pwronLow then s
  else
    let s := ((s.recordMode 0 1 byWake).railsUp).onRime (fun r => { r with pwronExt := false })
    if s.rd RIME_WAKE.CAUSE = 0 then s else s.up RIME_EVT.WAKE

/-- PWRON_N_RELEASE: 100 ms after Rime drove the line low. -/
def State.pwronRelease (s : State) : State :=
  match s.rime.pwronAt with
  | some t => (s.reach (t + msTicks 100)).onRime (fun r => { r with pwronAt := none })
  | none => s

/-- EXT_WAKE. -/
def State.extWake (s : State) : State :=
  if s.rime.stopped || !s.on RIME_WAKE.EXT then s
  else (s.onRime (fun r => { r with pwronExt := !s.rails })).wake wakeExt

/-! ## Rules (R377 to R381) -/

/-- A rule's filter and dwell. -/
def State.rule (s : State) (r : Nat) : RuleSt := SMap.get (fun _ => {}) s.rime.rules r

/-- A rule's filter and dwell changed. -/
def State.setRule (s : State) (r : Nat) (x : RuleSt) : State :=
  s.onRime (fun m => { m with rules := SMap.put (fun _ => {}) m.rules r x })

/-- Is the rule active? -/
def State.ruleActive (s : State) (r : Nat) : Bool := ((s.reg RIME_RULE_STATE.addr).toNat >>> r) % 2 == 1

/-- A value of an input, or a threshold for it: inputs 6 and 7 are signed. -/
def inputVal (i v : Nat) : Int := if i = 6 || i = 7 then signedOf 16 v else v

/-- The rule's condition on a filtered value: to trip while inactive, to release while active (R378). -/
def State.ruleCond (s : State) (r : Nat) (active : Bool) (y : Int) : Bool :=
  let i := s.rd (RIME_RULE.INPUT r)
  let trip := inputVal i (s.rd (RIME_RULE_TR.TRIP r))
  let rel := inputVal i (s.rd (RIME_RULE_TR.RELEASE r))
  if s.on (RIME_RULE.DIR r) then (if active then decide (y < rel) else decide (trip < y))
  else (if active then decide (rel < y) else decide (y < trip))

/-- A rule changes state (R379). -/
def State.ruleFlip (s : State) (r : Nat) (active : Bool) (y : Int) : State :=
  let s := (s.setRule r { s.rule r with since := none }).bit ⟨RIME_RULE_STATE.addr, r, 1⟩ active
  let s := s.up RIME_EVT.RULE
  let s := if s.on (RIME_RULE.LOG r) then
      s.rimeRecord 0x30 false [BitVec.ofNat 32 r, if active then 1 else 0, BitVec.ofInt 32 y]
    else s
  if active && s.on (RIME_RULE.WAKE r) then s.wake wakeRule else s

/-- A filtered value acts on a rule. -/
def State.ruleValue (s : State) (r : Nat) (y : Int) : State :=
  let x := s.rule r
  let active := s.ruleActive r
  if 0 < x.hold then s.setRule r { x with y := some y, hold := x.hold - 1, since := none }
  else if x.fresh then
    let s := s.setRule r { x with y := some y, fresh := false, since := none }
    if s.ruleCond r false y then s.ruleFlip r true y else s
  else if s.ruleCond r active y then
    let t := x.since.getD s.now
    let s := s.setRule r { x with y := some y, since := some t }
    if t + msTicks (100 * s.rd (RIME_RULE_DW.DWELL r)) ≤ s.now then s.ruleFlip r (!active) y else s
  else s.setRule r { x with y := some y, since := none }

/-- A sample reaches an enabled rule's filter (R377). -/
def State.ruleSample (s : State) (r : Nat) : State :=
  if !s.on (RIME_RULE.EN r) then s
  else
    let i := s.rd (RIME_RULE.INPUT r)
    let v := inputVal i (s.rd (RIME_IN.VALUE i))
    let x := s.rule r
    if s.on (RIME_RULE.FILT r) then
      let y := match x.y with
        | some y => y + (v - y) / (2 ^ (s.rd (RIME_RULE.K r) + 1) : Nat)
        | none => v
      s.ruleValue r y
    else
      let h := (v :: x.hist).take 3
      let s := s.setRule r { x with hist := h }
      match h with
      | [a, b, c] => s.ruleValue r (median a b c)
      | _ => if 0 < x.hold then s.setRule r { x with hist := h, hold := x.hold - 1 } else s

/-- The RTC's minute of the day. -/
def State.rtcMinute (s : State) : Nat := s.rd RIME_RTC_TIME.HOUR * 60 + s.rd RIME_RTC_TIME.MIN

/-- The inputs converted at a sample (R376). -/
def State.convert (s : State) (raw : List Nat) : State :=
  let s := (List.range 13).foldl (fun s i =>
    s.wr (RIME_IN.VALUE i) (min ((raw[i]?).getD (s.rd (RIME_IN.VALUE i))) 65535)) s
  let s := (s.wr (RIME_IN.VALUE 13) (if s.holdIn then 1 else 0)).wr (RIME_IN.VALUE 14) s.rtcMinute
  let a := s.rd (RIME_IN.VALUE 0)
  let b := s.rd (RIME_IN.VALUE 1)
  let s := (s.bit RIME_PWR.FEED_A_OK (decide (4000 ≤ a))).bit RIME_PWR.FEED_B_OK (decide (4000 ≤ b))
  s.onRime (fun r => { r with feedHist := ((a, b) :: r.feedHist).take 8 })

/-- RIME_SAMPLE. -/
def State.rimeSample (s : State) (raw : List Nat) : State :=
  if s.rime.stopped then s
  else
    let s := match s.rime.sampleAt with
      | some t => s.reach (t + msTicks (10 * s.rd RIME_CTRL.SAMPLE))
      | none => s
    let s := (s.onRime (fun r => { r with sampleAt := some s.now })).convert raw
    (List.range 32).foldl State.ruleSample s

/-- RULE_CHANGE: the dwell of a rule's condition ends. -/
def State.ruleChange (s : State) (r : Nat) : State :=
  let x := s.rule r
  match x.since, x.y with
  | some t, some y =>
    if 32 ≤ r || s.rime.stopped || !s.on (RIME_RULE.EN r) then s
    else (s.reach (t + msTicks (100 * s.rd (RIME_RULE_DW.DWELL r)))).ruleFlip r (!s.ruleActive r) y
  | _, _ => s

/-- Do three words make an enabled rule that R381 refuses? -/
def ruleBad (w0 w1 : Nat) : Bool :=
  let i := bitsOf w0 0 4
  let trip := inputVal i (bitsOf w1 0 16)
  let rel := inputVal i (bitsOf w1 16 16)
  i == 15 || bitsOf w0 17 2 == 3 || (if bitsOf w0 8 1 = 1 then decide (trip < rel) else decide (rel < trip))

/-- A word of RIME_RULE(r) written (R381). -/
def State.ruleWrite (s : State) (r k : Nat) (v : Word) : State :=
  if 32 ≤ r || 3 ≤ k then s
  else
    let a0 := RIME_RULE.addr r
    let w0 := if k = 0 then v.toNat % 2 ^ 25 else (s.reg a0).toNat
    let w1 := if k = 1 then v.toNat else (s.reg (a0 + 4)).toNat
    let val := if k = 0 then w0 else if k = 1 then w1 else v.toNat % 2 ^ 16
    let was := s.on (RIME_RULE.EN r)
    let en := bitsOf w0 9 1 == 1
    let put (x : Nat) : State := s.setReg (a0 + 4 * k) (BitVec.ofNat 32 x)
    if en && ruleBad w0 w1 then
      if was then s.up RIME_EVT.CFG_ERR else (put (withBits val 9 1 0)).up RIME_EVT.CFG_ERR
    else if was && !en then
      let t := if s.ruleActive r then s.ruleFlip r false ((s.rule r).y.getD 0) else s
      (t.setReg (a0 + 4 * k) (BitVec.ofNat 32 val)).setRule r {}
    else if was then
      let x := s.rule r
      let anew := k = 0 && bitsOf w0 0 5 ≠ bitsOf (s.reg a0).toNat 0 5
      (put val).setRule r (if anew then { x with hist := [], y := none, since := none, hold := 2 }
        else { x with since := none })
    else (put val).setRule r {}

/-! ## Supplies (R375, R383, R384, R390) -/

/-- POWER_FAIL_WARNING. -/
def State.powerFail (s : State) : State :=
  if s.rime.stopped || s.on RIME_PWR.PFW then s
  else
    let s := (((s.up RIME_PWR.PFW).up RIME_EVT.PFW).down RIME_PWR.FEED_A_OK).down RIME_PWR.FEED_B_OK
    let h := (s.rime.feedHist ++ List.replicate 8 (0, 0)).take 8
    let s := s.rimeRecord 0x20 false ((h.map (fun p => BitVec.ofNat 32 p.1)) ++ (h.map (fun p => BitVec.ofNat 32 p.2)))
    s.iceFlushStart.onRime (fun r =>
      { r with holdupEnd := if s.rails then some (s.now + msTicks 12) else none })

/-- PFW_CLEAR: a feed has been at or above 40 V for 10 ms and the warning releases (R383); within the hold-up the module
continues and RIME_EVT.PFW_CLEAR sets (R384). Which of the feeds it is the command does not say: a free choice. -/
def State.pfwClear (s : State) : State :=
  if !s.on RIME_PWR.PFW || s.rime.stopped then s
  else
    let (x, s) := s.draw
    let s := (s.bit RIME_PWR.FEED_A_OK (x % 3 != 1)).bit RIME_PWR.FEED_B_OK (x % 3 != 0)
    let s := s.down RIME_PWR.PFW
    if !s.rails then (if s.feedGood && s.on RIME_WAKE.PENDING then s.assertPwron else s)
    else if s.rime.holdupEnd.isNone then s
    else (s.up RIME_EVT.PFW_CLEAR).onRime (fun r => { r with holdupEnd := none })

/-- HOLDUP_END. -/
def State.holdupEnd (s : State) : State :=
  match s.rime.holdupEnd with
  | some t => if s.rails then (s.reach t).railsDown byPower else s
  | none => s

/-- FEED_RESTORE: each feed at or above 40 V for 100 ms, or both below 38 V for 100 ms (R383). In a DORMANT entered at the end of
hold-up the feeds' first return wakes the module, also where they were gone for less than the 100 ms of feed restore's own
release (DEDUCED, log entry 47). -/
def State.feedRestore (s : State) (a b : Bool) : State :=
  let s := (s.bit RIME_PWR.FEED_A_OK a).bit RIME_PWR.FEED_B_OK b
  let was := s.rime.feedOk
  let s := s.onRime (fun r => { r with feedOk := a || b })
  if !(a || b) || s.rime.stopped then s
  else
    let s := if s.rails then s else s.down RIME_PWR.PFW
    let s :=
      if !s.rails && s.on RIME_WAKE.FEED && s.rime.byHoldup && (!was || s.rd RIME_WAKE.CAUSE % 2 == 0) then s.wake wakeFeed
      else s
    if !s.rails && s.on RIME_WAKE.PENDING then s.assertPwron else s

/-- RTC_LOCKOUT. -/
def State.rtcLockout (s : State) (low : Bool) : State := s.onRime (fun r => { r with locked := low })

/-- SCAP_LOW and COIN_LOW. -/
def State.scapLow (s : State) (low : Bool) : State :=
  let s := if low && !s.on RIME_PWR.SCAP_LOW then s.up RIME_EVT.SCAP_LOW else s
  s.bit RIME_PWR.SCAP_LOW low
def State.coinLow (s : State) (low : Bool) : State :=
  let s := if low && !s.on RIME_PWR.COIN_LOW then s.up RIME_EVT.COIN_LOW else s
  s.bit RIME_PWR.COIN_LOW low

/-- The RTC restarts at 2000-01-01 00:00:00, Saturday (R387). -/
def State.rtcRestart (s : State) : State :=
  let s := (s.setReg RIME_RTC_TIME.addr (BitVec.ofNat 32 (5 * 2 ^ 24))).setReg RIME_RTC_DATE.addr
    (BitVec.ofNat 32 (1 + 2 ^ 8))
  s.onRime (fun r =>
    { r with
      secTick := s.now
      heldDate := none })

/-- The coin cell is lost too: the RTC restarts and stands. -/
def State.coinGone (s : State) : State :=
  if s.rime.rtcOff then s else s.rtcRestart.onRime (fun r => { r with rtcOff := true })

/-- RIME_STOP: Rime loses all power; fallback ends, buffered records are lost. Where Rime has stopped before, the coin cell that
has kept the RTC alone may be lost now. -/
def State.rimeStop (s : State) (coinLost : Bool) : State :=
  if s.rails then s
  else if s.rime.stopped then (if coinLost then s.coinGone else s)
  else
    let s := (s.setFallback false).iceCut
    let s := s.onRime (fun r =>
      { r with
        stopped := true
        pwronAt := none
        feedOk := false })
    if coinLost then s.coinGone else s

/-- The registers that a cold start reloads or that stand outside Rime's supply: its configuration, the clock, the icecore's
places, and the tamper latches. -/
def coldKeeps (a : Nat) : Bool :=
  let o := a - RIME_ID.addr
  o == 0x100 || o == 0x108 || o == 0x120 || o == 0x124 || (0x304 ≤ o && o < 0x330) || (0x400 ≤ o && o < 0x600) ||
    o == 0x800 || (0x808 ≤ o && o < 0x818)

/-- RIME_COLD_START. -/
def State.rimeColdStart (s : State) : State :=
  if !s.rime.stopped then s
  else
    let s := s.resetRegs (fun a => blockOf a == 14 && !coldKeeps a)
    let s := (s.wr RIME_WAKE.CAUSE 0).down RIME_WAKE.PENDING
    let s := s.bit RIME_ICE_STAT.BASE_FULL (decide (14336 ≤ s.rd RIME_ICE_BASE.NEXT))
    let s := { s with ice := { s.ice with
      cur := []
      cmdFlush := false
      h2At := [] } }
    s.onRime (fun r =>
      { r with
        stopped := false
        secTick := if r.rtcOff then s.now else r.secTick
        rtcOff := false
        rules := []
        sampleAt := none
        feedHist := [] })

/-! ## The real-time clock (R387 to R391) -/

/-- The days of a month; 2100 has no leap day (R387). -/
def daysIn (year month : Nat) : Nat :=
  if month = 2 then (if year % 4 = 0 && year ≠ 100 then 29 else 28)
  else if month = 4 || month = 6 || month = 9 || month = 11 then 30
  else 31

/-- A date and a time that name a real instant (R389). -/
def rtcReal (date time : Nat) : Bool :=
  let y := bitsOf date 16 7
  let m := bitsOf date 8 4
  let d := bitsOf date 0 5
  1 ≤ m && m ≤ 12 && 1 ≤ d && d ≤ daysIn y m && bitsOf time 0 6 < 60 && bitsOf time 8 6 < 60 &&
    bitsOf time 16 5 < 24 && bitsOf time 24 3 < 7

/-- RIME_RTC_DATE written: held. -/
def State.rtcDateWrite (s : State) (v : Word) : State :=
  if s.rime.locked then s else s.onRime (fun r => { r with heldDate := some (v &&& 0x007F_0F1F#32) })

/-- RIME_RTC_TIME written: both load, and SUB is 0. -/
def State.rtcTimeWrite (s : State) (v : Word) : State :=
  if s.rime.locked then s
  else
    let t := v &&& 0x071F_3F3F#32
    let d := s.rime.heldDate.getD (s.reg RIME_RTC_DATE.addr)
    let s := s.onRime (fun r => { r with heldDate := none })
    if rtcReal d.toNat t.toNat then
      ((s.setReg RIME_RTC_TIME.addr t).setReg RIME_RTC_DATE.addr d).onRime (fun r => { r with secTick := s.now })
    else s.up RIME_EVT.CFG_ERR

/-- The length of an RTC second in ticks, as RIME_RTC_TRIM corrects it: a positive trim adds oscillator ticks. -/
def State.rtcTicks (s : State) : Nat := (800000000 - 80 * signedOf 16 (s.rd RIME_RTC_TRIM.TRIM)).toNat

/-- The calendar one day on. -/
def State.rtcDay (s : State) : State :=
  let y := s.rd RIME_RTC_DATE.YEAR
  let m := s.rd RIME_RTC_DATE.MONTH
  let d := s.rd RIME_RTC_DATE.DAY
  let s := s.wr RIME_RTC_TIME.WDAY ((s.rd RIME_RTC_TIME.WDAY + 1) % 7)
  if d < daysIn y m then s.wr RIME_RTC_DATE.DAY (d + 1)
  else
    let s := s.wr RIME_RTC_DATE.DAY 1
    if m < 12 then s.wr RIME_RTC_DATE.MONTH (m + 1)
    else (s.wr RIME_RTC_DATE.MONTH 1).wr RIME_RTC_DATE.YEAR (y + 1)

/-- The calendar one second on. -/
def State.rtcStep (s : State) : State :=
  let c := s.rd RIME_RTC_TIME.SEC + 1
  if c < 60 then s.wr RIME_RTC_TIME.SEC c
  else
    let s := s.wr RIME_RTC_TIME.SEC 0
    let m := s.rd RIME_RTC_TIME.MIN + 1
    if m < 60 then s.wr RIME_RTC_TIME.MIN m
    else
      let s := s.wr RIME_RTC_TIME.MIN 0
      let h := s.rd RIME_RTC_TIME.HOUR + 1
      if h < 24 then s.wr RIME_RTC_TIME.HOUR h else (s.wr RIME_RTC_TIME.HOUR 0).rtcDay

/-- Do an alarm's unmasked fields match the RTC (R391)? -/
def State.alarmMatch (s : State) (a : Nat) : Bool :=
  let m (mask f g : Fld) : Bool := s.on mask || s.rd f == s.rd g
  s.on (RIME_ALM_T.EN a) && m (RIME_ALM_T.SEC_M a) (RIME_ALM_T.SEC a) RIME_RTC_TIME.SEC &&
    m (RIME_ALM_T.MIN_M a) (RIME_ALM_T.MIN a) RIME_RTC_TIME.MIN &&
    m (RIME_ALM_T.HOUR_M a) (RIME_ALM_T.HOUR a) RIME_RTC_TIME.HOUR &&
    m (RIME_ALM_T.WDAY_M a) (RIME_ALM_T.WDAY a) RIME_RTC_TIME.WDAY &&
    m (RIME_ALM_D.DAY_M a) (RIME_ALM_D.DAY a) RIME_RTC_DATE.DAY &&
    m (RIME_ALM_D.MONTH_M a) (RIME_ALM_D.MONTH a) RIME_RTC_DATE.MONTH &&
    m (RIME_ALM_D.YEAR_M a) (RIME_ALM_D.YEAR a) RIME_RTC_DATE.YEAR

/-- An alarm fires where it matches. -/
def State.rtcAlarm (s : State) (a : Nat) : State :=
  if !s.alarmMatch a || s.rime.stopped then s
  else
    let s := (s.up (if a = 0 then RIME_EVT.ALM0 else RIME_EVT.ALM1)).rimeRecord 0x31 false [BitVec.ofNat 32 a]
    if s.on (RIME_ALM_T.WAKE a) then s.wake (wakeAlarm + a) else s

/-- RTC_SECOND: a second begins by counting, and the alarms are compared; an RTC without any power stands. -/
def State.rtcSecond (s : State) : State :=
  if s.rime.rtcOff then s else
  let s := s.reach (s.rime.secTick + s.rtcTicks)
  let s := (s.onRime (fun r => { r with secTick := s.now })).rtcStep
  (s.rtcAlarm 0).rtcAlarm 1

/-- RIME_RTC_SUB as it reads. -/
def State.rtcSub (s : State) : Nat := min 32767 ((s.now - s.rime.secTick) * 32768 / 800000000)

/-! ## Tamper (R392 to R394) -/

/-- A class 1 source's enable and its bit of RIME_TAMP. -/
def tamper1En (x : Tamper1) : Fld :=
  match x with | .lid => RIME_TAMP_CFG.LID_EN | .loop => RIME_TAMP_CFG.LOOP_EN | .light => RIME_TAMP_CFG.LIGHT_EN
def tamper1Bit (x : Tamper1) : Fld :=
  match x with | .lid => RIME_TAMP.LID | .loop => RIME_TAMP.LOOP | .light => RIME_TAMP.LIGHT

/-- Does the enclosure light as last converted meet the threshold: LIGHT above LIGHT_TRIP to trip, below half of it to release
(R392)? The switches are watched beside the samples (R376), so their commands tell it themselves. -/
def State.lightMeets (s : State) (x : Tamper1) (trip : Bool) : Bool :=
  let v := s.rd (RIME_IN.VALUE 8)
  let t := s.rd RIME_TAMP_CFG.LIGHT_TRIP
  x != .light || (if trip then decide (t < v) else decide (2 * v < t))

/-- TAMPER1: a class 1 source trips. Its bit of RIME_TAMP shows it; the trip acts where the source is enabled (R392). -/
def State.tamper1 (s : State) (x : Tamper1) : State :=
  if s.rime.stopped || s.on (tamper1Bit x) || !s.lightMeets x true then s
  else if !s.on (tamper1En x) then s.up (tamper1Bit x)
  else
    let s := ((s.up (tamper1Bit x)).up RIME_TAMP.C1).up RIME_EVT.TAMPER1
    let s := s.rimeRecord 0x10 true [s.reg RIME_TAMP.addr, s.reg (RIME_IN.addr 8), s.reg (RIME_IN.addr 11),
      s.reg (RIME_IN.addr 12)]
    if s.rails then s else s.wake wakeTamper

/-- TAMPER1_RELEASE. -/
def State.tamper1Release (s : State) (x : Tamper1) : State :=
  if s.lightMeets x false then s.down (tamper1Bit x) else s

/-- The cause bit of a class 2 source. -/
def tamper2Bit (x : Tamper2) : Fld :=
  match x with
  | .shield => RIME_TAMP.SHIELD | .supplyGlitch => RIME_TAMP.SUPPLY | .clockGlitch => RIME_TAMP.CLOCK
  | .temperature => RIME_TAMP.TEMP

/-- TAMPER2: every key slot is zeroised first, then the record is made. -/
def State.tamper2 (s : State) (x : Tamper2) : State :=
  if s.rime.stopped then s
  else
    let s := s.zeroise.up RIME_TAMP.C2
    let s := [RIME_TAMP.SHIELD, RIME_TAMP.SUPPLY, RIME_TAMP.CLOCK, RIME_TAMP.TEMP].foldl State.down s
    let s := (s.up (tamper2Bit x)).up RIME_EVT.TAMPER2
    let s := s.rimeRecord 0x11 true [s.reg RIME_TAMP.addr]
    if s.rails then s.raiseFault 0x18 17 0 else s.wake wakeTamper

/-! ## The icecore (R399 to R403) -/

/-- A requester's cursor. -/
def State.cursor (s : State) (r : Req) : Nat := SMap.get (fun _ => 0) s.ice.cur r

/-- A requester's cursor moved. -/
def State.setCursor (s : State) (r : Req) (i : Nat) : State :=
  if i < 28672 then { s with ice := { s.ice with cur := SMap.put (fun _ => 0) s.ice.cur r i } } else s

/-- The slot after another one (R401). -/
def nextCursor (i : Nat) : Nat := if i = 28671 then 14336 else i + 1

/-- H2 written: the buffer is flushed first (R400), which ends a flush and completes a FLUSH that waits. -/
def State.h2Write (s : State) (b : Bool) : State :=
  if b == s.on RIME_ICE_CFG.H2 then s
  else
    let busy := s.on RIME_ICE_STAT.FLUSHING || s.ice.cmdFlush
    let t := s.iceDrain.down RIME_ICE_STAT.FLUSHING
    (if busy then t.iceFlushed else t).bit RIME_ICE_CFG.H2 b

/-- A command of the RIME interface ends. -/
def State.rimeDone (s : State) (cc : Nat) : State := s.done RIME_STAT.addr RIME_EVT.CMD_DONE cc

/-- FLUSH: completes when the buffer, or in H2 mode the queue, is empty. -/
def State.rimeFlush (s : State) : State :=
  if s.on RIME_ICE_CFG.H2 && s.ice.buf.isEmpty then (s.up RIME_EVT.ICE_FLUSHED).rimeDone ccOk
  else
    let s := s.iceFlushStart.start RIME_STAT.addr
    { s with ice := { s.ice with cmdFlush := true } }

/-- RECORD: Cirque's own. -/
def State.recordCmd (s : State) (r : Req) : State :=
  let key := s.rd RIME_KEY.VALUE
  let trig := bitsOf key 0 8
  let base := bitsOf key 16 1 == 1
  let a := s.rd RIME_DATA0.VALUE + bitsOf (s.rd RIME_DATA1.VALUE) 0 8 * 2 ^ 32
  if r ≠ 128 then s.rimeDone ccDenied
  else if !((1 ≤ trig && trig ≤ 4) || trig = 0x41 || trig = 0x50) || (base && trig ≠ 0x41) || a % 8 ≠ 0 ||
      2 ^ 36 < a + 156 then s.rimeDone ccRange
  else match s.dmaRead a 156 with
  | none => let (cc, s) := s.dmaFail a 156; s.rimeDone cc
  | some b =>
    let s := s.dmaMet a 156
    let ws := (List.range 39).map (fun i => BitVec.ofNat 32 (numAt b (4 * i) 4))
    let severe := trig = 3 || trig = 4
    let (cc, s) := s.record? trig 128 (bitsOf key 8 8) (base || severe) ws
    (if severe then s.iceFlushStart else s).rimeDone cc

/-- RING_CLEAR. -/
def State.ringClear (s : State) : State :=
  if s.mode ≠ 2 then s.rimeDone ccDenied
  else
    let m := s.ice.mram.map (fun p => (p.1, if p.1 < 14336 then p.2 else p.2.map (fun r => { r with mark := false })))
    ({ s with ice := { s.ice with mram := m } }.wr RIME_ICE_HEAD.HEAD 14336).rimeDone ccOk

/-- LOG (R402): the code, and the state. -/
def State.logRecord (s : State) (t : Nat) (ra rb : Dword) (w : Wide) : Nat × State :=
  let sec := s.ctr / 800000000
  let n := if s.ice.logSec = sec then s.ice.logCount else 0
  if !s.rdy 0 then (ccBusy, s)
  else if 2 ^ 17 ≤ ra.toNat then (ccRange, s)
  else if s.rd RIME_ICE_CFG.LOG_RATE ≤ n then (ccQuota, s)
  else
    let word (x lo : Nat) : Word := BitVec.ofNat 32 (bitsOf x lo 32)
    let ws := [BitVec.ofNat 32 (ra.toNat % 65536), word rb.toNat 0, word rb.toNat 32, word w.toNat 0, word w.toNat 32,
      word w.toNat 64, word w.toNat 96]
    let (cc, s) := s.record? 0x40 t 0xFF false ws
    if cc ≠ ccOk then (cc, s)
    else
      let s := { s with ice := { s.ice with
        logSec := sec
        logCount := n + 1 } }
      (ccOk, if bitsOf ra.toNat 16 1 = 1 then s.iceFlushStart else s)

end Sys2Proof.Machine
end

