-- ==== Sys2Proof/Machine/Cirque.lean ====
section
/-!
DEFINITION. Sys2Proof/Machine/Cirque.lean: what Cirque watches over: temperatures and clocks, the shutdown threshold, island
self-tests, coils and fans (R47 to R51, R362, R405 to R407, R472, R477, R482).
-/

namespace Sys2Proof.Machine

/-! ## Island clocks (R49, R50, R406) -/

/-- Islands of fixed clock (R50): Sastrugi, the time engine, the port PCS clocks, Meltwater, CAN and Rime. -/
def fixedClock (isl : Nat) : Bool := [9, 10, 13, 14, 19, 20].contains isl

/-- The clock that an island asks for, MHz. -/
def State.wantClock (s : State) (isl : Nat) : Nat :=
  if isl < 8 then 100 * s.rd (LUM_CL.FREQ_REQ isl) else Config.islandClock isl

/-- The floor of an island's clock, MHz: 0.4 GHz for a cluster, else 40 % (R50). -/
def State.floorClock (s : State) (isl : Nat) : Nat := if isl < 8 then 400 else s.wantClock isl * 2 / 5

/-- Units of a filtered temperature in 1 °C: the filter holds 2^-16 of the 1/8 °C that SYS_ISL shows (log entry 18). -/
abbrev degC : Int := 524288

/-- An island's filtered temperature (R49), in units of `degC`. -/
def State.temp (s : State) (isl : Nat) : Option Int := SMap.get (fun _ => none) s.crq.temps isl

/-- The clock of a cluster, and THROTTLED of an island, follow its limits; XING_RESTORED sets where an island that the
crossing rule has lowered is back at its requested clock (R51). -/
def State.clockRegs (s : State) (isl : Nat) : State :=
  let s := if isl < 8 then s.clusterClock isl else s
  let s := s.bit (SYS_ISL.THROTTLED isl) (decide (s.cap isl < s.wantClock isl))
  if s.crq.lowered.contains isl && s.wantClock isl ≤ s.cap isl then
    (s.onCrq (fun c => { c with lowered := NSet.del c.lowered isl })).up SYS_EVT.XING_RESTORED
  else s

/-- The limit of the crossing rule (x) or of the island throttle for an island, where there is one. -/
def State.limit (s : State) (x : Bool) (isl : Nat) : Option Nat := SMap.get? (if x then s.crq.capX else s.crq.capT) isl

/-- A limit set or lifted. -/
def State.setLimit (s : State) (x : Bool) (isl : Nat) (v : Option Nat) : State :=
  let f (m : SMap Nat) : SMap Nat := match v with | some n => SMap.set m isl n | none => SMap.erase m isl
  (s.onCrq (fun c => if x then { c with capX := f c.capX } else { c with capT := f c.capT })).clockRegs isl

/-- The clock at which one of its limits lets an island run. -/
def State.clockUnder (s : State) (x : Bool) (isl : Nat) : Nat :=
  min ((s.limit x isl).getD (s.wantClock isl)) (s.wantClock isl)

/-- One island's clock lowered by 100 MHz, not below its floor. -/
def State.lowerOne (s : State) (x : Bool) (isl : Nat) : State :=
  s.setLimit x isl (some (max (s.floorClock isl) (s.clockUnder x isl - 100)))

/-- Is an island fixed, or at its floor already? -/
def State.atFloor (s : State) (x : Bool) (isl : Nat) : Bool :=
  fixedClock isl || decide (s.clockUnder x isl ≤ s.floorClock isl)

/-- What a step lowers for some islands: those of them that can be lowered, and all eight clusters where one of them
cannot (R50; for the island throttle only where its clock is fixed, R406). Each island appears once, so no clock falls by more than 100 MHz in a step. -/
def State.toLower (s : State) (x : Bool) (isls : List Nat) : List Nat :=
  (List.range 21).filter (fun i => !s.atFloor x i && (isls.contains i || (decide (i < 8) && isls.any (fun k => fixedClock k || (x && s.atFloor x k)))))

/-- A step of 100 MHz for some islands. -/
def State.lower (s : State) (x : Bool) (isls : List Nat) : State :=
  (s.toLower x isls).foldl (fun s i => s.lowerOne x i) s

/-- One island's clock restored by 100 MHz, up to the clock requested. -/
def State.restoreOne (s : State) (x : Bool) (isl : Nat) : State :=
  match s.limit x isl with
  | some n => s.setLimit x isl (if s.wantClock isl ≤ n + 100 then none else some (n + 100))
  | none => s

/-! ## Crossings (R49) -/

/-- The pairs that share a crossing: each cluster and every other island. -/
def crossingPairs : List (Nat × Nat) :=
  ((List.range 8).map (fun c => ((List.range 21).filter (fun n => c < n)).map (fun n => (c, n)))).flatten

/-- The key under which an active crossing is held. -/
def crossKey (p : Nat × Nat) : Nat := 32 * p.1 + p.2

/-- The filtered difference of a pair. -/
def State.crossDiff (s : State) (p : Nat × Nat) : Int :=
  match s.temp p.1, s.temp p.2 with
  | some a, some b => (a - b).natAbs
  | _, _ => 0

/-- The hotter island of a pair. -/
def State.hotter (s : State) (p : Nat × Nat) : Nat :=
  match s.temp p.1, s.temp p.2 with
  | some a, some b => if b ≤ a then p.1 else p.2
  | _, _ => p.1

/-- Which crossings lower a clock after a sample: one starts above 30 °C and goes on until the difference is at most
25 °C (R49). -/
def State.crossActive (s : State) (p : Nat × Nat) : Bool :=
  if s.crq.crossings.contains (crossKey p) then decide (25 * degC < s.crossDiff p) else decide (30 * degC < s.crossDiff p)

/-- A sample acts on the crossings (R49 to R51): the hotter island of each active one falls by a step, once a sample;
XING_THROTTLE sets at the first step of an island, which is its first one, or the first after a new trip. -/
def State.crossStep (s : State) : State :=
  let act := crossingPairs.filter s.crossActive
  let isNew (p : Nat × Nat) : Bool := !s.crq.crossings.contains (crossKey p)
  let down := s.toLower true (act.map s.hotter)
  let first := down.any (fun i => !s.crq.lowered.contains i) || s.toLower true ((act.filter isNew).map s.hotter) != []
  let ended := crossingPairs.filter (fun p => s.crq.crossings.contains (crossKey p) && !act.contains p)
  let still := down ++ ended.map s.hotter
  let s := s.onCrq (fun c => { c with
    crossings := act.map crossKey
    lowered := down.foldl NSet.add c.lowered
    xAt := still.foldl (fun m i => SMap.put (fun _ => 0) m i s.ctr) c.xAt })
  let s := if down != [] && first then s.up SYS_EVT.XING_THROTTLE else s
  down.foldl (fun s i => s.lowerOne true i) s

/-- An island is restored by 100 MHz a second while every pair it is in is at most 20 °C apart. -/
def State.crossRestore (s : State) (isl : Nat) : State :=
  let calm := crossingPairs.all (fun p => (p.1 != isl && p.2 != isl) || decide (s.crossDiff p ≤ 20 * degC))
  if (s.limit true isl).isNone || !calm ||
      s.ctr < SMap.get (fun _ => 0) s.crq.xAt isl + msTicks 1000 then s
  else
    (s.restoreOne true isl).onCrq (fun c => { c with xAt := SMap.put (fun _ => 0) c.xAt isl s.ctr })

/-! ## Thresholds (R405 to R407) -/

/-- The counter value since which a condition has held, kept or begun anew. -/
def State.dwellOf (s : State) (k : Nat) (held : Bool) : State :=
  let old := SMap.get (fun _ => none) s.crq.dwell k
  let new := if held then some (old.getD s.ctr) else none
  s.onCrq (fun c => { c with dwell := SMap.put (fun _ => none) c.dwell k new })

/-- Has a condition held for some ticks? -/
def State.dwelt (s : State) (k ticks : Nat) : Bool :=
  match SMap.get (fun _ => none) s.crq.dwell k with
  | some c => decide (c + ticks ≤ s.ctr)
  | none => false

/-- Is the throttle state of an island active? -/
def State.hot (s : State) (isl : Nat) : Bool := bitsOf (s.rd CRQ_HOT.HOT) isl 1 == 1

/-- SHUTDOWN (R407): the F2 fault, whose recovery releases HOLD and requests DORMANT. -/
def State.shutdownNow (s : State) (isl : Nat) : State := s.raiseFault 0x11 isl 0

/-- An island's temperature acts on its throttle state. -/
def State.throttleState (s : State) (isl : Nat) : State :=
  match s.temp isl with
  | none => s
  | some t =>
    let hot := s.hot isl
    let dwell := msTicks (1000 * s.rd CRQ_THERM.DWELL)
    let s := s.dwellOf (8 * isl + 2) (!hot && decide ((s.rd CRQ_THERM.TRIP : Int) * degC ≤ t))
    let s := s.dwellOf (8 * isl + 3) (hot && decide (t ≤ (s.rd CRQ_THERM.RELEASE : Int) * degC))
    let s := s.dwellOf (8 * isl + 4) (decide ((s.rd CRQ_SHUT.TRIP : Int) * degC ≤ t))
    if s.dwelt (8 * isl + 2) dwell then (s.up ⟨CRQ_HOT.addr, isl, 1⟩).up CRQ_EVT.THROTTLE
    else if s.dwelt (8 * isl + 3) dwell then (s.down ⟨CRQ_HOT.addr, isl, 1⟩).up CRQ_EVT.THROTTLE_CLR
    else s

/-- Ticks of the shutdown dwell. -/
def State.shutDwell (s : State) : Nat := msTicks (10 * s.rd CRQ_SHUT.DWELL)

/-- SHUTDOWN: an island has been at the shutdown threshold for its dwell. -/
def State.shutdown (s : State) (isl : Nat) : State :=
  match SMap.get (fun _ => none) s.crq.dwell (8 * isl + 4) with
  | some c => if s.rails && isl < 21 then (s.reachCtr (c + s.shutDwell)).shutdownNow isl else s
  | none => s

/-- THROTTLE_STEP: a second of R406 ends. -/
def State.throttleStep (s : State) : State :=
  if !s.rails || !s.rdy 2 then s
  else
    let s := s.reachCtr (s.crq.stepAt + msTicks 1000)
    let s := s.onCrq (fun c => { c with stepAt := s.ctr })
    let isls := List.range 21
    let down (i : Nat) : Bool := s.hot i && decide (103 * degC ≤ (s.temp i).getD 0)
    let hold := isls.filter s.hot
    let s := s.lower false (isls.filter down)
    let keeps (i : Nat) : Bool := hold.contains i || (i < 8 && hold.any fixedClock)
    (isls.filter (fun i => !keeps i)).foldl (fun s i => s.restoreOne false i) s

/-! ## Samples (R49, R482) -/

/-- The first-order filter of R49: 40 ms sampled every 10 ms. The spec gives the time constant and not the form, so the
share of the difference taken a sample lies between 10/50 and 10/40, with 1 - e^(-10/40) among them (log entry 18). -/
def tempFilter (y x : Int) : Int := y + (x - y) * (200 + Config.tempShare % 51 : Nat) / 1000

/-- A raw sample of an island's temperature, filtered. -/
def State.tempSample (s : State) (isl : Nat) (x : Int) : State :=
  let y := match s.temp isl with
    | some o => tempFilter o (x * (degC / 8))
    | none => x * (degC / 8)
  (s.onCrq (fun c => { c with temps := SMap.put (fun _ => none) c.temps isl (some y) })).wr (SYS_ISL.TEMP isl)
    (codeOf 12 (y / (degC / 8)))

/-- What Cirque measures of the drivers, the fans and the feeds. -/
def State.boardSample (s : State) (coils : List Nat) (minRpm ia ib : Nat) : State :=
  let s := (List.range 4).foldl (fun s n =>
    match coils[n]? with
    | some c =>
      let s := s.wr (SYS_COIL.CURRENT n) (min c 1023)
      if !s.ctrDrive n || 10 ≤ c then s.down (SYS_COIL.OPEN n) else s
    | none => s) s
  let s := (s.wr SYS_FAN.MINRPM (min minRpm 65535)).wr SYS_FEED.IA (min ia 4095)
  let (x, s) := (s.wr SYS_FEED.IB (min ib 4095)).draw
  s.wr SYS_FAN.DUTY (if s.on SYS_FAN.FAIL && s.on SYS_FAN.TRAY then 100 else x % 101)

/-- THERMAL_SAMPLE: every 10 ms. -/
def State.thermalSample (s : State) (temps : List Int) (coils : List Nat) (minRpm ia ib : Nat) : State :=
  if !s.rails || !s.rdy 2 then s
  else
    let s := match s.crq.sampleAt with
      | some c => s.reachCtr (c + msTicks 10)
      | none => s
    let s := s.onCrq (fun c => { c with sampleAt := some s.ctr })
    let s := (List.range (min 21 temps.length)).foldl (fun s i => s.tempSample i ((temps[i]?).getD 0)) s
    let s := s.boardSample coils minRpm ia ib
    let s := s.crossStep
    let s := (List.range 21).foldl State.crossRestore s
    let s := (List.range 21).foldl State.throttleState s
    match (List.range 21).find? (fun i => s.dwelt (8 * i + 4) s.shutDwell) with
    | some i => s.shutdownNow i
    | none => s

/-! ## Self-tests (R362) -/

/-- What an island does as its ready bit sets: volatile key slots (R413), the arming of a step (R257), accumulators (R236),
the programs of a cluster that an F1 fault restarted (R135). -/
def State.islandStart (s : State) (bit : Nat) : State :=
  match bit with
  | 3 => s.vaultReady
  | 4 => if s.time.begun then s else { s.up TIME_SYNC.STEP_ARMED with time := { s.time with begun := true } }
  | 20 =>
    (s.resetRegs (fun a => MELT_E_LO.addr 0 0 0 ≤ a && a < MELT_SEC0.addr 0 0)).onMelt (fun m =>
      { m with
        seen := (List.range 16).filter (fun f => s.on (MELT_POD.PRESENT f))
        frac := [] })
  | _ =>
    match s.faults.cur with
    | some f => if f.cause = 0x08 && 10 ≤ bit && bit < 18 && f.island = bit - 10 then s.reviveCluster f.island else s
    | none => s

/-- ISLAND_READY: an island ends its self-test, and its ready bit sets. -/
def State.islandReady (s : State) (bit : Nat) : State :=
  if !s.rails || 26 ≤ bit || bit = 9 then s
  else
    let isl := (List.range 21).filter (fun i => islandBit i == some bit)
    let s := isl.foldl (fun s i => s.wr (SYS_ISL.VDD i) (s.setPoint i)) s
    let s := if s.rdy bit then s else (s.setReady bit true).islandStart bit
    (s.onCrq (fun c => { c with vddBad := c.vddBad.filter (fun i => !isl.contains i) })).lumenBit

/-! ## Contactor drivers and fans (R472, R477) -/

/-- What lies behind SYS_COIL changed. -/
def State.setOff (s : State) (n : Nat) (t : Option Nat) : State :=
  { s with board := { off := SMap.put (fun _ => none) s.board.off n t } }

/-- COIL_OVER. -/
def State.coilOver (s : State) (n : Nat) : State :=
  if 4 ≤ n || !s.ctrDrive n then s
  else (s.up (SYS_COIL.OVER n)).setOff n (some (s.now + msTicks 1000))

/-- COIL_RETRY: a second later the driver switches on again; OVER clears where it holds for 1 s. -/
def State.coilRetry (s : State) (n : Nat) (holds : Bool) : State :=
  match SMap.get (fun _ => none) s.board.off n with
  | some t =>
    if 4 ≤ n then s
    else
      let s := (s.reach t).setOff n none
      if holds then (s.reach (s.now + msTicks 1000)).down (SYS_COIL.OVER n)
      else s.setOff n (some (s.now + msTicks 1000))
  | none => s

/-- COIL_OPEN. -/
def State.coilOpen (s : State) (n : Nat) : State :=
  if 4 ≤ n || !s.ctrDrive n || !s.rails then s else s.up (SYS_COIL.OPEN n)

/-- NOCOILV. -/
def State.nocoilv (s : State) (low : Bool) : State :=
  if !s.rails then s else (List.range 4).foldl (fun s n => s.bit (SYS_COIL.NOCOILV n) low) s

/-- FAN_FAIL: at a duty of 30 % or more a fan's speed has been low for 5 s; the other fans go to full (R477). -/
def State.fanFail (s : State) (f : Nat) : State :=
  if 3 ≤ f || !s.rails || s.rd SYS_FAN.DUTY < 30 then s else (s.up ⟨SYS_FAN.addr, 9 + f, 1⟩).wr SYS_FAN.DUTY 100

/-- TRAY_REMOVED. -/
def State.trayRemoved (s : State) : State :=
  if !s.rails then s else (s.down SYS_FAN.TRAY).wr SYS_FAN.FAIL 7

/-- TRAY_FITTED: no fan of the new tray has failed. -/
def State.trayFitted (s : State) : State := if !s.rails then s else (s.up SYS_FAN.TRAY).wr SYS_FAN.FAIL 0

end Sys2Proof.Machine
end

