-- ==== Sys2Proof/Machine/Bus.lean ====
section
/-!
DEFINITION. Sys2Proof/Machine/Bus.lean: the register bus: how a requester's reads and writes of the block registers act,
field by field and register by register, the command registers among them (R10, R11, R22 to R38, R121, R410).
-/

namespace Sys2Proof.Machine

/-! ## The commands behind the command registers (R29) -/

/-- ZEROISE (R415, R450 cause 0x18). -/
def State.zeroiseCmd (s : State) : State := (s.zeroise.vltDone ccOk).raiseFault 0x18 17 0

/-- What an opcode of a block's command register does; none where the opcode is reserved. -/
def commandOf (blk op : Nat) (r : Req) : Option (State → State) :=
  match blk, op with
  | 1, 1 => some State.lumStart
  | 1, 2 => some State.lumStop
  | 1, 3 => some State.lumReset
  | 1, 4 => some State.lumSync
  | 1, 5 => some State.lumDvfs
  | 2, 1 => some State.calLoad
  | 2, 2 => some State.mapSet
  | 2, 3 => some State.tempSet
  | 2, 4 => some State.recalc
  | 2, 5 => some State.abortCmd
  | 2, 6 => some State.resyncCmd
  | 2, 7 => some State.nodeState
  | 3, 1 => some State.discover
  | 3, 2 => some State.planLoad
  | 3, 3 => some State.conflictClr
  | 3, 4 => some State.nodeInfo
  | 3, 5 => some State.sastHandover
  | 3, 6 => some State.disassoc
  | 3, 7 => some State.grantSet
  | 3, 8 => some State.tetherOpen
  | 3, 9 => some State.tetherClose
  | 3, 10 => some State.headCap
  | 4, 1 => some State.sigCapture
  | 4, 2 => some State.energyPreset
  | 4, 3 => some State.xcalReset
  | 4, 4 => some State.reconReset
  | 5, 1 => some State.stepTo
  | 5, 2 => some State.stepBy
  | 5, 3 => some State.rateSet
  | 6, 1 => some State.lookupCmd
  | 6, 2 => some State.insertCmd
  | 6, 3 => some State.deleteCmd
  | 6, 4 => some State.srcRead
  | 6, 5 => some State.srcWrite
  | 7, 1 => some State.qCfg
  | 7, 2 => some State.maxpktSet
  | 7, 3 => some (fun s => s.popCmd r)
  | 7, 4 => some (fun s => s.pushCmd r)
  | 8, 1 => some (fun s => s.saInstall s.sakOf)
  | 8, 2 => some State.saStartTx
  | 8, 3 => some State.saRemove
  | 9, 1 => some State.morFormat
  | 9, 2 => some State.streamCfg
  | 9, 3 => some State.streamInfo
  | 9, 4 => some (fun s => s.readRange r)
  | 9, 5 => some (fun s => s.readSeq r)
  | 9, 6 => some State.rebuildCmd
  | 10, 1 => some (fun s => s.handoverCmd 0)
  | 10, 2 => some (fun s => s.handoverCmd 1)
  | 10, 3 => some State.floeMode
  | 10, 4 => some State.memberInfo
  | 11, 1 => some State.canSend
  | 12, 1 => some (fun s => s.vltOp r)
  | 12, 2 => some (fun s => s.provision.bootTry)
  | 12, 3 => some State.zeroiseCmd
  | 12, 4 => some State.challenge
  | 12, 5 => some State.clearTamper
  | 12, 6 => some State.certSet
  | 14, 1 => some State.rimeFlush
  | 14, 2 => some (fun s => s.recordCmd r)
  | 14, 3 => some State.ringClear
  | 15, 1 => some State.relayCmd
  | 15, 2 => some State.activateCmd
  | 15, 3 => some State.actCancelCmd
  | 15, 4 => some State.progLoad
  | 15, 5 => some State.svnBurn
  | 15, 6 => some State.pushPartner
  | 15, 7 => some State.slotErase
  | _, _ => none

/-- The command, status and event registers of a block's command interface: the address of its CMD register, of its STAT
register, and its command-done bit. -/
def cmdRegs (blk : Nat) : Option (Nat × Nat × Fld) :=
  match blk with
  | 1 => some (LUM_CMD.addr, LUM_STAT.addr, LUM_EVT.CMD_DONE)
  | 2 => some (FIRN_CMD.addr, FIRN_STAT.addr, FIRN_EVT.CMD_DONE)
  | 3 => some (SAST_CMD.addr, SAST_STAT.addr, SAST_EVT.CMD_DONE)
  | 4 => some (MELT_CMD.addr, MELT_STAT.addr, MELT_EVT.CMD_DONE)
  | 5 => some (TIME_CMD.addr, TIME_STAT.addr, TIME_EVT.CMD_DONE)
  | 6 => some (SRC_CMD.addr, SRC_STAT.addr, SRC_EVT.CMD_DONE)
  | 7 => some (SNOW_CMD.addr, SNOW_STAT.addr, SNOW_EVT.CMD_DONE)
  | 8 => some (PORT_CMD.addr, PORT_STAT.addr, PORT_EVT.CMD_DONE)
  | 9 => some (MOR_CMD.addr, MOR_STAT.addr, MOR_EVT.CMD_DONE)
  | 10 => some (PAIR_CMD.addr, PAIR_STAT.addr, PAIR_EVT.CMD_DONE)
  | 11 => some (CAN_CMD.addr, CAN_STAT.addr, CAN_EVT.CMD_DONE)
  | 12 => some (VLT_CMD.addr, VLT_STAT.addr, VLT_EVT.CMD_DONE)
  | 14 => some (RIME_CMD.addr, RIME_STAT.addr, RIME_EVT.CMD_DONE)
  | 15 => some (ICF_CMD.addr, ICF_STAT.addr, ICF_EVT.CMD_DONE)
  | _ => none

/-- A write of a block's command register: the command, or RANGE for a reserved opcode, which processes nothing (R103). -/
def State.cmdWrite (s : State) (r : Req) (blk stat : Nat) (evt : Fld) (v : Word) : State :=
  s.command blk stat (fun s =>
    match commandOf blk (v.toNat % 256) r with
    | some f => f s
    | none => (if blk = 2 then s.wr FIRN_STAT.DONE 0 else s).done stat evt ccRange)

/-! ## What a register reads (R11, R25, R34) -/

/-- The index of an address in a run of registers: first address, stride, count. -/
def regIdx (a base stride n : Nat) : Option Nat :=
  if base ≤ a && (a - base) % stride == 0 && (a - base) / stride < n then some ((a - base) / stride) else none

/-- The mailbox set that an address lies in, and the offset in it (R410). -/
def mbxAt (a : Nat) : Option (Nat × Nat) :=
  [32, 33, 34, 35].findSome? (fun k => if mbxBase k ≤ a && a < mbxBase k + 0x400 then some (k, a - mbxBase k) else none)

/-- Which channels to an agent are FULL (R122): 32 senders from one on. -/
def State.fullBits (s : State) (rcv from' n : Nat) : Nat :=
  (List.range n).foldl (fun x k => if (s.chan (from' + k) rcv).isSome then x + 2 ^ k else x) 0

/-- A mailbox set as it reads without side effect. -/
def State.mbxView (s : State) (agent off : Nat) : Nat :=
  if 0x100 ≤ off && off < 0x190 then
    match s.chan ((off - 0x100) / 4) agent with
    | some (v, _) => v.toNat
    | none => 0
  else if off = 0x200 then s.fullBits agent 0 32
  else if off = 0x204 then s.fullBits agent 32 4
  else if off = 0x300 + 4 * agent then 0
  else (s.reg (mbxBase agent + off)).toNat

/-- The LUM registers that show something held elsewhere (R121 to R123, R109, R130, R140). -/
def State.lumView (s : State) (r : Req) (a : Nat) : Nat :=
  let off := a - blockBase 1
  let stored := (s.reg a).toNat
  if off = 0x500 then (if 128 ≤ r then (SMap.get zeroWord s.lum.winSel r).toNat else 0)
  else if 0x700 ≤ off && off < 0x800 then
    (if off % 8 = 0 then s.fullBits ((off - 0x700) / 8) 0 32 else s.fullBits ((off - 0x700) / 8) 32 4)
  else if 0x1000 ≤ off && off < 0x3000 then
    (if (off - 0x1000) % 0x100 = 4 * ((off - 0x1000) / 0x100) then 0 else stored)
  else if 0x20000 ≤ off && off < 0x22000 then
    let t := (off - 0x20000) / 0x40
    if off % 0x40 = 0 then withBits stored 8 2 (s.recentRestarts t)
    else if off % 0x40 = 0x14 then s.tev t
    else if off % 0x40 = 0x18 then (s.evmask t).toNat
    else stored
  else stored

/-- The TIME registers that show the counter and network time (R256, R263, R276). -/
def State.timeView (s : State) (a : Nat) : Nat :=
  let stored := (s.reg a).toNat
  if a = TIME_NOW_S_LO.addr then s.netSec % 2 ^ 32
  else if a = TIME_NOW_S_HI.addr then s.netSec / 2 ^ 32 % 65536
  else if a = TIME_NOW_NS.addr then s.netNs % 1000000000
  else if a = TIME_NOW_CNT_LO.addr then s.ctr % 2 ^ 32
  else if a = TIME_NOW_CNT_HI.addr then s.ctr / 2 ^ 32
  else if a = TIME_SYNC.addr then s.timeSync
  else match regIdx a (TIME_PORT.addr 0) (TIME_PORT.addr 1 - TIME_PORT.addr 0) 5 with
    | some n => withBits stored (TIME_PORT.PSTATE n).lo (TIME_PORT.PSTATE n).w (s.pstate n)
    | none => stored

/-- Valid entries of a Serac table (SRC_USED). -/
def State.srcUsed (s : State) (t : Nat) : Nat :=
  if t = 0 then (present s.src.nodes).length else if t = 1 then s.src.pfx.length else (present s.src.l2).length

/-- The registers of the RTC and of the alarms, which the lockout of R390 holds. -/
def rtcReg (a : Nat) : Bool :=
  a == RIME_RTC_SUB.addr || a == RIME_RTC_TIME.addr || a == RIME_RTC_DATE.addr || a == RIME_RTC_TRIM.addr ||
    (regIdx a (RIME_ALM_T.addr 0) 4 4).isSome

/-- Does a register read as it last read: the lockout is on (R390)? -/
def State.rtcHeld (s : State) (a : Nat) : Bool := s.rime.locked && rtcReg a

/-- What a register of the RTC or of the alarms reads as (R387 to R390). -/
def State.rtcView (s : State) (a : Nat) : Word :=
  if s.rime.locked then (SMap.get (fun _ => none) s.rime.lastRtc a).getD (Config.rtcUnread a)
  else if a = RIME_RTC_SUB.addr then BitVec.ofNat 32 s.rtcSub
  else s.reg a

/-- A register as a requester reads it live, without side effect. -/
def State.regView (s : State) (r : Req) (a : Nat) : Word :=
  let blk := blockOf a
  if a = blockBase blk + 4 then BitVec.ofNat 32 (s.evt blk)
  else match mbxAt a with
    | some (agent, off) => BitVec.ofNat 32 (s.mbxView agent off)
    | none =>
      match blk with
      | 0 => match regIdx a (SYS_CTR.addr 0) 4 4 with
        | some n => BitVec.ofNat 32 (s.ctrWord n)
        | none => s.reg a
      | 1 => BitVec.ofNat 32 (s.lumView r a)
      | 5 => BitVec.ofNat 32 (s.timeView a)
      | 6 => match regIdx a (SRC_USED.addr 0) 4 3 with
        | some t => BitVec.ofNat 32 (s.srcUsed t)
        | none => s.reg a
      | 8 => match regIdx a (PORT_FC.addr 0) 64 6 with
        | some n => if 4 ≤ n then 0 else s.reg a
        | none => s.reg a
      | 9 => match regIdx a (MOR_DRIVE.addr 0) 4 16 with
        | some d => BitVec.ofNat 32 (withBits (s.reg a).toNat (MOR_DRIVE.OWNED d).lo 1
            (if s.holds && s.on (MOR_DRIVE.PRESENT d) then 1 else 0))
        | none => s.reg a
      | 10 => if a = PAIR_DRILL_STAT.addr then
          BitVec.ofNat 32 (withBits (s.reg a).toNat PAIR_DRILL_STAT.AGE.lo PAIR_DRILL_STAT.AGE.w s.drillAge)
        else s.reg a
      | 12 => match regIdx a (VLT_SLOT.addr 0) 4 64 with
        | some n => BitVec.ofNat 32 (s.slotWord n)
        | none =>
          if a = VLT_STATUS.addr then
            BitVec.ofNat 32 (withBits (withBits (withBits (s.reg a).toNat VLT_STATUS.C1.lo 1 (s.rd RIME_TAMP.C1))
              VLT_STATUS.C2.lo 1 (s.rd RIME_TAMP.C2)) VLT_STATUS.INFLIGHT.lo VLT_STATUS.INFLIGHT.w s.vlt.ops.length)
          else s.reg a
      | 14 =>
        if rtcReg a then s.rtcView a
        else if a = RIME_ICE_CUR.addr then BitVec.ofNat 32 (s.cursor r)
        else match regIdx a (RIME_ICE_WIN.addr 0) 4 72 with
          | some k => s.iceWord (s.cursor r) k
          | none => s.reg a
      | _ => s.reg a

/-! ## Snapshots (R35 to R37) -/

/-- How many words after this one its reading latches: it is the lowest-addressed word of a multi-word value. -/
def latchLen (a : Nat) : Nat :=
  if a = SYS_ECC_UE_LO.addr || a = FIRN_ACTIVE_LO.addr || a = FIRN_EPOCH_LO.addr || a = FIRN_EARLIEST_LO.addr ||
      a = RIME_ICE_SEQ_LO.addr || a = ICF_ACT_LO.addr then 1
  else if a = MELT_INT_START_LO.addr || a = FLOE_CHANGE_EP_LO.addr || a = RIME_RTC_SUB.addr then 2
  else if a = TIME_NOW_S_LO.addr then 4
  else if a = RIME_ICE_WIN.addr 0 then 71
  else if (regIdx a (MELT_SEC0.addr 0 0) 16 64).isSome then 3
  else if (regIdx a (MELT_E_LO.addr 0 0 0) 8 512).isSome || (regIdx a (MELT_INT_LO.addr 0 0) 8 128).isSome ||
      (regIdx a (MELT_RESID_LO.addr 0) 8 16).isSome || (regIdx a (MELT_REP_LO.addr 0) 8 16).isSome ||
      (regIdx a (CAN_TXST.addr 0) 64 4).isSome || (regIdx a (LUM_T_TMR_LO.addr 0 0) 64 128).isSome ||
      (regIdx a (LUM_T_TMR_LO.addr 0 1) 64 128).isSome then 1
  else 0

/-- The bits of a higher word that belong to the latched value. -/
def rosMask (a : Nat) : Word := if a = SYS_ECC_UE_HI.addr then 0xFFF#32 else 0xFFFF_FFFF#32

/-- The key of a latch: the requester and the register's address. -/
def latchKey (r : Req) (a : Nat) : Nat := r * 2 ^ 40 + a

/-- The words after the lowest one latched for a requester. -/
def State.latchAll (s : State) (r : Req) (a n : Nat) : State :=
  { s with latch := (List.range n).foldl (fun m k =>
      SMap.put (fun _ => none) m (latchKey r (a + 4 * (k + 1))) (some (s.regView r (a + 4 * (k + 1))))) s.latch }

/-- The latches of a block's registers dropped, as it reports ready (R37). -/
def State.dropLatches (s : State) (blk : Nat) : State :=
  { s with latch := s.latch.filter (fun e => !(blockOf (e.1 % 2 ^ 40) == blk)) }

/-- A read of a register that answers, with its latch. -/
def State.snapRead (s : State) (r : Req) (a : Nat) : Word × State :=
  let live := s.regView r a
  if s.rtcHeld a then (live, s)
  else match SMap.get (fun _ => none) s.latch (latchKey r a) with
  | some w => ((w &&& rosMask a) ||| (live &&& ~~~ (rosMask a)), s)
  | none => (live, if latchLen a = 0 then s else s.latchAll r a (latchLen a))

/-! ## Refusals (R22 to R26, R121, R137) -/

/-- The cluster whose thread or core a LUM register names (R137). -/
def lumCluster (a : Nat) : Option Nat :=
  let off := a - blockBase 1
  if 0x200 ≤ off && off < 0x220 then some ((off - 0x200) / 4)
  else if 0x600 ≤ off && off < 0x680 then some ((off - 0x600) / 16)
  else if 0x680 ≤ off && off < 0x700 then some ((off - 0x680) / 16)
  else if 0x700 ≤ off && off < 0x800 then some ((off - 0x700) / 32)
  else if 0x1000 ≤ off && off < 0x3000 then some ((off - 0x1000) / 0x400)
  else if 0x20000 ≤ off && off < 0x22000 then some ((off - 0x20000) / 0x400)
  else none

/-- Is an address in the window onto lumen SRAM (R121)? -/
def inWindow? (a : Nat) : Bool := blockBase 1 + 0x20_0000 ≤ a && a < blockBase 1 + 0x40_0000

/-- The code with which a register access is refused; OK where it is not. -/
def State.refusal (s : State) (r : Req) (a : Nat) : Nat :=
  if a % 4 ≠ 0 then ccRange
  else if !s.blkReady (blockOf a) then ccBusy
  else if blockOf a = 1 then
    (if inWindow? a then
      (if r < 128 then ccDenied
       else if s.clusterReady ((SMap.get zeroWord s.lum.winSel r).toNat % 32 / 4) then ccOk else ccBusy)
     else match lumCluster a with
      | some c => if s.clusterReady c then ccOk else ccBusy
      | none => ccOk)
  else ccOk

/-- Where a window address leads for a requester: the region, the core and the address as the core sees it; none beyond
the selected memory. -/
def State.winAt (s : State) (r : Req) (a : Nat) : Option (Region × Nat × Nat) :=
  let w := (SMap.get zeroWord s.lum.winSel r).toNat
  let off := a - (blockBase 1 + 0x20_0000)
  if bitsOf w 8 1 = 1 then some (.clu, w % 32, 0x80_1000_0000 + off)
  else if off < 131072 then some (.loc, w % 32, 0x80_0000_0000 + off)
  else none

/-! ## Reads -/

/-- A register read by a requester: the completion code, the word and the state after it. -/
def State.regRead (s : State) (r : Req) (a : Nat) : Nat × Word × State :=
  if s.refusal r a ≠ ccOk then (s.refusal r a, 0, s)
  else if inWindow? a then
    match s.winAt r a with
    | none => (ccOk, 0, s)
    | some (g, core, p) =>
      if s.sramPoisonIn g core p 4 then (ccUe, 0, s.sramUe g core p 4)
      else (ccOk, BitVec.ofNat 32 (ofLe (s.sramBytes g core p 4)), s.mendSram g core p 4)
  else match mbxAt a with
    | some (agent, off) =>
      if agentOf r = agent && 0x100 ≤ off && off < 0x190 then s.mbxRecv ((off - 0x100) / 4) agent
      else (ccOk, s.regView r a, s)
    | none =>
      let (v, t) := s.snapRead r a
      if rtcReg a then (ccOk, v, t.onRime (fun x => { x with lastRtc := SMap.put (fun _ => none) x.lastRtc a (some v) }))
      else if a = RIME_ICE_WIN.addr 71 then (ccOk, v, t.setCursor r (nextCursor (t.cursor r)))
      else (ccOk, v, t)

/-! ## Writes -/

/-- The lock of a register's RWL fields holds. -/
def State.locked (s : State) (a : Nat) : Bool :=
  match blockOf a with
  | 2 => s.on FIRN_CTRL.EN
  | 4 => s.on MELT_CTRL.RECON_EN
  | 9 => s.on MOR_CTRL.EN
  | 10 => s.mode != 2
  | 11 => s.on (CAN_CTRL.EN ((a - CAN_CTRL.addr 0) / 64))
  | 14 => s.mode != 2
  | _ => false

/-- One field of a register after a write, by its access code (R10). -/
def writeFld (lock : Bool) (v old : Nat) (f : Nat × Nat × Acc) : Nat :=
  let (lo, w, acc) := f
  match acc with
  | .rw => withBits old lo w (bitsOf v lo w)
  | .rwl => if lock then old else withBits old lo w (bitsOf v lo w)
  | .w1c => withBits old lo w (bitsOf old lo w &&& (2 ^ w - 1 - bitsOf v lo w))
  | .w1s => withBits old lo w (bitsOf old lo w ||| bitsOf v lo w)
  | .ro | .ros | .wo => old

/-- The fields whose written values are stored as the nearer limit of a range: the field of index 0, the index ranges, the
least and the greatest value. -/
def clamps : List (Fld × List (Nat × Nat) × Nat × Nat) := [
  (SYS_ISL_CFG.DELAY, [], 1, 255),
  (FIRN_DELTA_CFG.SHARE, [], 10, 100), (FIRN_DELTA_CFG.MARGIN, [], 0, 50), (FIRN_DERATE_CFG.DWELL, [], 1, 255),
  (FIRN_DERATE.FLOOR 0, [(256, 4)], 0, 100),
  (SAST_SUPERVISION.TIMEOUT, [], 1, 600), (SAST_CONFLICT_CFG.WINDOW, [], 1, 65535),
  (SAST_CONFLICT_CFG.CONFLICT_MIN, [], 1, 255), (SAST_HANDOVER_CFG.MARGIN, [], 0, 40),
  (SAST_HANDOVER_CFG.COUNT, [], 1, 15), (SAST_BUDGET.UNITS 0, [(64, 4)], 0, 102400),
  (MELT_PULSE.WIDTH 0, [(16, 8)], 1, 255), (MELT_PULSE_K.K 0, [(16, 8)], 1, 4294967295),
  (MELT_RECON2.DWELL 0, [(16, 16)], 1, 255), (MELT_SIG1.SETTLE 0, [(16, 16)], 1, 255),
  (TIME_CTRL.STEP_MIN, [], 1, 255),
  (PAIR_REVERT.DELAY, [], 10, 86400), (PAIR_DRILL_CFG.PERIOD, [], 0, 365), (PAIR_DRILL_CFG.MINUTE, [], 0, 1439),
  (PAIR_DRILL_CFG.DURATION, [], 10, 3600),
  (RIME_CTRL.SAMPLE, [], 1, 100), (RIME_ICE_CFG.LOG_RATE, [], 1, 255),
  (CRQ_THERM.DWELL, [], 1, 255), (CRQ_SHUT.TRIP, [], 110, 125), (CRQ_SHUT.DWELL, [], 1, 255),
  (ICF_CTRL.RELAY_RATE, [], 1, 100), (ICF_CTRL.CONFIRM, [], 60, 65535)]

/-- A register's value with its fields brought into their ranges. -/
def clampWord (a x : Nat) : Nat :=
  clamps.foldl (fun x c =>
    if c.1.a ≤ a && dimsHit c.2.1 (a - c.1.a) then
      withBits x c.1.lo c.1.w (min (max (bitsOf x c.1.lo c.1.w) c.2.2.1) c.2.2.2)
    else x) x

/-- A value with its high field at most (or, for XON, at least) its low field. -/
def ordered (x lo w lo' w' : Nat) (f : Nat → Nat → Nat) : Nat := withBits x lo' w' (f (bitsOf x lo' w') (bitsOf x lo w))

/-- A register's value as it is stored after a write, by what its table says beyond the access codes. -/
def normWord (a old x : Nat) : Nat :=
  let x := clampWord a x
  if a = SYS_BOOT.addr then (if bitsOf x 0 3 = 3 then x else withBits x 0 3 2)
  else if a = CRQ_THERM.addr then ordered x 0 8 8 8 min
  else if (regIdx a (MELT_RECON1.addr 0) 16 16).isSome then ordered x 0 16 16 16 min
  else if a = PORT_FC.addr 4 || a = PORT_FC.addr 5 then old
  else if (regIdx a (PORT_FC.addr 0) 64 6).isSome then ordered x 0 16 16 16 max
  else if a = PORT_CTRL.addr 4 then withBits x 1 11 0
  else if a = PORT_CTRL.addr 5 then withBits (withBits x 1 11 0) 16 2 0
  else if (regIdx a (PORT_MISSQ.addr 0) 64 6).isSome then (if 3072 ≤ bitsOf x 0 12 then old else x)
  else if a = RIME_RTC_TRIM.addr then
    withBits x 0 16 (codeOf 16 (min (max (signedOf 16 x) (-2000)) 2000))
  else if a = SRC_TBL.addr 0 then x % 2 ^ 16
  else if a = SRC_TBL.addr 1 then x % 2
  else if a = SRC_TBL.addr 2 then withBits x 4 12 0
  else if (a = SRC_PERR.addr || a = SRC_EVICT.addr) && bitsOf x 31 1 = 0 then withBits x 20 10 0
  else x

/-- A write of a register that only stores, with what follows from the new value. -/
def State.plainWrite (s : State) (a : Nat) (v : Word) : State :=
  match regDef a with
  | none => s
  | some d =>
    let old := (s.reg a).toNat
    let t := s.setReg a (BitVec.ofNat 32
      (normWord a old (d.flds.foldl (fun x f => writeFld (s.locked a) v.toNat x f) old)))
    if (regIdx a (FIRN_DERATE.addr 0) 4 256).isSome || a = FIRN_DERATE_CFG.addr then t.derateAll
    else match regIdx a (PORT_CTRL.addr 0) 64 6, regIdx a (PORT_FC.addr 0) 64 6 with
      | some n, _ => (t.flowCheck n).portKick n
      | _, some n => t.flowCheck n
      | _, _ =>
        if a = TIME_CTRL.addr then (if t.on TIME_CTRL.SERVO then t else t.servoOff)
        else if a = CRQ_MGMT.addr && s.on CRQ_MGMT.SESSION && !t.on CRQ_MGMT.EN then
          (t.down CRQ_MGMT.SESSION).up CRQ_EVT.MGMT
        else t

/-- A write in a mailbox set: the agent's own acts, any other is ignored (R410). -/
def State.mbxWrite (s : State) (r : Req) (agent off : Nat) (v : Word) : Nat × State :=
  if agentOf r ≠ agent then (ccOk, s)
  else if off < 0x90 then s.mbxSend agent (off / 4) r v
  else if off = 0x214 then (ccOk, s.ring agent v.toNat)
  else if off = 0x300 + 4 * agent then (ccOk, s)
  else (ccOk, s.plainWrite (mbxBase agent + off) v)

/-- A write of a LUM register. -/
def State.lumWrite (s : State) (r : Req) (a : Nat) (v : Word) : State :=
  let off := a - blockBase 1
  if off = 0x500 then
    (if 128 ≤ r then
      { s with lum := { s.lum with winSel := SMap.put zeroWord s.lum.winSel r (v &&& 0x11F#32) } } else s)
  else if 0x680 ≤ off && off < 0x700 then s.ring ((off - 0x680) / 4) v.toNat
  else if 0x1000 ≤ off && off < 0x3000 && (off - 0x1000) % 0x100 = 4 * ((off - 0x1000) / 0x100) then s
  else if 0x20000 ≤ off && off < 0x22000 then
    let t := (off - 0x20000) / 0x40
    let k := off % 0x40
    if k = 0x20 then s.tmrLo t 0 v
    else if k = 0x24 then s.tmrArm t 0 v
    else if k = 0x2C then s.tmrLo t 1 v
    else if k = 0x30 then s.tmrArm t 1 v
    else if k = 0x3C then (if v.getLsbD 0 then s.up (LUM_T_TEV.SOFT t) else s)
    else s.plainWrite a v
  else s.plainWrite a v

/-- A write of a RIME register. -/
def State.rimeWrite (s : State) (r : Req) (a : Nat) (v : Word) : State :=
  match regIdx a (RIME_RULE.addr 0) 4 128 with
  | some k => s.ruleWrite (k / 4) (k % 4) v
  | none =>
    if a = RIME_RTC_TIME.addr then s.rtcTimeWrite v
    else if a = RIME_RTC_DATE.addr then s.rtcDateWrite v
    else if a = RIME_RTC_TRIM.addr || (regIdx a (RIME_ALM_T.addr 0) 4 4).isSome then
      (if s.rime.locked then s else s.plainWrite a v)
    else if a = RIME_ICE_CFG.addr then
      let s := if s.locked a then s else s.h2Write (v.getLsbD 0)
      s.wr RIME_ICE_CFG.LOG_RATE (max 1 (bitsOf v.toNat 8 8))
    else if a = RIME_ICE_CUR.addr then s.setCursor r (v.toNat % 2 ^ 15)
    else s.plainWrite a v

/-- A write of a register that is neither a command register nor in a mailbox set. -/
def State.blockWrite' (s : State) (r : Req) (a : Nat) (v : Word) : State :=
  match blockOf a with
  | 0 =>
    if a = SYS_MODE_REQ.addr then s.modeReqWrite r v
    else if a = SYS_OUT_PERMIT.addr then s.outPermitWrite v
    else if a = SYS_ECC_CE.addr then s.eccCeClear v
    else match regIdx a (SYS_CTR.addr 0) 4 4 with
      | some n => s.ctrWrite r n v
      | none => s.plainWrite a v
  | 1 => s.lumWrite r a v
  | 2 => if a = FIRN_CTRL.addr then s.firnCtrlWrite v else s.plainWrite a v
  | 3 =>
    if a = SAST_CTRL.addr then s.sastCtrlWrite v
    else if a = SAST_ADV_CH.addr then s.advChWrite v
    else s.plainWrite a v
  | 4 => if a = MELT_CTRL.addr then s.meltCtrlWrite v else s.plainWrite a v
  | 9 => if a = MOR_CTRL.addr then s.morCtrlWrite v else s.plainWrite a v
  | 10 =>
    if a = PAIR_WDOG.addr then s.wdogWrite v
    else match regIdx a (PAIR_MREG_SIZE.addr 0) 16 16 with
      | some k => s.mregWrite k v
      | none => s.plainWrite a v
  | 11 =>
    match regIdx a (CAN_CTRL.addr 0) 64 4, regIdx a (CAN_RX_TAIL.addr 0) 64 4 with
    | some n, _ => s.canCtrlWrite n v
    | _, some n => s.canTailWrite n v
    | _, _ => s.plainWrite a v
  | 14 => s.rimeWrite r a v
  | _ => s.plainWrite a v

/-- A register written by a requester: the completion code and the state after it. -/
def State.regWrite (s : State) (r : Req) (a : Nat) (v : Word) : Nat × State :=
  if s.refusal r a ≠ ccOk then (s.refusal r a, s)
  else if inWindow? a then
    match s.winAt r a with
    | none => (ccOk, s)
    | some (g, core, p) => (ccOk, s.writeSram g core p (leBytes 4 v.toNat))
  else match mbxAt a with
    | some (agent, off) => s.mbxWrite r agent off v
    | none =>
      match cmdRegs (blockOf a) with
      | some (cmd, stat, evt) =>
        (ccOk, if a = cmd then s.cmdWrite r (blockOf a) stat evt v else s.blockWrite' r a v)
      | none => (ccOk, s.blockWrite' r a v)

/-- Is an address in the register space (R22)? -/
def isReg (a : Nat) : Bool := a / 2 ^ 28 == 0x400

/-! ## Commands of the register bus -/

/-- The machine before a command: what the last one sent out is gone. -/
def State.silent (s : State) : State := { s with out := [] }

/-- What follows from the state u that a command's own effect has led to, in every case: the gates, an F2 recovery's
second step, switchback, the confirmation, an activation that waits for the partner, the mirror, and the end of every WAIT and IDLE that is over. -/
def State.follow (s u : State) : State := (s.run (fun _ => u.confirmWatch.actWatch)).settleAll

/-- A command: its effect, then what follows from it in every case. -/
def State.cmd (s : State) (f : State → State) : State := s.follow (f s.silent)

/-- A command whose operands must name something that exists; otherwise nothing happens. -/
def State.cmdIf (s : State) (ok : Bool) (f : State → State) : State := if ok then s.cmd f else s

end Sys2Proof.Machine
end

