-- ==== Sys2Proof/Machine/BoardCmds.lean ====
section
/-!
DEFINITION. Sys2Proof/Machine/BoardCmds.lean: the commands and events of Cirque, the faults and the module's hardware (R404 to R407, R450 to R457, R472, R477).
-/

namespace Sys2Proof.Machine

/-- THERMAL_SAMPLE (R49): Every 10 ms Cirque filters island temperatures and throttles crossings. -/
def execThermalSample (temps : List Int) (coils : List Nat) (minRpm ia ib : Nat) (s : State) : Out :=
  .next (s.cmd (fun s => s.thermalSample temps coils minRpm ia ib))

/-- THROTTLE_STEP (R406): Each second an island in the throttle state lowers or restores its clock. -/
def execThrottleStep (s : State) : Out :=
  .next (s.cmd State.throttleStep)

/-- SHUTDOWN (R407): An island at the shutdown threshold raises F2, releases HOLD and requests DORMANT. -/
def execShutdown (isl : Nat) (s : State) : Out :=
  .next (s.cmdIf (decide (isl < 21)) (fun s => s.shutdown isl))

/-- VDD_FAULT (R405): An island supply out of range for 1 ms raises an F1 fault. -/
def execVddFault (isl mv : Nat) (s : State) : Out :=
  .next (s.cmdIf (decide (isl < 21)) (fun s => s.vddFault isl mv))

/-- RECOVERY_COMPLETE (R451): A recovery completes and the next deferred fault is handled. -/
def execRecoveryComplete (s : State) : Out :=
  .next (s.cmd State.recoveryComplete)

/-- ISLAND_RESTART_TIMEOUT (R450): An island restarted under F1 is not ready within 5 s and raises F2. -/
def execIslandRestartTimeout (s : State) : Out :=
  .next (s.cmd State.restartTimeout)

/-- COIL_OVER (R472): A driver reaches its current limit or overheats and switches off for 1 s. -/
def execCoilOver (n : Nat) (s : State) : Out :=
  .next (s.cmdIf (decide (n < 4)) (fun s => s.coilOver n))

/-- COIL_RETRY (R472): 1 s after switching off, the driver retries. -/
def execCoilRetry (n : Nat) (holds : Bool) (s : State) : Out :=
  .next (s.cmdIf (decide (n < 4)) (fun s => s.coilRetry n holds))

/-- COIL_OPEN (R472): A driven output under 10 mA for 100 ms sets OPEN. -/
def execCoilOpen (n : Nat) (s : State) : Out :=
  .next (s.cmdIf (decide (n < 4)) (fun s => s.coilOpen n))

/-- NOCOILV (R472): COIL_V falls below 16 V. -/
def execNocoilv (low : Bool) (s : State) : Out :=
  .next (s.cmd (fun s => s.nocoilv low))

/-- FAN_FAIL (R477): A fan's speed stays low for 5 s and the other fans go to full. -/
def execFanFail (f : Nat) (s : State) : Out :=
  .next (s.cmdIf (decide (f < 3)) (fun s => s.fanFail f))

/-- TRAY_REMOVED (R477): The fan tray is removed and every FAIL bit sets. -/
def execTrayRemoved (s : State) : Out :=
  .next (s.cmd State.trayRemoved)

/-- TRAY_FITTED (R477): TRAY_PRES_N goes low as a fan tray is fitted, and SYS_FAN.TRAY sets. -/
def execTrayFitted (s : State) : Out :=
  .next (s.cmd State.trayFitted)

end Sys2Proof.Machine
end

