-- ==== Sys2Proof/Machine/CanCmds.lean ====
section
/-!
DEFINITION. Sys2Proof/Machine/CanCmds.lean: the commands and events of the CAN ports (R438 to R449).
-/

namespace Sys2Proof.Machine

/-- CAN_SEND (R442): CAN command: Cirque or the host queues a CAN frame. -/
def execCanSend (_r : Req) (s : State) : Out :=
  .next (s.cmd (fun s => s.command 11 CAN_STAT.addr State.canSend))

/-- CAN_ENABLE (R440): A write of CAN_CTRL.EN checks settings or discards the queue. -/
def execCanEnable (r : Req) (n : Nat) (v : Word) (s : State) : Out :=
  .next (s.cmdIf (decide (n < 4)) (fun s => (s.regWrite r (CAN_CTRL.addr n) v).2))

/-- RX_TAIL_WRITE (R447): A write of CAN_RX_TAIL frees ring records. -/
def execRxTailWrite (r : Req) (n : Nat) (v : Word) (s : State) : Out :=
  .next (s.cmdIf (decide (n < 4)) (fun s => (s.regWrite r (CAN_RX_TAIL.addr n) v).2))

/-- CAN_RX (R447): An accepted CAN frame is written to the receive ring. -/
def execCanRx (n : Nat) (f : CanFrame) (s : State) : Out :=
  .next (s.cmdIf (decide (n < 4)) (fun s => s.canRx n f))

/-- TX_ATTEMPT_END (R445): A CAN frame's attempt ends and its result is recorded. -/
def execTxAttemptEnd (n : Nat) (o : TxOutcome) (s : State) : Out :=
  .next (s.cmdIf (decide (n < 4)) (fun s => s.txAttemptEnd n o))

/-- BUS_OFF (R448): A CAN port's error state changes, including bus-off and its recovery. -/
def execBusOff (n tec rec lec : Nat) (st : CanState) (s : State) : Out :=
  .next (s.cmdIf (decide (n < 4)) (fun s => s.canErr n tec rec lec st))

end Sys2Proof.Machine
end

