-- ==== Sys2Proof/Machine/FirnCmds.lean ====
section
/-!
DEFINITION. Sys2Proof/Machine/FirnCmds.lean: the commands and events of Firn (R52 to R103).
-/

namespace Sys2Proof.Machine

/-- CAL_LOAD (R90): Firn command: loads calibration records from DRAM. -/
def execCalLoad (_r : Req) (s : State) : Out :=
  .next (s.cmd (fun s => s.command 2 FIRN_STAT.addr State.calLoad))

/-- MAP_SET (R54): Firn command: writes an endpoint-map entry. -/
def execMapSet (_r : Req) (s : State) : Out :=
  .next (s.cmd (fun s => s.command 2 FIRN_STAT.addr State.mapSet))

/-- TEMP_SET (R97): Firn command: replaces a node's filtered temperature. -/
def execTempSet (_r : Req) (s : State) : Out :=
  .next (s.cmd (fun s => s.command 2 FIRN_STAT.addr State.tempSet))

/-- RECALC (R103): Firn command: marks entries dirty and recomputes their drives. -/
def execRecalc (_r : Req) (s : State) : Out :=
  .next (s.cmd (fun s => s.command 2 FIRN_STAT.addr State.recalc))

/-- ABORT (R75): Firn command: aborts a sealed local commit before the cutoff. -/
def execAbort (_r : Req) (s : State) : Out :=
  .next (s.cmd (fun s => s.command 2 FIRN_STAT.addr State.abortCmd))

/-- RESYNC (R73): Firn command: resyncs a node with a catch-up. -/
def execResync (_r : Req) (s : State) : Out :=
  .next (s.cmd (fun s => s.command 2 FIRN_STAT.addr State.resyncCmd))

/-- NODE_STATE (R103): Firn command: returns a node-plane entry. -/
def execNodeState (_r : Req) (s : State) : Out :=
  .next (s.cmd (fun s => s.command 2 FIRN_STAT.addr State.nodeState))

/-- FIRN_ENABLE (R52): Writing FIRN_CTRL.EN 1 checks the region and starts the fill. -/
def execFirnEnable (r : Req) (v : Word) (s : State) : Out :=
  .next (s.cmd (fun s => (s.regWrite r FIRN_CTRL.addr (v ||| 1#32)).2))

/-- FIRN_FILL_DONE (R52): The region fill ends and EN reads 1. -/
def execFirnFillDone (s : State) : Out :=
  .next (s.cmd State.fillDone)

/-- FIRN_DISABLE (R103): Writing FIRN_CTRL.EN 0 aborts or awaits a sealed commit and ends a check. -/
def execFirnDisable (r : Req) (v : Word) (s : State) : Out :=
  .next (s.cmd (fun s => (s.regWrite r FIRN_CTRL.addr (v &&& 0xFFFF_FFFE#32)).2))

/-- COMMIT_CHECK_END (R64): A commit check ends with feasibility tested, sealing or refusing the commit. -/
def execCommitCheckEnd (s : State) : Out :=
  .next (s.cmd State.checkEnds)

/-- EPOCH (R74): At the epoch tick Firn flips its buffers, increments the frame number and starts copy-forward. -/
def execEpoch (s : State) : Out :=
  .next (s.cmd State.epochTick)

/-- COPY_DONE (R61): Copy-forward ends and COPY_DONE sets. -/
def execCopyDone (s : State) : Out :=
  .next (s.cmd State.copyDone)

/-- ABORT_CUTOFF (R350): At E minus 100 ms a sealed floe commit not matched by a PREPARE is aborted. -/
def execAbortCutoff (s : State) : Out :=
  .next (s.cmd State.abortCutoff)

/-- SURGE_DROP (R88): A queued surge not carried by its deadline is dropped. -/
def execSurgeDrop (ep : Nat) (s : State) : Out :=
  .next (s.cmdIf (decide (ep < 2 ^ 20)) (fun s => s.surgeDrop ep))

/-- TEMP_STALE (R97): A node silent for 3 report periods has its K values held. -/
def execTempStale (node : Nat) (s : State) : Out :=
  .next (s.cmdIf (decide (node < 2 ^ 18)) (fun s => s.tempStaleAt node))

end Sys2Proof.Machine
end

