-- ==== Sys2Proof/Machine/GnorMem.lean ====
section
/-!
DEFINITION. Sys2Proof/Machine/GnorMem.lean: loads, stores, atomics and wide loads and stores of the Gnor cores
(R151 to R156, R160, R177).
-/

namespace Sys2Proof.Machine

/-! ## Loads -/

/-- A load of n bytes at an effective address, in the order of R171: alignment, refusals, poison; `k` goes on with the
bytes (R151 to R154). -/
def State.load (s : State) (t : Tid) (ea : Dword) (n : Nat) (k : State → List Byte → Res) : Res :=
  let a := ea.toNat
  if a % n ≠ 0 then .exc s 0x05 0 a
  else if 2 ^ 40 ≤ a then .exc (s.up SYS_EVT.ACCESS_FAULT) 0x07 ccDenied a
  else if isReg a then
    if n ≠ 4 then .exc s 0x07 ccRange a
    else
      let (cc, v, s) := s.regRead t.val a
      if cc = ccOk then k s (leBytes 4 v.toNat) else if cc = ccUe then .exc s 0x09 ccUe a else .exc s 0x07 cc a
  else match s.loadMem (cacheCore t) a n with
    | (.done, bs, s) => k s bs
    | (.denied cc, _, s) => .exc s 0x07 cc a
    | (.poison, _, s) => .exc s 0x09 ccUe a

/-- A load of n bytes into a general register, extended by `f` (R152). -/
def State.loadReg (s : State) (t : Tid) (rt ra : GReg) (disp : Imm16) (n : Nat) (f : Nat → Dword) : State :=
  s.cmd (fun s => s.issue t (fun s => s.load t (s.ea t ra disp) n (fun s bs => .go (s.setG t rt (f (ofLe bs))))))

/-- Sign extension of the low w bits. -/
def sextBits (w x : Nat) : Dword := BitVec.ofInt 64 (signedOf w x)

def execLb (t : Tid) (rt ra : GReg) (disp : Imm16) (s : State) : Out := .next (s.loadReg t rt ra disp 1 (sextBits 8))
def execLbu (t : Tid) (rt ra : GReg) (disp : Imm16) (s : State) : Out :=
  .next (s.loadReg t rt ra disp 1 (BitVec.ofNat 64))
def execLh (t : Tid) (rt ra : GReg) (disp : Imm16) (s : State) : Out := .next (s.loadReg t rt ra disp 2 (sextBits 16))
def execLhu (t : Tid) (rt ra : GReg) (disp : Imm16) (s : State) : Out :=
  .next (s.loadReg t rt ra disp 2 (BitVec.ofNat 64))
def execLw (t : Tid) (rt ra : GReg) (disp : Imm16) (s : State) : Out := .next (s.loadReg t rt ra disp 4 (sextBits 32))
def execLwu (t : Tid) (rt ra : GReg) (disp : Imm16) (s : State) : Out :=
  .next (s.loadReg t rt ra disp 4 (BitVec.ofNat 64))
def execLd (t : Tid) (rt ra : GReg) (disp : Imm16) (s : State) : Out :=
  .next (s.loadReg t rt ra disp 8 (BitVec.ofNat 64))

/-! ## Stores -/

/-- A store of bytes at an effective address (R151 to R155). -/
def State.store (s : State) (t : Tid) (ea : Dword) (bs : List Byte) : Res :=
  let a := ea.toNat
  if a % bs.length ≠ 0 then .exc s 0x06 0 a
  else if 2 ^ 40 ≤ a then .exc (s.up SYS_EVT.ACCESS_FAULT) 0x08 ccDenied a
  else if isReg a then
    if bs.length ≠ 4 then .exc s 0x08 ccRange a
    else
      let (cc, s) := s.regWrite t.val a (BitVec.ofNat 32 (ofLe bs))
      if cc = ccOk then .go s else .exc s 0x08 cc a
  else match s.storeMem (cacheCore t) a bs with
    | (.done, s) => .go s
    | (.denied cc, s) => .exc s 0x08 cc a
    | (.poison, s) => .exc s 0x08 ccUe a

/-- A store of the low n bytes of a general register (R152). -/
def State.storeReg (s : State) (t : Tid) (rt ra : GReg) (disp : Imm16) (n : Nat) : State :=
  s.cmd (fun s => s.issue t (fun s => s.store t (s.ea t ra disp) (leBytes n (s.greg t rt).toNat)))

def execSb (t : Tid) (rt ra : GReg) (disp : Imm16) (s : State) : Out := .next (s.storeReg t rt ra disp 1)
def execSh (t : Tid) (rt ra : GReg) (disp : Imm16) (s : State) : Out := .next (s.storeReg t rt ra disp 2)
def execSw (t : Tid) (rt ra : GReg) (disp : Imm16) (s : State) : Out := .next (s.storeReg t rt ra disp 4)
def execSd (t : Tid) (rt ra : GReg) (disp : Imm16) (s : State) : Out := .next (s.storeReg t rt ra disp 8)

/-! ## Wide loads and stores (R160); Cirque has none (R177) -/

def execWld (t : Tid) (w : WReg) (ra : GReg) (disp : Imm16) (s : State) : Out :=
  .next (s.cmd (fun s => s.issue t (notCirque (.wld t w ra disp) t (fun s =>
    s.load t (s.ea t ra disp) 16 (fun s bs => .go (s.setW t w (BitVec.ofNat 128 (ofLe bs))))))))

def execWst (t : Tid) (w : WReg) (ra : GReg) (disp : Imm16) (s : State) : Out :=
  .next (s.cmd (fun s => s.issue t (notCirque (.wst t w ra disp) t (fun s =>
    s.store t (s.ea t ra disp) (leBytes 16 (s.wreg t w).toNat)))))

/-! ## Atomics (R156, R177) -/

/-- The SRAM regions on which a core's atomics act. -/
def atomicRegion (r : Region) : Bool := r == .loc || r == .clu || r == .crq

/-- An atomic of n bytes on SRAM: `f old operand expected` is the new value. -/
def State.atomic (s : State) (t : Tid) (rd ra rb : GReg) (n : Nat) (f : Nat → Nat → Nat → Nat) (ext : Nat → Dword) :
    Res :=
  let core := cacheCore t
  let a := (s.greg t ra).toNat
  let r := regionOf core a
  if a % n ≠ 0 then .exc s 0x06 0 a
  else if 2 ^ 40 ≤ a || !atomicRegion r then
    .exc (if 2 ^ 40 ≤ a || r = .absent then s.up SYS_EVT.ACCESS_FAULT else s) 0x08 ccDenied a
  else if s.sramPoisonIn r core a n then .exc (s.sramUe r core a n) 0x09 ccUe a
  else
    let s := s.mendSram r core a n
    let m := 2 ^ (8 * n)
    let old := ofLe (s.sramBytes r core a n)
    let new := f old ((s.greg t rb).toNat % m) ((s.greg t rd).toNat % m) % m
    .go ((s.putSram r core a (leBytes n new)).setG t rd (ext old))

/-- The new values of R156, by the old one, the operand and the value expected. -/
def atAdd (old b _e : Nat) : Nat := old + b
def atAnd (old b _e : Nat) : Nat := old &&& b
def atOr (old b _e : Nat) : Nat := old ||| b
def atXor (old b _e : Nat) : Nat := old ^^^ b
def atSwap (_old b _e : Nat) : Nat := b
def atCas (old b e : Nat) : Nat := if old = e then b else old

/-- The 4-byte form issues. -/
def State.atomicW (s : State) (t : Tid) (rd ra rb : GReg) (f : Nat → Nat → Nat → Nat) : State :=
  s.issue t (fun s => s.atomic t rd ra rb 4 f (sextBits 32))

/-- The 8-byte form issues. -/
def State.atomicD (s : State) (t : Tid) (rd ra rb : GReg) (f : Nat → Nat → Nat → Nat) : State :=
  s.issue t (fun s => s.atomic t rd ra rb 8 f (BitVec.ofNat 64))

def execAaddw (t : Tid) (rd ra rb : GReg) (s : State) : Out := .next (s.atomicW t rd ra rb atAdd)
def execAandw (t : Tid) (rd ra rb : GReg) (s : State) : Out := .next (s.atomicW t rd ra rb atAnd)
def execAorw (t : Tid) (rd ra rb : GReg) (s : State) : Out := .next (s.atomicW t rd ra rb atOr)
def execAxorw (t : Tid) (rd ra rb : GReg) (s : State) : Out := .next (s.atomicW t rd ra rb atXor)
def execAswpw (t : Tid) (rd ra rb : GReg) (s : State) : Out := .next (s.atomicW t rd ra rb atSwap)
def execAcasw (t : Tid) (rd ra rb : GReg) (s : State) : Out := .next (s.atomicW t rd ra rb atCas)
def execAaddd (t : Tid) (rd ra rb : GReg) (s : State) : Out := .next (s.atomicD t rd ra rb atAdd)
def execAandd (t : Tid) (rd ra rb : GReg) (s : State) : Out := .next (s.atomicD t rd ra rb atAnd)
def execAord (t : Tid) (rd ra rb : GReg) (s : State) : Out := .next (s.atomicD t rd ra rb atOr)
def execAxord (t : Tid) (rd ra rb : GReg) (s : State) : Out := .next (s.atomicD t rd ra rb atXor)
def execAswpd (t : Tid) (rd ra rb : GReg) (s : State) : Out := .next (s.atomicD t rd ra rb atSwap)
def execAcasd (t : Tid) (rd ra rb : GReg) (s : State) : Out := .next (s.atomicD t rd ra rb atCas)

end Sys2Proof.Machine
end

