-- ==== Sys2Proof/Machine/LumCmds.lean ====
section
/-!
DEFINITION. Sys2Proof/Machine/LumCmds.lean: the commands of the register bus and of the lumen array (R104 to R137, R410).
-/

namespace Sys2Proof.Machine

/-- REGISTER_WRITE (R10): A write to a register without behaviour of its own, including W1C and W1S fields. -/
def execRegisterWrite (r : Req) (addr : Nat) (v : Word) (s : State) : Out :=
  .next (s.cmdIf (isReg addr) (fun s => (s.regWrite r addr v).2))

/-- SNAPSHOT_READ (R35): A read of the lowest word of a multi-word value latches the other words for the requester. -/
def execSnapshotRead (r : Req) (addr : Nat) (s : State) : Out :=
  .next (s.cmdIf (isReg addr) (fun s => (s.regRead r addr).2.2))

/-- TIMER_ARM (R112): A write of LUM_T_TMRn_HI arms a thread timer. -/
def execTimerArm (r : Req) (t n : Nat) (v : Word) (s : State) : Out :=
  .next (s.cmdIf (decide (t < 128) && decide (n < 2)) (fun s => (s.regWrite r (LUM_T_TMR_HI.addr t n) v).2))

/-- TIMER_FIRE (R112): The counter reaches a timer's compare value; the sticky bit sets and the timer disarms or
reloads. -/
def execTimerFire (t n : Nat) (s : State) : Out :=
  .next (s.cmdIf (decide (t < 128) && decide (n < 2)) (fun s => s.tmrReach t n))

/-- SOFT_SET (R109): A write of LUM_T_SOFT sets the thread's SOFT event. -/
def execSoftSet (r : Req) (t : Nat) (v : Word) (s : State) : Out :=
  .next (s.cmdIf (decide (t < 128)) (fun s => (s.regWrite r (LUM_T_SOFT.addr t) v).2))

/-- DB_SET (R127): A write of LUM_DB_SET sets a core's doorbell bits. -/
def execDbSet (r : Req) (core : Nat) (v : Word) (s : State) : Out :=
  .next (s.cmdIf (decide (core < 32)) (fun s => (s.regWrite r (LUM_DB_SET.addr core) v).2))

/-- THREAD_START (R108): LUM command: starts a thread at an address in its initial state. -/
def execThreadStart (_r : Req) (s : State) : Out :=
  .next (s.cmd (fun s => s.command 1 LUM_STAT.addr State.lumStart))

/-- THREAD_STOP (R132): LUM command: stops a thread at an instruction boundary. -/
def execThreadStop (_r : Req) (s : State) : Out :=
  .next (s.cmd (fun s => s.command 1 LUM_STAT.addr State.lumStop))

/-- CORE_RESET (R133): LUM command: writes back caches, empties channels and clears a stopped core's state. -/
def execCoreReset (_r : Req) (s : State) : Out :=
  .next (s.cmd (fun s => s.command 1 LUM_STAT.addr State.lumReset))

/-- CACHE_SYNC (R137): LUM command: writes back or invalidates a core's caches. -/
def execCacheSync (_r : Req) (s : State) : Out :=
  .next (s.cmd (fun s => s.command 1 LUM_STAT.addr State.lumSync))

/-- DVFS (R114): LUM command: changes a cluster's operating point. -/
def execDvfs (_r : Req) (s : State) : Out :=
  .next (s.cmd (fun s => s.command 1 LUM_STAT.addr State.lumDvfs))

/-- DVFS_DONE (R114): A cluster's supply ramp ends and the DVFS change completes. -/
def execDvfsDone (c : Nat) (s : State) : Out :=
  .next (s.cmdIf (decide (c < 8)) (fun s => s.dvfsDone c))

/-- THREAD_RESTART (R130): 10 ms after a fault, Cirque restarts a thread with RESTART set. -/
def execThreadRestart (t : Nat) (s : State) : Out :=
  .next (s.cmdIf (decide (t < 128)) (fun s => s.threadRestart t))

/-- MBX_TX_WRITE (R410): A write of MBX_TX sends a word from agent 32 to 35 on its channel. -/
def execMbxTxWrite (r : Req) (agent rcv : Nat) (v : Word) (s : State) : Out :=
  .next (s.cmdIf (decide (32 ≤ agent) && decide (agent < 36) && decide (rcv < 36))
    (fun s => (s.regWrite r (mbxBase agent + 4 * rcv) v).2))

/-- MBX_RX_READ (R410): An agent's read of its own MBX_RX takes the word, clears FULL and signals EMPTY. -/
def execMbxRxRead (r : Req) (agent snd : Nat) (s : State) : Out :=
  .next (s.cmdIf (decide (32 ≤ agent) && decide (agent < 36) && decide (snd < 36))
    (fun s => (s.regRead r (mbxBase agent + 0x100 + 4 * snd)).2.2))

/-- MBX_DB_SET (R435): A write of MBX_DB_SET sets pending doorbells of agent 32 to 35. -/
def execMbxDbSet (r : Req) (agent : Nat) (v : Word) (s : State) : Out :=
  .next (s.cmdIf (decide (32 ≤ agent) && decide (agent < 36)) (fun s => (s.regWrite r (mbxBase agent + 0x214) v).2))

end Sys2Proof.Machine
end

