-- ==== Sys2Proof/Machine/MeltCmds.lean ====
section
/-!
DEFINITION. Sys2Proof/Machine/MeltCmds.lean: the commands and events of Meltwater (R225 to R253).
-/

namespace Sys2Proof.Machine

/-- SIG_CAPTURE (R246): MELT command: starts a signature capture. -/
def execSigCapture (_r : Req) (s : State) : Out :=
  .next (s.cmd (fun s => s.command 4 MELT_STAT.addr State.sigCapture))

/-- ENERGY_PRESET (R253): MELT command: presets an accumulator at the next block end. -/
def execEnergyPreset (_r : Req) (s : State) : Out :=
  .next (s.cmd (fun s => s.command 4 MELT_STAT.addr State.energyPreset))

/-- XCAL_RESET (R234): MELT command: resets a feeder's cross-calibration. -/
def execXcalReset (_r : Req) (s : State) : Out :=
  .next (s.cmd (fun s => s.command 4 MELT_STAT.addr State.xcalReset))

/-- RECON_RESET (R253): MELT command: clears a feeder's alarms, counts and RESID. -/
def execReconReset (_r : Req) (s : State) : Out :=
  .next (s.cmd (fun s => s.command 4 MELT_STAT.addr State.reconReset))

/-- MELT_CTRL_WRITE (R241): A write of MELT_CTRL checks INTERVAL and the reconciliation region. -/
def execMeltCtrlWrite (r : Req) (v : Word) (s : State) : Out :=
  .next (s.cmd (fun s => (s.regWrite r MELT_CTRL.addr v).2))

/-- BLOCK_END (R235): A 200 ms block ends; quantities, energies and range switching are updated. -/
def execBlockEnd (meas : List PodWords) (s : State) : Out :=
  .next (s.cmdIf (meas.all (fun b => decide (b.feeder < 16))) (fun s => s.blockEnds meas))

/-- SECOND_LATCH (R237): 2 ms after a second the 1 s registers are latched. -/
def execSecondLatch (s : State) : Out :=
  .next (s.cmd State.secondLatch)

/-- INTERVAL_CLOSE (R242): An interval closes and its energies are latched. -/
def execIntervalClose (s : State) : Out :=
  .next (s.cmd State.intervalClose)

/-- RECONCILE (R248): At close plus 2 s feeder energy is shared among lanterns. -/
def execReconcile (s : State) : Out :=
  .next (s.cmd State.reconcile)

/-- HARMONIC_WINDOW (R240): A harmonic window ends and harmonics are computed. -/
def execHarmonicWindow (feeder sig : Nat) (words : List Nat) (s : State) : Out :=
  .next (s.cmdIf (decide (feeder < 16) && decide (sig < 8)) (fun s => s.harmonics feeder sig words))

/-- PULSE_EMIT (R243): A pulse accumulator reaches K and a pulse is emitted or discarded. -/
def execPulseEmit (n : Nat) (s : State) : Out :=
  .next (s.cmdIf (decide (n < 16)) (fun s => s.pulseEmit n))

/-- SIG_SETTLE_END (R246): SETTLE after a capture start, the lamp estimate is computed. -/
def execSigSettleEnd (feeder : Nat) (s : State) : Out :=
  .next (s.cmdIf (decide (feeder < 16)) (fun s => s.sigSettleEnd feeder))

/-- POD_LOST (R228): Loss of DCLK or parity errors mark a pod absent. -/
def execPodLost (feeder : Nat) (words : List Nat) (s : State) : Out :=
  .next (s.cmdIf (decide (feeder < 16)) (fun s => s.podLost feeder words))

/-- POD_FOUND (R228): Alignment held for 100 ms marks a pod present. -/
def execPodFound (feeder : Nat) (lane : PodLane) (s : State) : Out :=
  .next (s.cmdIf (decide (feeder < 16)) (fun s => s.podFound feeder lane.portB lane.bits))

/-- LOW_PATH_OVERLOAD (R233): A low-path sample reaching 15/16 of full scale switches the phase to the normal path at
once. -/
def execLowPathOverload (phase : Nat) (part : PodWords) (s : State) : Out :=
  .next (s.cmdIf (decide (phase < 3) && decide (part.feeder < 16)) (fun s => s.overload phase part))

/-- CLIP (R231): A normal-path sample at full scale sets MELT_POD.CLIP and MELT_EVT.CLIP. -/
def execClip (feeder : Nat) (s : State) : Out :=
  .next (s.cmdIf (decide (feeder < 16)) (fun s => s.clipped feeder))

/-- PULSE_END (R244): WIDTH ms after a pulse closes, the output opens and its gap begins. -/
def execPulseEnd (n : Nat) (s : State) : Out :=
  .next (s.cmdIf (decide (n < 16)) (fun s => s.pulseEnd n))

end Sys2Proof.Machine
end

