-- ==== Sys2Proof/Machine/Mgmt.lean ====
section
/-!
DEFINITION. Sys2Proof/Machine/Mgmt.lean: the management host on M: its session and the messages of its protocol
(R408, R409). What a message answers stands in `out`.
-/

namespace Sys2Proof.Machine

/-- The management host as a requester (R36) and as a mailbox agent (R408). -/
abbrev host : Req := 131
abbrev hostAgent : Nat := 35

/-! ## The session (R408) -/

/-- Can the module present what TLS with mutual authentication asks of it: the certificate that CERT_SET stored for its slot 0
key, and the trust anchor of slot 1 (R408)? -/
def State.mgmtIdentity (s : State) : Bool := !s.vlt.cert.isEmpty && s.rdy 3 && !(s.slot 0).key.isEmpty && !(s.slot 1).key.isEmpty

/-- A session opens. -/
def State.mgmtOpen (s : State) (plain : Bool) : State :=
  { (s.up CRQ_MGMT.SESSION).up CRQ_EVT.MGMT with crq := { s.crq with plainMgmt := plain } }

/-- MGMT_CONNECT: a session opens where the protocol runs and none is open; a further connection is reset. While the vault is not
provisioned the protocol runs without TLS on PORT + 1; once it is, on PORT under TLS, where the module and the host
authenticate each other. Whether the host's chain ends at the anchor of slot 1 the command does not say: a free choice
(log entry 48). -/
def State.mgmtConnect (s : State) : State :=
  if !s.rails || !s.on CRQ_MGMT.EN || s.on CRQ_MGMT.SESSION then s
  else if !s.on VLT_STATUS.PROVISIONED then s.mgmtOpen true
  else if !s.mgmtIdentity then s
  else
    let (x, s) := s.draw
    if x % 2 = 0 then s else s.mgmtOpen false

/-- MGMT_DISCONNECT. -/
def State.mgmtDisconnect (s : State) : State :=
  if s.rails && s.on CRQ_MGMT.SESSION then (s.down CRQ_MGMT.SESSION).up CRQ_EVT.MGMT else s

/-- The answer to a request: TYPE, code, SEQ, payload. -/
def State.answer (s : State) (typ cc seq : Nat) (data : List Byte) : State := s.say [.reply typ cc seq data]

/-- A request: nothing without a session; DENIED for what a session without TLS, or a vault that is not provisioned, does not
accept (R408). -/
def State.mgmt (s : State) (typ seq : Nat) (bare : Bool) (f : State → Nat × List Byte × State) : State :=
  if !s.rails || !s.on CRQ_MGMT.SESSION then s
  else if !bare && (s.crq.plainMgmt || !s.on VLT_STATUS.PROVISIONED) then s.answer typ ccDenied seq []
  else
    let (cc, d, s) := f s
    s.answer typ cc seq d

/-! ## READ and WRITE -/

/-- A word read by the host: registers and DRAM (R22). -/
def State.hostRead (s : State) (a : Nat) : Nat × Word × State :=
  if a + 4 ≤ 2 ^ 36 then
    match s.dmaRead a 4 with
    | some bs => (ccOk, BitVec.ofNat 32 (ofLe bs), s.dmaMet a 4)
    | none => let (cc, s) := s.dmaFail a 4; (cc, 0, s)
  else if isReg a then s.regRead host a
  else (ccDenied, 0, s.up SYS_EVT.ACCESS_FAULT)

/-- A word written by the host. -/
def State.hostWrite (s : State) (a : Nat) (v : Word) : Nat × State :=
  if a + 4 ≤ 2 ^ 36 then s.dmaWrite a (leBytes 4 v.toNat)
  else if isReg a then s.regWrite host a v
  else (ccDenied, s.up SYS_EVT.ACCESS_FAULT)

/-- Words read one by one up to the first that fails: its code, and the words before it. -/
def hostReads : Nat → Nat → State → Nat × List Byte × State
  | 0, _, s => (ccOk, [], s)
  | n + 1, a, s =>
    let (cc, v, s) := s.hostRead a
    if cc ≠ ccOk then (cc, [], s)
    else
      let (cc, d, s) := hostReads n (a + 4) s
      (cc, leBytes 4 v.toNat ++ d, s)

/-- Words written one by one up to the first that fails. -/
def hostWrites : List Word → Nat → State → Nat × List Byte × State
  | [], _, s => (ccOk, [], s)
  | v :: vs, a, s =>
    let (cc, s) := s.hostWrite a v
    if cc ≠ ccOk then (cc, [], s) else hostWrites vs (a + 4) s

/-- READ. -/
def State.mgmtRead (s : State) (seq a n : Nat) : State :=
  s.mgmt 0x01 seq false (fun s => if n = 0 || 256 < n then (ccRange, [], s) else hostReads n a s)

/-- WRITE. -/
def State.mgmtWrite (s : State) (seq a : Nat) (ws : List Word) : State :=
  s.mgmt 0x02 seq false (hostWrites ws a)

/-! ## Mailboxes and doorbells of agent 35 -/

/-- MBX_SEND. -/
def State.mgmtMbxSend (s : State) (seq rcv : Nat) (v : Word) : State :=
  s.mgmt 0x03 seq false (fun s =>
    let (cc, s) := s.mbxSend hostAgent rcv host v
    (cc, [], s))

/-- MBX_RECV. -/
def State.mgmtMbxRecv (s : State) (seq snd : Nat) : State :=
  s.mgmt 0x04 seq false (fun s =>
    let (cc, v, s) := s.mbxRecv snd hostAgent
    (cc, leBytes 4 v.toNat, s))

/-- DB_TAKE. -/
def State.mgmtDbTake (s : State) (seq : Nat) (bits : Word) : State :=
  s.mgmt 0x05 seq false (fun s =>
    (ccOk, leBytes 4 (s.rd (MBX_DB.PEND hostAgent)), s.unring hostAgent bits.toNat))

/-! ## ICE_READ, IMAGE_PUSH, PROVISION, STATUS -/

/-- The 288 bytes of an icecore slot. -/
def State.slotBytes (s : State) (slot : Nat) : List Byte :=
  ((List.range 72).map (fun k => leBytes 4 (s.iceWord slot k).toNat)).flatten

/-- ICE_READ. -/
def State.mgmtIceRead (s : State) (seq slot n : Nat) : State :=
  s.mgmt 0x06 seq false (fun s =>
    if n = 0 || 64 < n || 28672 < slot + n then (ccRange, [], s)
    else (ccOk, ((List.range n).map (fun k => s.slotBytes (slot + k))).flatten, s))

/-- IMAGE_PUSH. -/
def State.mgmtImagePush (s : State) (seq off : Nat) (d : List Byte) : State :=
  s.mgmt 0x07 seq true (fun s =>
    let (cc, s) := s.imagePush off d
    (cc, [], s))

/-- PROVISION (R417): the trust anchor stands in bytes 0 to 96 of the record; the slot 0 public key is answered. -/
def State.mgmtProvision (s : State) (seq : Nat) (rec : List Byte) : State :=
  s.mgmt 0x08 seq true (fun s =>
    if !s.rdy 3 then (ccBusy, [], s)
    else if !s.mayProvision then (ccDenied, [], s)
    else if rec.length < 97 || (pointOf (rec.take 97)).isNone then (ccRange, [], s)
    else
      let (pub, s) := s.provisionWith (rec.take 97)
      (ccOk, pub, s.bootTry))

/-- STATUS. -/
def State.mgmtStatus (s : State) (seq : Nat) : State :=
  s.mgmt 0x09 seq true (fun s =>
    (ccOk, ([SYS_MODE.addr, SYS_READY.addr] ++ (List.range 3).flatMap (fun k => [ICF_SLOT.addr k, ICF_SLOT_VER.addr k])).flatMap
      (fun a => leBytes 4 (s.reg a).toNat) ++ leBytes 8 Config.serial, s))

/-! ## The commands -/

def execMgmtConnect (s : State) : Out := .next (s.cmd State.mgmtConnect)
def execMgmtDisconnect (s : State) : Out := .next (s.cmd State.mgmtDisconnect)
def execMgmtRead (seq addr count : Nat) (s : State) : Out := .next (s.cmd (fun s => s.mgmtRead seq addr count))
def execMgmtWrite (seq addr : Nat) (ws : List Word) (s : State) : Out :=
  .next (s.cmd (fun s => s.mgmtWrite seq addr ws))
def execMbxSend (seq rcv : Nat) (v : Word) (s : State) : Out := .next (s.cmd (fun s => s.mgmtMbxSend seq rcv v))
def execMbxRecv (seq snd : Nat) (s : State) : Out := .next (s.cmd (fun s => s.mgmtMbxRecv seq snd))
def execDbTake (seq : Nat) (bits : Word) (s : State) : Out := .next (s.cmd (fun s => s.mgmtDbTake seq bits))
def execIceRead (seq slot count : Nat) (s : State) : Out := .next (s.cmd (fun s => s.mgmtIceRead seq slot count))
def execImagePush (seq off : Nat) (data : List Byte) (s : State) : Out :=
  .next (s.cmd (fun s => s.mgmtImagePush seq off data))
def execMgmtProvision (seq : Nat) (rec : List Byte) (s : State) : Out := .next (s.cmd (fun s => s.mgmtProvision seq rec))
def execMgmtStatus (seq : Nat) (s : State) : Out := .next (s.cmd (fun s => s.mgmtStatus seq))

end Sys2Proof.Machine
end

