-- ==== Sys2Proof/Machine/ModeCmds.lean ====
section
/-!
DEFINITION. Sys2Proof/Machine/ModeCmds.lean: the commands and events of the modes, the contactors and fallback (R355 to R373).
-/

namespace Sys2Proof.Machine

/-- ISLAND_READY: a block that reports ready forgets its latches (R37), and Cirque's start goes on (R363). -/
def State.reportReady (s : State) (bit : Nat) : State :=
  let new (blk : Nat) : Bool := if blk = 1 then 10 ≤ bit && bit < 18 && !s.blkReady 1 else readyBit blk == some bit && !s.rdy bit
  (((List.range 16).filter new).foldl State.dropLatches (s.islandReady bit)).bootTry

/-- MODE_REQUEST (R357): A write of SYS_MODE_REQ requests a mode change. -/
def execModeRequest (r : Req) (v : Word) (s : State) : Out :=
  .next (s.cmd (fun s => (s.regWrite r SYS_MODE_REQ.addr v).2))

/-- OUT_PERMIT_WRITE (R356): A write of SYS_OUT_PERMIT in COMMISSION opens or closes output gates. -/
def execOutPermitWrite (r : Req) (v : Word) (s : State) : Out :=
  .next (s.cmd (fun s => (s.regWrite r SYS_OUT_PERMIT.addr v).2))

/-- CTR_OWN_WRITE (R369): A write of SYS_CTR.OWN moves a contactor between Rime and program, loading CMD from
RIME_OUT. -/
def execCtrOwnWrite (r : Req) (n : Nat) (v : Word) (s : State) : Out :=
  .next (s.cmdIf (decide (n < 4)) (fun s => (s.regWrite r (SYS_CTR.addr n) v).2))

/-- CTR_CMD_WRITE (R367): A write of SYS_CTR.CMD commands a program-owned contactor. -/
def execCtrCmdWrite (r : Req) (n : Nat) (v : Word) (s : State) : Out :=
  .next (s.cmdIf (decide (n < 4)) (fun s => (s.regWrite r (SYS_CTR.addr n) v).2))

/-- ECC_CE_CLEAR (R39): Writing SYS_ECC_CE.CLR sets the correctable count to 0. -/
def execEccCeClear (r : Req) (v : Word) (s : State) : Out :=
  .next (s.cmd (fun s => (s.regWrite r SYS_ECC_CE.addr v).2))

/-- PWRON_N (R362): PWRON_N asserted with a feed brings up the rails in RECOVERY and runs the boot ROM. -/
def execPwronN (s : State) : Out :=
  .next (s.cmd State.pwron)

/-- ISLAND_READY (R362): An island ends its self-test and sets its ready bit. -/
def execIslandReady (bit : Nat) (s : State) : Out :=
  .next (s.cmd (fun s => s.reportReady bit))

/-- FALLBACK (R368): 50 ms without HOLD on either module passes contactors to the Rime rules. -/
def execFallback (s : State) : Out :=
  .next (s.cmd State.fallback)

/-- AUTO_ISLAND (R371): No lead and no uplink for DELAY seconds enter ISLANDED. -/
def execAutoIsland (s : State) : Out :=
  .next (s.cmd State.autoIsland)

/-- AUTO_RETURN (R372): Lead and uplink back for DELAY seconds return to SERVICE. -/
def execAutoReturn (s : State) : Out :=
  .next (s.cmd State.autoReturn)

end Sys2Proof.Machine
end

