-- ==== Sys2Proof/Machine/PacketCmds.lean ====
section
/-!
DEFINITION. Sys2Proof/Machine/PacketCmds.lean: the commands and events of the ports, Serac and Snowpack (R277 to R309).
-/

namespace Sys2Proof.Machine

/-- ETH_RX (R280): An Ethernet frame is received whole and classified, forwarded or queued. -/
def execEthRx (port : Nat) (f : EthFrame) (s : State) : Out :=
  .next (s.cmdIf (decide (port < 6)) (fun s => s.ethRx port f))

/-- PAUSE (R282): A received PAUSE halts the port's egress queues. -/
def execPause (port quanta : Nat) (s : State) : Out :=
  .next (s.cmdIf (decide (port < 6)) (fun s => s.rxPause port quanta))

/-- PFC (R282): A received PFC halts enabled priorities. -/
def execPfc (port vector : Nat) (quanta : List Nat) (s : State) : Out :=
  .next (s.cmdIf (decide (port < 6)) (fun s => s.rxPfc port vector quanta))

/-- PAUSE_EXPIRY (R282): A pause time ends and the priority resumes. -/
def execPauseExpiry (port pri : Nat) (s : State) : Out :=
  .next (s.cmdIf (decide (port < 6) && decide (pri < 8)) (fun s => s.pauseExpiry port pri))

/-- PAUSE_REPEAT (R283): While the pool stays below XOFF, PAUSE is resent every 32,768 quanta. -/
def execPauseRepeat (port : Nat) (s : State) : Out :=
  .next (s.cmdIf (decide (port < 6)) (fun s => s.pauseRepeat port))

/-- LINK (R309): A port's link changes state. -/
def execLink (port speed : Nat) (up : Bool) (s : State) : Out :=
  .next (s.cmdIf (decide (port < 6)) (fun s => s.linkChange port speed up))

/-- L2_AGE (R291): A learned L2 entry unrefreshed for AGE seconds is removed. -/
def execL2Age (idx : Nat) (s : State) : Out :=
  .next (s.cmdIf (decide (idx < 65536)) (fun s => s.l2Age idx))

/-- TCAM_SCRUB (R287): Every 100 ms the prefix TCAM is scrubbed for parity. -/
def execTcamScrub (bad : List Nat) (s : State) : Out :=
  .next (s.cmd (fun s => s.tcamScrub bad))

/-- LOOKUP (R307): SRC command: looks up a key as TLOOK. -/
def execLookup (_r : Req) (s : State) : Out :=
  .next (s.cmd (fun s => s.command 6 SRC_STAT.addr State.lookupCmd))

/-- INSERT (R293): SRC command: inserts or replaces a table entry. -/
def execInsert (_r : Req) (s : State) : Out :=
  .next (s.cmd (fun s => s.command 6 SRC_STAT.addr State.insertCmd))

/-- DELETE (R307): SRC command: frees an entry. -/
def execDelete (_r : Req) (s : State) : Out :=
  .next (s.cmd (fun s => s.command 6 SRC_STAT.addr State.deleteCmd))

/-- SRC_READ (R307): SRC command: reads an entry by index. -/
def execSrcRead (_r : Req) (s : State) : Out :=
  .next (s.cmd (fun s => s.command 6 SRC_STAT.addr State.srcRead))

/-- SRC_WRITE (R307): SRC command: writes a whole entry by index. -/
def execSrcWrite (_r : Req) (s : State) : Out :=
  .next (s.cmd (fun s => s.command 6 SRC_STAT.addr State.srcWrite))

/-- Q_CFG (R298): SNOW command: sets a queue's quota, reserve and consumer. -/
def execQCfg (_r : Req) (s : State) : Out :=
  .next (s.cmd (fun s => s.command 7 SNOW_STAT.addr State.qCfg))

/-- MAXPKT_SET (R299): SNOW command: sets the maximum packet length. -/
def execMaxpktSet (_r : Req) (s : State) : Out :=
  .next (s.cmd (fun s => s.command 7 SNOW_STAT.addr State.maxpktSet))

/-- POP (R308): SNOW command: Cirque pops a queue. -/
def execPop (r : Req) (s : State) : Out :=
  .next (s.cmd (fun s => s.command 7 SNOW_STAT.addr (fun s => s.popCmd r)))

/-- PUSH (R308): SNOW command: Cirque pushes a packet. -/
def execPush (r : Req) (s : State) : Out :=
  .next (s.cmd (fun s => s.command 7 SNOW_STAT.addr (fun s => s.pushCmd r)))

/-- SA_INSTALL (R285): PORT command: installs a MACsec SA from a key slot. -/
def execSaInstall (_r : Req) (s : State) : Out :=
  .next (s.cmd (fun s => s.command 8 PORT_STAT.addr (fun s => s.saInstall s.sakOf)))

/-- SA_START_TX (R286): PORT command: selects the transmit SA. -/
def execSaStartTx (_r : Req) (s : State) : Out :=
  .next (s.cmd (fun s => s.command 8 PORT_STAT.addr State.saStartTx))

/-- SA_REMOVE (R309): PORT command: removes an SA. -/
def execSaRemove (_r : Req) (s : State) : Out :=
  .next (s.cmd (fun s => s.command 8 PORT_STAT.addr State.saRemove))

/-- EGRESS_TX_END (R281): An Ethernet port finishes sending a frame, frees its Snowpack cells and starts the next by
strict priority. -/
def execEgressTxEnd (port : Nat) (s : State) : Out :=
  .next (s.cmdIf (decide (port < 6)) (fun s => s.egressEnd port))

end Sys2Proof.Machine
end

