-- ==== Sys2Proof/Machine/PairCmds.lean ====
section
/-!
DEFINITION. Sys2Proof/Machine/PairCmds.lean: the commands and events of the pair and the floe (R330 to R354).
-/

namespace Sys2Proof.Machine

/-- HEARTBEAT_SEND (R334): Every 1 ms a heartbeat is sent on P. -/
def execHeartbeatSend (s : State) : Out :=
  .next (s.cmd State.heartbeatSend)

/-- HEARTBEAT (R334): A partner heartbeat arrives, updating role, compatibility and liveness. -/
def execHeartbeat (hb : Heartbeat) (s : State) : Out :=
  .next (s.cmd (fun s => s.heartbeat hb))

/-- PEER_LOST (R334): No heartbeat for 5 ms clears PEER_ALIVE. -/
def execPeerLost (s : State) : Out :=
  .next (s.cmd State.peerLost)

/-- TAKEOVER (R337): A standby's claim condition holds and it takes over from the mirror. -/
def execTakeover (inA inB : Bool) (s : State) : Out :=
  .next (s.cmd (fun s => s.takeover inA inB))

/-- CLAIM_RETRY (R331): After a clashed claim a random 1 to 8 ms delay ends and the claim is retried. -/
def execClaimRetry (inA inB : Bool) (s : State) : Out :=
  .next (s.cmd (fun s => s.claimRetry inA inB))

/-- WDOG_KICK (R354): Writing PAIR_WDOG.KICK restarts the HOLD watchdog. -/
def execWdogKick (r : Req) (v : Word) (s : State) : Out :=
  .next (s.cmd (fun s => (s.regWrite r PAIR_WDOG.addr (v ||| 0x8000_0000#32)).2))

/-- WDOG_EXPIRY (R332): The HOLD watchdog expires, raising F2 and releasing HOLD. -/
def execWdogExpiry (s : State) : Out :=
  .next (s.cmd State.wdogExpiry)

/-- MIRROR_UPDATE (R335): A sequence-numbered mirror update is applied by the standby and acknowledged. -/
def execMirrorUpdate (seq : Nat) (u : MirrorItem) (s : State) : Out :=
  .next (s.cmd (fun s => s.mirrorUpdate seq u))

/-- MIRROR_ACK_TIMEOUT (R335): An update unacknowledged in 500 µs proceeds and MIRROR_LOST sets. -/
def execMirrorAckTimeout (s : State) : Out :=
  .next (s.cmd State.mirrorTimeout)

/-- BULK_COPY_DONE (R336): A bulk copy ends and MIRROR_SYNC sets. -/
def execBulkCopyDone (s : State) : Out :=
  .next (s.cmd State.bulkDone)

/-- MREG_SIZE_WRITE (R354): A write of PAIR_MREG_SIZE changes a program region and starts its bulk copy. -/
def execMregSizeWrite (r : Req) (region : Nat) (v : Word) (s : State) : Out :=
  .next (s.cmdIf (decide (region < 16)) (fun s => (s.regWrite r (PAIR_MREG_SIZE.addr region) v).2))

/-- PAIR_HANDOVER (R340): PAIR command: starts a planned handover at the next frame boundary. -/
def execPairHandover (_r : Req) (s : State) : Out :=
  .next (s.cmd (fun s => s.command 10 PAIR_STAT.addr (fun s => s.handoverCmd 0)))

/-- HANDOVER_MSG (R340): The partner receives HANDOVER(T) on P and acknowledges. -/
def execHandoverMsg (tSec drill fail : Nat) (s : State) : Out :=
  .next (s.cmd (fun s => s.handoverMsg tSec drill fail))

/-- HANDOVER_RELEASE (R340): At T the active releases HOLD and the partner claims at once. -/
def execHandoverRelease (s : State) : Out :=
  .next (s.cmd State.handoverRelease)

/-- REVERT (R341): REVERT_DELAY passes and the secondary hands back to the primary. -/
def execRevert (s : State) : Out :=
  .next (s.cmd State.revert)

/-- DRILL (R342): PAIR command: starts a drill. -/
def execDrill (_r : Req) (s : State) : Out :=
  .next (s.cmd (fun s => s.command 10 PAIR_STAT.addr (fun s => s.handoverCmd 1)))

/-- DRILL_SCHEDULE (R342): A scheduled drill time is reached. -/
def execDrillSchedule (s : State) : Out :=
  .next (s.cmd State.drillSchedule)

/-- DRILL_END (R342): A drill's duration ends; HOLD is handed back and PASS or FAIL set. -/
def execDrillEnd (failMask : Nat) (s : State) : Out :=
  .next (s.cmd (fun s => s.drillStop failMask))

/-- FLOE_MODE (R350): PAIR command: the lead sends a mode PREPARE. -/
def execFloeMode (_r : Req) (s : State) : Out :=
  .next (s.cmd (fun s => s.command 10 PAIR_STAT.addr State.floeMode))

/-- MEMBER_INFO (R354): PAIR command: returns a member's beacon fields. -/
def execMemberInfo (_r : Req) (s : State) : Out :=
  .next (s.cmd (fun s => s.command 10 PAIR_STAT.addr State.memberInfo))

/-- RING_BEACON_SEND (R343): Every 10 ms a ring beacon is sent on E and W. -/
def execRingBeaconSend (s : State) : Out :=
  .next (s.cmd State.ringBeaconSend)

/-- RING_BEACON (R343): A ring beacon arrives and is delivered, forwarded and used for membership and lead. -/
def execRingBeacon (viaW : Bool) (b : Beacon) (s : State) : Out :=
  .next (s.cmdIf (decide (b.src < 1024)) (fun s => s.ringBeacon viaW b))

/-- MEMBER_TIMEOUT (R344): A member's beacons are absent for 30 ms and it leaves membership. -/
def execMemberTimeout (idx : Nat) (s : State) : Out :=
  .next (s.cmdIf (decide (idx < 1024)) (fun s => s.memberTimeout idx))

/-- SPAN_BREAK (R345): A span's link fails or beacons stop for 30 ms and the ring wraps. -/
def execSpanBreak (west : Bool) (s : State) : Out :=
  .next (s.cmd (fun s => s.spanBreak west))

/-- SPAN_RESTORED (R345): Beacons cross a span for 1 s and the wrap ends. -/
def execSpanRestored (west : Bool) (s : State) : Out :=
  .next (s.cmd (fun s => s.spanRestored west))

/-- LEAD_CHANGE (R347): The lead role changes on loss or after 10 s of a lower candidate. -/
def execLeadChange (s : State) : Out :=
  .next (s.cmd State.leadChange)

/-- PREPARE (R349): A PREPARE from the lead arrives and is answered READY or REFUSE. -/
def execPrepare (h : RingHdr) (term id kind target epochS epochNs : Nat) (s : State) : Out :=
  .next (s.cmd (fun s => s.prepare h term id kind target epochS epochNs))

/-- READY (R350): The lead receives a READY. -/
def execReady (h : RingHdr) (id : Nat) (s : State) : Out :=
  .next (s.cmd (fun s => s.floeReady h id))

/-- REFUSE (R350): The lead receives a REFUSE and sends ABORT. -/
def execRefuse (h : RingHdr) (id code : Nat) (s : State) : Out :=
  .next (s.cmd (fun s => s.floeRefuse h id code))

/-- PREPARE_TIMEOUT (R350): 250 ms after a PREPARE without all READY the lead aborts. -/
def execPrepareTimeout (s : State) : Out :=
  .next (s.cmd State.prepareTimeout)

/-- PREPARE_WAIT_EXPIRY (R76): No floe commit sealed within 200 ms of a frame prepare; REFUSE is sent. -/
def execPrepareWaitExpiry (s : State) : Out :=
  .next (s.cmd State.prepareWaitExpiry)

/-- FLOE_ABORT (R350): An ABORT from the lead arrives for a pending change. -/
def execFloeAbort (h : RingHdr) (term id : Nat) (s : State) : Out :=
  .next (s.cmd (fun s => s.floeAbort h term id))

/-- ABORT_REPEAT (R350): The lead repeats ABORT every 10 ms until epoch plus 1 s. -/
def execAbortRepeat (s : State) : Out :=
  .next (s.cmd State.abortRepeat)

/-- FLOE_EPOCH (R350): A floe change's epoch arrives and READY participants switch. -/
def execFloeEpoch (s : State) : Out :=
  .next (s.cmd State.floeEpoch)

/-- SKEW_CHECK (R351): After an epoch the lead compares beacons and sends SET to disagreeing modules. -/
def execSkewCheck (s : State) : Out :=
  .next (s.cmd State.skewCheck)

/-- SET (R351): A SET from the lead arrives and is applied as a mode transition. -/
def execSet (h : RingHdr) (term mode dst : Nat) (s : State) : Out :=
  .next (s.cmd (fun s => s.floeSet h term mode dst))

/-- SET_REPEAT (R351): The lead repeats SET every 10 ms to a module whose beacon still disagrees. -/
def execSetRepeat (s : State) : Out :=
  .next (s.cmd State.setRepeat)

/-- HOLD_IN_CHANGE (R368): The partner's HOLD_OUT, read as HOLD_IN, rises or falls; fallback ends on assertion and the
takeover and ILK_OPEN counts start on deassertion. -/
def execHoldInChange (asserted : Bool) (s : State) : Out :=
  .next (s.cmd (fun s => s.holdInChange asserted))

/-- PEER_PRESENT_CHANGE (R330): PEER_PRESENT asserts or deasserts as the pair cable or partner sled is fitted or
removed, changing PAIR_STATUS.PAIRED and the takeover case. -/
def execPeerPresentChange (cable : PairCable) (s : State) : Out :=
  .next (s.cmd (fun s => s.peerPresent cable))

end Sys2Proof.Machine
end

