-- ==== Sys2Proof/Machine/Prims.lean ====
section
/-!
DEFINITION. Sys2Proof/Machine/Prims.lean: the primitives of the Gnor cores (R105, R165 to R169 and the chapters that own
them).
-/

namespace Sys2Proof.Machine

/-! ## How a primitive runs -/

/-- A primitive completes at once: its outputs and CC (R168). -/
def primEnd (t : Tid) (cc : Nat) (s : State) : Res := .go (s.setCc t.val (BitVec.ofNat 8 cc))

/-- A primitive of a lumen thread: absent on Cirque (R177); in RECOVERY it ends with DENIED and outputs 0 (R105, R168). -/
def blockPrim (i : Instr) (t : Tid) (zero : State → State) (f : State → Res) (s : State) : Res :=
  if t.val = 128 then illegal i s
  else if s.mode = 1 then primEnd t ccDenied (zero s)
  else f s

/-! ## Snowpack and Serac (R288, R303, R305) -/

/-- QPUSH. -/
def execQpush (t : Tid) (ra rb : GReg) (w : WReg) (s : State) : Out :=
  .next (s.cmd (fun s => s.issue t (blockPrim (.qpush t ra rb w) t id (fun s =>
    let (cc, s) := s.push (s.greg t ra).toNat (s.greg t rb).toNat (s.wreg t w).toNat
    primEnd t cc s))))

/-- QPOP. -/
def execQpop (t : Tid) (rd ra : GReg) (w : WReg) (s : State) : Out :=
  .next (s.cmd (fun s => s.issue t (blockPrim (.qpop t rd ra w) t (fun s => (s.setG t rd 0).setW t w 0) (fun s =>
    let (o, s) := s.pop 1 t.val (s.greg t ra).toNat
    primEnd t o.cc ((s.setG t rd (BitVec.ofNat 64 o.rd)).setW t w o.w)))))

/-- TLOOK. -/
def execTlook (t : Tid) (rd ra : GReg) (w : WReg) (table : BitVec 2) (s : State) : Out :=
  .next (s.cmd (fun s => s.issue t (blockPrim (.tlook t rd ra w table) t (fun s => (s.setG t rd 0).setW t w 0) (fun s =>
    if !s.rdy 6 then primEnd t ccBusy ((s.setG t rd 0).setW t w 0)
    else
      let (o, s) := s.lookup table.toNat (s.greg t ra).toNat (s.wreg t w).toNat
      primEnd t o.cc ((s.setG t rd (BitVec.ofNat 64 o.idx)).setW t w (BitVec.ofNat 128 o.w))))))

/-! ## The time engine (R274) -/

/-- TLAUNCH. -/
def execTlaunch (t : Tid) (rd ra rb : GReg) (w : WReg) (s : State) : Out :=
  .next (s.cmd (fun s => s.issue t (blockPrim (.tlaunch t rd ra rb w) t (fun s => s.setG t rd 0) (fun s =>
    let (cc, x, s) := s.tlaunchOp (s.greg t ra).toNat (s.greg t rb).toNat (s.wreg t w)
    primEnd t cc (s.setG t rd (BitVec.ofNat 64 x))))))

/-! ## Firn (R60, R85, R98 to R102) -/

/-- FWRITE. -/
def execFwrite (t : Tid) (ra : GReg) (w : WReg) (s : State) : Out :=
  .next (s.cmd (fun s => s.issue t (blockPrim (.fwrite t ra w) t id (fun s =>
    let (cc, s) := s.fwrite (s.greg t ra).toNat (s.wreg t w)
    primEnd t cc s))))

/-- FREAD. -/
def execFread (t : Tid) (ra : GReg) (w : WReg) (sel : BitVec 4) (s : State) : Out :=
  .next (s.cmd (fun s => s.issue t (blockPrim (.fread t ra w sel) t (fun s => s.setW t w 0) (fun s =>
    let (cc, v, s) := s.fread (s.greg t ra).toNat sel.toNat
    primEnd t cc (s.setW t w v)))))

/-- SURGE. -/
def execSurge (t : Tid) (ra rb : GReg) (s : State) : Out :=
  .next (s.cmd (fun s => s.issue t (blockPrim (.surge t ra rb) t id (fun s =>
    let (cc, s) := s.surge (s.greg t ra).toNat (s.greg t rb).toNat
    primEnd t cc s))))

/-- COMMIT: where its check goes on, the thread waits for COMMIT_CHECK_END. -/
def execCommit (t : Tid) (w : WReg) (s : State) : Out :=
  .next (s.cmd (fun s => s.issue t (blockPrim (.commit t w) t id (fun s =>
    match s.commitStart t.val (s.wreg t w) with
    | (some cc, s) => primEnd t cc s
    | (none, s) => .go ((s.setPrim t (some .commit)).setTh t thStalled)))))

/-! ## Mailboxes, doorbells and WAIT (R110, R123 to R127), which run in RECOVERY too -/

/-- MBXS (R123). -/
def execMbxs (t : Tid) (ra rb : GReg) (s : State) : Out :=
  .next (s.cmd (fun s => s.issue t (notCirque (.mbxs t ra rb) t (fun s =>
    let (cc, s) := s.mbxSend (coreOf t) (s.greg t ra).toNat t.val ((s.greg t rb).setWidth 32)
    primEnd t cc s))))

/-- MBXR (R124). -/
def execMbxr (t : Tid) (rd ra : GReg) (s : State) : Out :=
  .next (s.cmd (fun s => s.issue t (notCirque (.mbxr t rd ra) t (fun s =>
    let (cc, v, s) := s.mbxRecv (s.greg t ra).toNat (coreOf t)
    primEnd t cc (s.setG t rd (v.setWidth 64))))))

/-- DBELL RING (R126). -/
def execDbellRing (t : Tid) (ra rb : GReg) (s : State) : Out :=
  .next (s.cmd (fun s => s.issue t (notCirque (.dbellRing t ra rb) t (fun s =>
    let agent := (s.greg t ra).toNat
    if 35 < agent then primEnd t ccRange s
    else if s.agentDown agent then primEnd t ccBusy s
    else primEnd t ccOk (s.ring agent ((s.greg t rb).setWidth 32 : Word).toNat)))))

/-- DBELL TAKE (R126): the doorbells of the caller's core before the given bits clear. -/
def execDbellTake (t : Tid) (rd ra : GReg) (s : State) : Out :=
  .next (s.cmd (fun s => s.issue t (notCirque (.dbellTake t rd ra) t (fun s =>
    let old := s.reg (LUM_DB.addr (coreOf t))
    primEnd t ccOk ((s.unring (coreOf t) ((s.greg t ra).setWidth 32 : Word).toNat).setG t rd (old.setWidth 64))))))

/-- DBELL MASK (R126). -/
def execDbellMask (t : Tid) (ra : GReg) (s : State) : Out :=
  .next (s.cmd (fun s => s.issue t (notCirque (.dbellMask t ra) t (fun s =>
    primEnd t ccOk (s.setReg (LUM_T_DBMASK.addr t) ((s.greg t ra).setWidth 32))))))

/-- WAIT (R110): at once where an event is pending or nothing could end it, else the thread waits. -/
def execWait (t : Tid) (rd ra : GReg) (s : State) : Out :=
  .next (s.issue t (notCirque (.wait t rd ra) t (fun s =>
    let us := (s.greg t ra).toNat
    let v := s.wakeBits t
    if 2 ^ 32 ≤ us then primEnd t ccRange (s.setG t rd 0)
    else if v ≠ 0 then .go (s.waitReturn t rd v)
    else if us = 0 && s.evmask t == 0 then primEnd t ccRange (s.setG t rd 0)
    else .go ((s.setPrim t (some (.wait rd (if us = 0 then none else some (s.ctr + usTicks us))))).setTh t thWaiting))))

/-- WAIT_TIMEOUT (R110): the timeout of a WAIT passes first. -/
def State.waitTimeout (s : State) (t : Tid) : State :=
  let s := s.settleWait t
  match s.prim t with
  | some (.wait rd (some d)) => (s.reachCtr d).waitLate t rd
  | _ => s

def execWaitTimeout (t : Tid) (s : State) : Out := .next (s.waitTimeout t)

/-! ## Moraine, Meltwater, the icecore (R251, R328, R402) -/

/-- EPUT. -/
def execEput (t : Tid) (rd ra rb : GReg) (w : WReg) (s : State) : Out :=
  .next (s.cmd (fun s => s.issue t (blockPrim (.eput t rd ra rb w) t (fun s => s.setG t rd 0) (fun s =>
    let (cc, x, s) := s.eputOp (s.greg t ra).toNat (s.greg t rb).toNat (s.wreg t w)
    primEnd t cc (s.setG t rd (BitVec.ofNat 64 x))))))

/-- MREAD. -/
def execMread (t : Tid) (rd ra : GReg) (w : WReg) (sel : BitVec 3) (s : State) : Out :=
  .next (s.cmd (fun s => s.issue t (blockPrim (.mread t rd ra w sel) t (fun s => (s.setG t rd 0).setW t w 0) (fun s =>
    let (cc, x, v, s) := s.mreadOp sel.toNat (s.greg t ra).toNat
    primEnd t cc ((s.setG t rd (BitVec.ofNat 64 x)).setW t w v)))))

/-- LOG, which runs in RECOVERY too. -/
def execLog (t : Tid) (ra rb : GReg) (w : WReg) (s : State) : Out :=
  .next (s.cmd (fun s => s.issue t (notCirque (.log t ra rb w) t (fun s =>
    let (cc, s) := s.logRecord t.val (s.greg t ra) (s.greg t rb) (s.wreg t w)
    primEnd t cc s))))

/-! ## KOP (R418, R419) -/

/-- A vault operation by a thread: where it goes into flight the thread waits for PRIMITIVE_COMPLETE. -/
def State.kop (s : State) (i : Instr) (t : Tid) (op : Nat) (rd ra rb : GReg) (w : WReg) : State :=
  let zero (s : State) : State := if kopGivesW op then (s.setG t rd 0).setW t w 0 else s.setG t rd 0
  s.cmd (fun s => s.issue t (blockPrim i t zero (fun s =>
    match s.kopStart (some t.val) true op (s.greg t ra).toNat (s.greg t rb).toNat (s.wreg t w) with
    | (some cc, s) => primEnd t cc (zero s)
    | (none, s) => .go ((s.setPrim t (some (.kop rd w))).setTh t thStalled))))

def execRandom (t : Tid) (rd ra rb : GReg) (w : WReg) (s : State) : Out :=
  .next (s.kop (.random t rd ra rb w) t 0x00 rd ra rb w)
def execAesEnc (t : Tid) (rd ra rb : GReg) (w : WReg) (s : State) : Out :=
  .next (s.kop (.aesEnc t rd ra rb w) t 0x01 rd ra rb w)
def execAesDec (t : Tid) (rd ra rb : GReg) (w : WReg) (s : State) : Out :=
  .next (s.kop (.aesDec t rd ra rb w) t 0x02 rd ra rb w)
def execGcmSeal (t : Tid) (rd ra rb : GReg) (w : WReg) (s : State) : Out :=
  .next (s.kop (.gcmSeal t rd ra rb w) t 0x03 rd ra rb w)
def execGcmOpen (t : Tid) (rd ra rb : GReg) (w : WReg) (s : State) : Out :=
  .next (s.kop (.gcmOpen t rd ra rb w) t 0x04 rd ra rb w)
def execCmac (t : Tid) (rd ra rb : GReg) (w : WReg) (s : State) : Out :=
  .next (s.kop (.cmac t rd ra rb w) t 0x05 rd ra rb w)
def execHmac (t : Tid) (rd ra rb : GReg) (w : WReg) (s : State) : Out :=
  .next (s.kop (.hmac t rd ra rb w) t 0x06 rd ra rb w)
def execHash (t : Tid) (rd ra rb : GReg) (w : WReg) (s : State) : Out :=
  .next (s.kop (.hash t rd ra rb w) t 0x07 rd ra rb w)
def execSign (t : Tid) (rd ra rb : GReg) (w : WReg) (s : State) : Out :=
  .next (s.kop (.sign t rd ra rb w) t 0x08 rd ra rb w)
def execVerify (t : Tid) (rd ra rb : GReg) (w : WReg) (s : State) : Out :=
  .next (s.kop (.verify t rd ra rb w) t 0x09 rd ra rb w)
def execEcdh (t : Tid) (rd ra rb : GReg) (w : WReg) (s : State) : Out :=
  .next (s.kop (.ecdh t rd ra rb w) t 0x0A rd ra rb w)
def execDerive (t : Tid) (rd ra rb : GReg) (w : WReg) (s : State) : Out :=
  .next (s.kop (.derive t rd ra rb w) t 0x0B rd ra rb w)
def execGenerate (t : Tid) (rd ra rb : GReg) (w : WReg) (s : State) : Out :=
  .next (s.kop (.generate t rd ra rb w) t 0x0C rd ra rb w)
def execWrap (t : Tid) (rd ra rb : GReg) (w : WReg) (s : State) : Out :=
  .next (s.kop (.wrap t rd ra rb w) t 0x0D rd ra rb w)
def execUnwrap (t : Tid) (rd ra rb : GReg) (w : WReg) (s : State) : Out :=
  .next (s.kop (.unwrap t rd ra rb w) t 0x0E rd ra rb w)
def execErase (t : Tid) (rd ra rb : GReg) (w : WReg) (s : State) : Out :=
  .next (s.kop (.erase t rd ra rb w) t 0x0F rd ra rb w)
def execInfo (t : Tid) (rd ra rb : GReg) (w : WReg) (s : State) : Out :=
  .next (s.kop (.info t rd ra rb w) t 0x10 rd ra rb w)

/-- PRIMITIVE_COMPLETE (R168): the vault operation, or the commit check, that a thread waits for ends. -/
def State.primitiveComplete (s : State) (t : Tid) : State :=
  match s.prim t with
  | some (.kop _ _) => s.kopComplete (some t.val)
  | some .commit => s.checkEnds
  | _ => s

def execPrimitiveComplete (t : Tid) (s : State) : Out := .next (s.cmd (fun s => s.primitiveComplete t))

/-- COMMAND_COMPLETE (R29): the command that keeps a block's interface BUSY ends; for SYS the mode request in progress (R357). -/
def State.commandComplete (s : State) (blk : Nat) : State :=
  match blk with
  | 0 => s.modeSettle
  | 1 => match s.lum.busy with
    | some (.dvfs c _) => s.dvfsDone c
    | _ => s
  | 3 => match (List.range 8).find? (fun n => (s.chain n).cmd) with
    | some n => s.capExpiry n
    | none => s
  | 12 => s.kopComplete none
  | 14 => if s.ice.cmdFlush then s.iceFlushEnd else s
  | _ => s

def execCommandComplete (blk : Nat) (s : State) : Out := .next (s.cmd (fun s => s.commandComplete blk))

/-! ## Words that no row of the table spells (R126, R145, R167, R419) -/

/-- The word at an address as a core fetches it; none where there is no memory. -/
def State.wordAt (s : State) (core a : Nat) : Option (BitVec 32) :=
  match regionOf core a with
  | .dram => match s.iline core a with
    | some l => some (BitVec.ofNat 32 (ofLe ((l.data.drop (a % 64)).take 4)))
    | none => some (BitVec.ofNat 32 (ofLe (s.dramBytes a 4)))
  | .regs | .absent => none
  | r => some (BitVec.ofNat 32 (ofLe (s.sramBytes r core a 4)))

/-- The word is DBELL with the reserved operation 3 (R126), or KOP with a reserved operation (R419). -/
def reservedPrim (w : BitVec 32) : Bool :=
  let op := w.extractLsb' 0 6
  (w.extractLsb' 26 6 == 0x3D && w.extractLsb' 7 1 == 0 && w.extractLsb' 0 7 == 3 && w.extractLsb' 8 3 == 0) ||
  (w.extractLsb' 26 6 == 0x3F && w.extractLsb' 6 2 == 0 && 0x11 ≤ op.toNat)

/-- What a word does that spells no instruction: RANGE for a reserved operation of DBELL and KOP, which is an operand value
(R167) of cores that have primitives (R177), else ILLEGAL (R145). That DBELL's reserved operation leaves rd as it was is the
model's choice (log entry 17). -/
def reservedWord (t : Nat) (w : BitVec 32) (s : State) : Res :=
  if t = 128 || !reservedPrim w then .exc s 0x01 0 w.toNat
  else if w.extractLsb' 26 6 == 0x3D then .go (s.setCc t (BitVec.ofNat 8 ccRange))
  else .go ((s.setG t (w.extractLsb' 21 5) 0).setCc t (BitVec.ofNat 8 (if s.mode = 1 then ccDenied else ccRange)))

/-- A thread that may issue and whose next word spells no instruction, or cannot be fetched, issues it: the exception or the
code that it gives. Any other instruction is a command, and so is what Cirque runs from its boot ROM, which lies at no address
that the spec states (log entry 17). -/
def State.selfIssue (s : State) (t : Nat) : State :=
  if !s.mayIssue t then s
  else match s.wordAt (cacheCore t) (s.pc t).toNat with
    | some w => if (decodeGnor ⟨t % 129, Nat.mod_lt _ (by decide)⟩ w).isSome then s else s.issue t (reservedWord t w)
    | none => if t = 128 then s else s.issue t .go

end Sys2Proof.Machine
end

