-- ==== Sys2Proof/Machine/RimeCmds.lean ====
section
/-!
DEFINITION. Sys2Proof/Machine/RimeCmds.lean: the commands and events of Rime, the real-time clock and the icecore (R374 to R403).
-/

namespace Sys2Proof.Machine

/-- RIME_SAMPLE (R376): Each sample period Rime converts its inputs and filters the rules. -/
def execRimeSample (raw : List Nat) (s : State) : Out :=
  .next (s.cmd (fun s => s.rimeSample raw))

/-- RULE_CHANGE (R378): A rule's condition holds for its dwell and the rule changes state. -/
def execRuleChange (rule : Nat) (s : State) : Out :=
  .next (s.cmdIf (decide (rule < 32)) (fun s => s.ruleChange rule))

/-- RULE_WRITE (R381): A write of RIME_RULE enables, disables or changes a rule. -/
def execRuleWrite (r : Req) (rule word : Nat) (v : Word) (s : State) : Out :=
  .next (s.cmdIf (decide (rule < 32) && decide (word < 3))
    (fun s => (s.regWrite r (RIME_RULE.addr rule + 4 * word) v).2))

/-- RIME_COLD_START (R375): Rime starts from no power and reloads its configuration. -/
def execRimeColdStart (s : State) : Out :=
  .next (s.cmd State.rimeColdStart)

/-- POWER_FAIL_WARNING (R384): Both feeds fall below 38 V; a record and flush start. -/
def execPowerFailWarning (s : State) : Out :=
  .next (s.cmd State.powerFail)

/-- PFW_CLEAR (R384): A feed returns to 40 V for 10 ms within hold-up. -/
def execPfwClear (s : State) : Out :=
  .next (s.cmd State.pfwClear)

/-- HOLDUP_END (R384): 12 ms after the warning the rails go down and the module enters DORMANT. -/
def execHoldupEnd (s : State) : Out :=
  .next (s.cmd State.holdupEnd)

/-- FEED_RESTORE (R383): A feed at or above 40 V for 100 ms; held wake causes assert PWRON_N. -/
def execFeedRestore (a b : Bool) (s : State) : Out :=
  .next (s.cmd (fun s => s.feedRestore a b))

/-- RTC_LOCKOUT (R390): MAIN33 below 3.0 V locks out RTC writes and switches its supply. -/
def execRtcLockout (low : Bool) (s : State) : Out :=
  .next (s.cmd (fun s => s.rtcLockout low))

/-- SCAP_LOW (R383): The supercapacitor crosses its low threshold. -/
def execScapLow (low : Bool) (s : State) : Out :=
  .next (s.cmd (fun s => s.scapLow low))

/-- COIN_LOW (R383): The coin cell crosses its low threshold. -/
def execCoinLow (low : Bool) (s : State) : Out :=
  .next (s.cmd (fun s => s.coinLow low))

/-- EXT_WAKE (R385): External equipment pulls PWRON_N low to wake the module. -/
def execExtWake (s : State) : Out :=
  .next (s.cmd State.extWake)

/-- RTC_SECOND (R391): The RTC begins a second and alarms are compared. -/
def execRtcSecond (s : State) : Out :=
  .next (s.cmd State.rtcSecond)

/-- RTC_SET (R389): A write of RIME_RTC_TIME loads the held date and time. -/
def execRtcSet (r : Req) (v : Word) (s : State) : Out :=
  .next (s.cmd (fun s => (s.regWrite r RIME_RTC_TIME.addr v).2))

/-- TAMPER1 (R393): A class 1 tamper source trips and latches C1. -/
def execTamper1 (src : Tamper1) (s : State) : Out :=
  .next (s.cmd (fun s => s.tamper1 src))

/-- TAMPER2 (R394): A class 2 tamper zeroises every key slot. -/
def execTamper2 (src : Tamper2) (s : State) : Out :=
  .next (s.cmd (fun s => s.tamper2 src))

/-- ICE_FLUSHED (R399): An icecore flush completes. -/
def execIceFlushed (s : State) : Out :=
  .next (s.cmd State.iceFlushEnd)

/-- ICE_WIN_READ (R401): A read of RIME_ICE_WIN word 0 latches a record; word 71 advances the cursor. -/
def execIceWinRead (r : Req) (k : Nat) (s : State) : Out :=
  .next (s.cmdIf (decide (k < 72)) (fun s => (s.regRead r (RIME_ICE_WIN.addr k)).2.2))

/-- RIME_FLUSH (R403): RIME command: flushes the icecore buffer. -/
def execRimeFlush (_r : Req) (s : State) : Out :=
  .next (s.cmd (fun s => s.command 14 RIME_STAT.addr State.rimeFlush))

/-- RECORD (R403): RIME command: Cirque makes an icecore record. -/
def execRecord (r : Req) (s : State) : Out :=
  .next (s.cmd (fun s => s.command 14 RIME_STAT.addr (fun s => s.recordCmd r)))

/-- RING_CLEAR (R403): RIME command: clears the ring area. -/
def execRingClear (_r : Req) (s : State) : Out :=
  .next (s.cmd (fun s => s.command 14 RIME_STAT.addr State.ringClear))

/-- PWRON_N_RELEASE (R385): Rime releases PWRON_N 100 ms after driving it low for a wake cause. -/
def execPwronNRelease (s : State) : Out :=
  .next (s.cmd State.pwronRelease)

/-- RIME_STOP (R481): Rime loses all power when the supercapacitor is exhausted or removed with no feed, ending
fallback, and the RTC runs on the coin cell or restarts. -/
def execRimeStop (coinLost : Bool) (s : State) : Out :=
  .next (s.cmd (fun s => s.rimeStop coinLost))

/-- TAMPER1_RELEASE (R392): A class 1 source releases after its dwell, clearing LID, LOOP or LIGHT in RIME_TAMP while
C1 stays latched. -/
def execTamper1Release (src : Tamper1) (s : State) : Out :=
  .next (s.cmd (fun s => s.tamper1Release src))

/-- H2_WRITE_DONE (R400): In PV-H2 mode a queued record finishes its three-step MRAM write, freeing a queue place. -/
def execH2WriteDone (s : State) : Out :=
  .next (s.cmd State.h2WriteDone)

end Sys2Proof.Machine
end

