-- ==== Sys2Proof/Machine/SastCmds.lean ====
section
/-!
DEFINITION. Sys2Proof/Machine/SastCmds.lean: the commands and events of Sastrugi (R180 to R224).
-/

namespace Sys2Proof.Machine

/-- An uplink frame that names a head and a channel index that exist (R14, R197). -/
def rxOk (rx : RxInfo) : Bool := decide (rx.head < 64) && decide (rx.ch < 8)

/-- DISCOVER (R188): SAST command: discovers the heads of a chain. -/
def execDiscover (_r : Req) (s : State) : Out :=
  .next (s.cmd (fun s => s.command 3 SAST_STAT.addr State.discover))

/-- PLAN_LOAD (R205): SAST command: checks and loads a plan. -/
def execPlanLoad (_r : Req) (s : State) : Out :=
  .next (s.cmd (fun s => s.command 3 SAST_STAT.addr State.planLoad))

/-- CONFLICT_CLR (R224): SAST command: clears the conflict matrix. -/
def execConflictClr (_r : Req) (s : State) : Out :=
  .next (s.cmd (fun s => s.command 3 SAST_STAT.addr State.conflictClr))

/-- NODE_INFO (R224): SAST command: returns a node's MAC state. -/
def execNodeInfo (_r : Req) (s : State) : Out :=
  .next (s.cmd (fun s => s.command 3 SAST_STAT.addr State.nodeInfo))

/-- SAST_HANDOVER (R217): SAST command: moves a node to another cell. -/
def execSastHandover (_r : Req) (s : State) : Out :=
  .next (s.cmd (fun s => s.command 3 SAST_STAT.addr State.sastHandover))

/-- DISASSOC (R224): SAST command: disassociates a node. -/
def execDisassoc (_r : Req) (s : State) : Out :=
  .next (s.cmd (fun s => s.command 3 SAST_STAT.addr State.disassoc))

/-- GRANT_SET (R209): SAST command: sets or removes a node's grant. -/
def execGrantSet (_r : Req) (s : State) : Out :=
  .next (s.cmd (fun s => s.command 3 SAST_STAT.addr State.grantSet))

/-- TETHER_OPEN (R220): SAST command: opens a tether to a node. -/
def execTetherOpen (_r : Req) (s : State) : Out :=
  .next (s.cmd (fun s => s.command 3 SAST_STAT.addr State.tetherOpen))

/-- TETHER_CLOSE (R224): SAST command: closes a tether. -/
def execTetherClose (_r : Req) (s : State) : Out :=
  .next (s.cmd (fun s => s.command 3 SAST_STAT.addr State.tetherClose))

/-- HEAD_CAP (R189): SAST command: returns a word of a head's capability descriptor. -/
def execHeadCap (_r : Req) (s : State) : Out :=
  .next (s.cmd (fun s => s.command 3 SAST_STAT.addr State.headCap))

/-- SAST_ENABLE (R224): A write of SAST_CTRL.EN starts or stops superframes if a plan is active. -/
def execSastEnable (r : Req) (v : Word) (s : State) : Out :=
  .next (s.cmd (fun s => (s.regWrite r SAST_CTRL.addr v).2))

/-- BUDGET_WRITE (R211): A write of SAST_BUDGET schedules revocation at the next boundary if below use. -/
def execBudgetWrite (r : Req) (cell : Nat) (v : Word) (s : State) : Out :=
  .next (s.cmdIf (decide (cell < 64)) (fun s => (s.regWrite r (SAST_BUDGET.addr cell) v).2))

/-- ADV_CH_WRITE (R224): A write of SAST_ADV_CH is checked and ignored with CFG_ERR if invalid. -/
def execAdvChWrite (r : Req) (v : Word) (s : State) : Out :=
  .next (s.cmd (fun s => (s.regWrite r SAST_ADV_CH.addr v).2))

/-- CHAIN_LOCK (R188): A chain port achieves block lock and discovery starts. -/
def execChainLock (chain : Nat) (s : State) : Out :=
  .next (s.cmdIf (decide (chain < 8)) (fun s => s.chainLock chain))

/-- CAP_WAIT_EXPIRY (R188): No CAP within 2 ms ends discovery of a chain. -/
def execCapWaitExpiry (chain : Nat) (s : State) : Out :=
  .next (s.cmdIf (decide (chain < 8)) (fun s => s.capExpiry chain))

/-- CAP (R189): A head's capability frame arrives and compatibility is checked. -/
def execCap (chain pos : Nat) (d : CapDesc) (s : State) : Out :=
  .next (s.cmdIf (decide (chain < 8) && decide (pos < 8)) (fun s => s.capRx chain pos d))

/-- ECHO_RSP (R191): A head's echo response arrives for delay measurement. -/
def execEchoRsp (chain pos rtt turn : Nat) (s : State) : Out :=
  .next (s.cmdIf (decide (chain < 8) && decide (pos < 8)) (fun s => s.echoRsp chain pos rtt turn))

/-- HOP_MEASURE (R191): Every 60 s Sastrugi remeasures each head's delay and rewrites CONFIG if moved. -/
def execHopMeasure (head : Nat) (rtts turns : List Nat) (s : State) : Out :=
  .next (s.cmdIf (decide (head < 64)) (fun s => s.hopMeasure head rtts turns))

/-- TX_DONE (R186): A head reports the outcome of a TX frame. -/
def execTxDone (head seq result : Nat) (s : State) : Out :=
  .next (s.cmdIf (decide (head < 64)) (fun s => s.txDone head seq result))

/-- HOLD_OFF (R187): A head asks to withhold transmission on channels. -/
def execHoldOff (head mask durUs : Nat) (s : State) : Out :=
  .next (s.cmdIf (decide (head < 64)) (fun s => s.holdOff head mask durUs))

/-- HOLDOFF_EXPIRY (R187): A head hold's duration passes and scheduling resumes. -/
def execHoldoffExpiry (head : Nat) (s : State) : Out :=
  .next (s.cmdIf (decide (head < 64)) (fun s => s.holdoffExpiry head))

/-- STATUS (R184): A head reports SYNC_LOST, RF_FAULT or OVERTEMP. -/
def execStatus (head bits : Nat) (s : State) : Out :=
  .next (s.cmdIf (decide (head < 64)) (fun s => s.headStatus head bits))

/-- CHAIN_BREAK (R192): No frame from a position for 20 ms or lock loss breaks a chain, and wrap may start. -/
def execChainBreak (chain pos : Nat) (lockLost : Bool) (s : State) : Out :=
  .next (s.cmdIf (decide (chain < 8) && decide (pos < 8)) (fun s => s.chainFault chain pos lockLost))

/-- SYNC (R185): 200 µs before each slot, the active module sends SYNC on every chain. -/
def execSync (s : State) : Out :=
  .next (s.cmd State.sendSync)

/-- SLOT_BOUNDARY (R194): A slot begins; holds begin or end and the slot's frames are scheduled. -/
def execSlotBoundary (s : State) : Out :=
  .next (s.cmd State.slotBoundary)

/-- SUPERFRAME_BOUNDARY (R193): A whole second begins a superframe; plan, revocation and delivery updates apply. -/
def execSuperframeBoundary (s : State) : Out :=
  .next (s.cmd State.superframeBoundary)

/-- CONFLICT_WINDOW (R203): A window of superframes ends and the conflict matrix is latched. -/
def execConflictWindow (s : State) : Out :=
  .next (s.cmd State.conflictWindow)

/-- REPORT (R484): A node's REPORT arrives; temperature, derating, lag and survey are processed. -/
def execReport (rx : RxInfo) (rep : Report) (s : State) : Out :=
  .next (s.cmdIf (rxOk rx) (fun s => s.report rx rep))

/-- PART_ACK (R70): A node acknowledges parts or confirms an abort. -/
def execPartAck (rx : RxInfo) (frame epoch bitmap : Nat) (s : State) : Out :=
  .next (s.cmdIf (rxOk rx) (fun s => s.partAckRx rx frame epoch bitmap))

/-- DETECT (R215): A detection arrives in a fast slot and is queued, duplicates discarded. -/
def execDetect (rx : RxInfo) (data : List Byte) (s : State) : Out :=
  .next (s.cmdIf (rxOk rx) (fun s => s.detect rx data))

/-- DATA_UP (R289): A node's uplink data arrives and is queued. -/
def execDataUp (rx : RxInfo) (data : List Byte) (s : State) : Out :=
  .next (s.cmdIf (rxOk rx) (fun s => s.dataUp rx data))

/-- ASSOC_REQ (R208): A node requests association; Serac resolves or learns it. -/
def execAssocReq (rx : RxInfo) (caps : NodeCaps) (s : State) : Out :=
  .next (s.cmdIf (rxOk rx) (fun s => s.assocReq rx caps))

/-- ASSOC_RESP (R208): Sastrugi answers an association with status, address and grant. -/
def execAssocResp (eui : Nat) (s : State) : Out :=
  .next (s.cmd (fun s => s.assocResp eui))

/-- HANDOVER_SWITCH (R217): At the switch superframe a moved node's state passes to the new cell. -/
def execHandoverSwitch (node : Nat) (acked : Bool) (s : State) : Out :=
  .next (s.cmdIf (decide (node < 2 ^ 18)) (fun s => s.handoverSwitch node acked))

/-- NODE_LOST (R218): A node silent for 3 report periods is marked LOST and its grant released. -/
def execNodeLost (node : Nat) (s : State) : Out :=
  .next (s.cmdIf (decide (node < 2 ^ 18)) (fun s => s.nodeLost node))

/-- ADDRESS_RELEASE (R218): A LOST node's short address is freed after 3,600 s. -/
def execAddressRelease (node : Nat) (s : State) : Out :=
  .next (s.cmdIf (decide (node < 2 ^ 18)) (fun s => s.addressRelease node))

/-- TETHER_ADV (R221): A node's advert arrives and is answered or reported. -/
def execTetherAdv (head eui lastHead : Nat) (s : State) : Out :=
  .next (s.cmdIf (decide (head < 64)) (fun s => s.tetherAdv head eui lastHead))

/-- TETHER_EVENT (R220): A tether event occurs and the head sends TETHER_DATA. -/
def execTetherEvent (idx : Nat) (s : State) : Out :=
  .next (s.cmdIf (decide (idx < 16)) (fun s => s.tetherEvent idx))

/-- TETHER_DATA (R220): A node's tether frame arrives. -/
def execTetherData (idx : Nat) (f : TetherRx) (s : State) : Out :=
  .next (s.cmdIf (decide (idx < 16)) (fun s => s.tetherData idx f))

/-- TETHER_END (R220): A tether's supervision timeout passes and it ends. -/
def execTetherEnd (idx : Nat) (s : State) : Out :=
  .next (s.cmdIf (decide (idx < 16)) (fun s => s.tetherEnd idx))

/-- WRAP_RELAY (R192): The partner receives chain frames over P during a wrap and relays them from its own chain port
with re-stamped TIME. -/
def execWrapRelay (chain : Nat) (f : ChainFrame) (s : State) : Out :=
  .next (s.cmdIf (decide (chain < 8)) (fun s => s.wrapRelay chain f))

/-- SURVEY_BEACON_RX (R203): A head's slot-0 survey receiver reports a foreign beacon as an RX frame with SURVEY set,
and the conflict count rises. -/
def execSurveyBeaconRx (head other : Nat) (rssi : Int) (s : State) : Out :=
  .next (s.cmdIf (decide (head < 64) && decide (other < 64)) (fun s => s.heardPair head other rssi))

/-- BAD_FCS_RX (R207): An RX frame failing its FCS at or above RSSI_MIN is counted as a collision. -/
def execBadFcsRx (head : Nat) (rssi : Int) (s : State) : Out :=
  .next (s.cmdIf (decide (head < 64)) (fun s => s.badFcs head rssi))

/-- CHAIN_FRAME_DISCARD (R183): A chain frame with a bad CRC, HOP 8 to 14 or a reserved type reaches the module and is
discarded and counted. -/
def execChainFrameDiscard (chain : Nat) (s : State) : Out :=
  .next (s.cmdIf (decide (chain < 8)) (fun s => s.chainDiscard chain))

end Sys2Proof.Machine
end

