-- ==== Sys2Proof/Machine/StoreCmds.lean ====
section
/-!
DEFINITION. Sys2Proof/Machine/StoreCmds.lean: the commands and events of Moraine (R310 to R329).
-/

namespace Sys2Proof.Machine

/-- FORMAT (R314): MOR command: forms the drive groups and erases every stream. -/
def execFormat (_r : Req) (s : State) : Out :=
  .next (s.cmd (fun s => s.command 9 MOR_STAT.addr State.morFormat))

/-- STREAM_CFG (R317): MOR command: opens a stream and sets quota and retention. -/
def execStreamCfg (_r : Req) (s : State) : Out :=
  .next (s.cmd (fun s => s.command 9 MOR_STAT.addr State.streamCfg))

/-- STREAM_INFO (R329): MOR command: returns a stream's use and sequences. -/
def execStreamInfo (_r : Req) (s : State) : Out :=
  .next (s.cmd (fun s => s.command 9 MOR_STAT.addr State.streamInfo))

/-- READ_RANGE (R320): MOR command: reads records by time range. -/
def execReadRange (r : Req) (s : State) : Out :=
  .next (s.cmd (fun s => s.command 9 MOR_STAT.addr (fun s => s.readRange r)))

/-- READ_SEQ (R320): MOR command: reads one record by sequence. -/
def execReadSeq (r : Req) (s : State) : Out :=
  .next (s.cmd (fun s => s.command 9 MOR_STAT.addr (fun s => s.readSeq r)))

/-- REBUILD (R316): MOR command: starts a rebuild of a slot. -/
def execRebuild (_r : Req) (s : State) : Out :=
  .next (s.cmd (fun s => s.command 9 MOR_STAT.addr State.rebuildCmd))

/-- MOR_ENABLE (R322): Writing MOR_CTRL.EN 1 checks the staging region. -/
def execMorEnable (r : Req) (v : Word) (s : State) : Out :=
  .next (s.cmd (fun s => (s.regWrite r MOR_CTRL.addr v).2))

/-- BLOCK_WRITE (R318): A full stream block, or one 500 ms old, is compressed and written. -/
def execBlockWrite (stream : Nat) (s : State) : Out :=
  .next (s.cmdIf (decide (stream < 256)) (fun s => s.blockWrite stream))

/-- STOR_LINK_UP (R312): A STOR link comes up and its drives are identified. -/
def execStorLinkUp (stor : Nat) (drives : List (Option DriveId)) (s : State) : Out :=
  .next (s.cmdIf (decide (stor < 4)) (fun s => s.storLink stor drives))

/-- SMART_POLL (R312): Every 60 s each drive's SMART log is read. -/
def execSmartPoll (drive wear : Nat) (critical : Bool) (s : State) : Out :=
  .next (s.cmdIf (decide (drive < 16)) (fun s => s.smartPoll drive wear critical))

/-- DRIVE_LOST (R315): A drive silent for 5 s or critically warned is marked FAILED. -/
def execDriveLost (drive : Nat) (s : State) : Out :=
  .next (s.cmdIf (decide (drive < 16)) (fun s => s.driveFault drive))

/-- REBUILT (R316): A rebuild completes. -/
def execRebuilt (drive : Nat) (s : State) : Out :=
  .next (s.cmdIf (decide (drive < 16)) (fun s => s.rebuiltDrive drive))

/-- TRIM (R325): The trimmer removes an expired or over-quota block. -/
def execTrim (stream : Nat) (s : State) : Out :=
  .next (s.cmdIf (decide (stream < 256)) (fun s => s.trim stream))

/-- DRIVE_INSERTED (R316): A new drive appears behind a STOR port whose link is already up, is identified, and may
start a rebuild. -/
def execDriveInserted (slot : Nat) (d : DriveId) (s : State) : Out :=
  .next (s.cmdIf (decide (slot < 16)) (fun s => s.driveInserted slot d))

end Sys2Proof.Machine
end

