-- ==== Sys2Proof/Machine/TimeCmds.lean ====
section
/-!
DEFINITION. Sys2Proof/Machine/TimeCmds.lean: the commands and events of the time engine (R254 to R276).
-/

namespace Sys2Proof.Machine

/-- STEP_TO (R258): TIME command: steps network time to a value. -/
def execStepTo (_r : Req) (s : State) : Out :=
  .next (s.cmd (fun s => s.command 5 TIME_STAT.addr State.stepTo))

/-- STEP_BY (R258): TIME command: steps network time by an amount. -/
def execStepBy (_r : Req) (s : State) : Out :=
  .next (s.cmd (fun s => s.command 5 TIME_STAT.addr State.stepBy))

/-- RATE_SET (R260): TIME command: writes the rate. -/
def execRateSet (_r : Req) (s : State) : Out :=
  .next (s.cmd (fun s => s.command 5 TIME_STAT.addr State.rateSet))

/-- SERVO_MEASURE (R261): Once per second the servo measures the offset and steps or slews. -/
def execServoMeasure (slew : Int) (s : State) : Out :=
  .next (s.cmd (fun s => s.servoMeasure slew))

/-- HOLDOVER (R261): A source invalid for 3 s after lock enters holdover. -/
def execHoldover (s : State) : Out :=
  .next (s.cmd State.holdover)

/-- WARM (R254): 5 min after power-up the OCXO is declared warm. -/
def execWarm (s : State) : Out :=
  .next (s.cmd State.timeWarm)

/-- PTP_MESSAGE (R263): A PTP message arrives and is consumed by the time engine. -/
def execPtpMessage (port : Nat) (m : PtpMsg) (s : State) : Out :=
  .next (s.cmdIf (decide (port < 5)) (fun s => s.ptpMessage port m))

/-- PPS_EDGE (R264): A PPS_IN rising edge is timestamped and validated. -/
def execPpsEdge (s : State) : Out :=
  .next (s.cmd State.ppsEdge)

/-- PPS_LOST (R264): No PPS_IN edge for 1.5 s makes it invalid. -/
def execPpsLost (s : State) : Out :=
  .next (s.cmd State.ppsLost)

/-- PPS_OUT (R265): PPS_OUT rises at a whole second. -/
def execPpsOut (s : State) : Out :=
  .next (s.cmd State.ppsOutRise)

/-- LAUNCH (R270): A queued frame reaches its launch time and is sent. -/
def execLaunch (q : Nat) (s : State) : Out :=
  .next (s.cmdIf (launchQ q) (fun s => s.launch q))

/-- LATE_DROP (R271): A timed frame misses its late window and is dropped or sent late. -/
def execLateDrop (q : Nat) (s : State) : Out :=
  .next (s.cmdIf (launchQ q) (fun s => s.lateDrop q))

/-- PTP_SYNC_SEND (R263): A ring or pair port in MASTER state sends Sync 16 times per second. -/
def execPtpSyncSend (port : Nat) (s : State) : Out :=
  .next (s.cmdIf (decide (port < 5)) (fun s => s.ptpSyncSend port))

/-- PEER_DELAY_MEASURE (R267): Once per second each of E, W and P starts a peer-delay exchange and updates
meanLinkDelay. -/
def execPeerDelayMeasure (port delay : Nat) (s : State) : Out :=
  .next (s.cmdIf (decide (port < 5)) (fun s => s.peerDelay port delay))

/-- PPS_OUT_FALL (R265): PPS_OUT falls 100 ms after each rising edge. -/
def execPpsOutFall (s : State) : Out :=
  .next (s.cmd State.ppsOutFall)

end Sys2Proof.Machine
end

