-- ==== Sys2Proof/Machine/VaultCmds.lean ====
section
/-!
DEFINITION. Sys2Proof/Machine/VaultCmds.lean: the commands of the vault, and the commands and frames of Icefall (R408 to R437).
-/

namespace Sys2Proof.Machine

/-- VLT_OP (R436): VLT command: runs a KOP operation for Cirque. -/
def execVltOp (r : Req) (s : State) : Out :=
  .next (s.cmd (fun s => s.command 12 VLT_STAT.addr (fun s => s.vltOp r)))

/-- PROVISION (R417): VLT command: generates slot 0 and loads the trust anchor. -/
def execProvision (_r : Req) (s : State) : Out :=
  .next (s.cmd (fun s => s.command 12 VLT_STAT.addr (fun s => s.provision.bootTry)))

/-- ZEROISE (R415): VLT command: erases every key slot. -/
def execZeroise (_r : Req) (s : State) : Out :=
  .next (s.cmd (fun s => s.command 12 VLT_STAT.addr State.zeroiseCmd))

/-- CHALLENGE (R416): VLT command: writes a tamper-clear nonce. -/
def execChallenge (_r : Req) (s : State) : Out :=
  .next (s.cmd (fun s => s.command 12 VLT_STAT.addr State.challenge))

/-- CLEAR_TAMPER (R416): VLT command: verifies a signature and clears C1. -/
def execClearTamper (_r : Req) (s : State) : Out :=
  .next (s.cmd (fun s => s.command 12 VLT_STAT.addr State.clearTamper))

/-- CERT_SET (R417): VLT command: stores the module certificate. -/
def execCertSet (_r : Req) (s : State) : Out :=
  .next (s.cmd (fun s => s.command 12 VLT_STAT.addr State.certSet))

/-- RELAY (R425): ICF command: the lead resends an image. -/
def execRelay (_r : Req) (s : State) : Out :=
  .next (s.cmd (fun s => s.command 15 ICF_STAT.addr State.relayCmd))

/-- ACTIVATE (R428): ICF command: schedules activation of a slot at an epoch. -/
def execActivate (_r : Req) (s : State) : Out :=
  .next (s.cmd (fun s => s.command 15 ICF_STAT.addr State.activateCmd))

/-- ACT_CANCEL (R428): ICF command: withdraws a pending activation. -/
def execActCancel (_r : Req) (s : State) : Out :=
  .next (s.cmd (fun s => s.command 15 ICF_STAT.addr State.actCancelCmd))

/-- PROG_LOAD (R433): ICF command: loads the program image onto cores. -/
def execProgLoad (_r : Req) (s : State) : Out :=
  .next (s.cmd (fun s => s.command 15 ICF_STAT.addr State.progLoad))

/-- SVN_BURN (R430): ICF command: advances the security-version fuse. -/
def execSvnBurn (_r : Req) (s : State) : Out :=
  .next (s.cmd (fun s => s.command 15 ICF_STAT.addr State.svnBurn))

/-- PUSH_PARTNER (R432): ICF command: sends the image to a partner in RECOVERY. -/
def execPushPartner (_r : Req) (s : State) : Out :=
  .next (s.cmd (fun s => s.command 15 ICF_STAT.addr State.pushPartner))

/-- SLOT_ERASE (R437): ICF command: erases an image slot. -/
def execSlotErase (_r : Req) (s : State) : Out :=
  .next (s.cmd (fun s => s.command 15 ICF_STAT.addr State.slotErase))

/-- HEADER (R425): A relay HEADER frame arrives and is checked. -/
def execHeader (port _src imageId : Nat) (data : List Byte) (s : State) : Out :=
  .next (s.cmdIf (decide (port < 5)) (fun s => s.relayHeader port imageId data))

/-- LEAVES (R425): A relay LEAVES frame arrives and is checked. -/
def execLeaves (port _src imageId part : Nat) (data : List Byte) (s : State) : Out :=
  .next (s.cmdIf (decide (port < 5)) (fun s => s.relayLeaves port imageId part data))

/-- CHUNK (R425): A relay chunk part arrives, is checked, written and forwarded. -/
def execChunk (port _src imageId idx part : Nat) (data : List Byte) (s : State) : Out :=
  .next (s.cmdIf (decide (port < 5)) (fun s => s.relayChunk port imageId idx part data))

/-- NACK (R427): A NACK arrives and the chunk is resent. -/
def execNack (port _src imageId idx : Nat) (s : State) : Out :=
  .next (s.cmdIf (decide (port < 5)) (fun s => s.relayNack port imageId idx))

/-- ACT (R428): An ACT frame from the lead records a pending activation. -/
def execAct (src slot epochS version : Nat) (s : State) : Out :=
  .next (s.cmdIf (decide (slot < 2)) (fun s => s.relayAct src slot epochS version))

/-- RELAY_ACT_CANCEL (R428): An ACT_CANCEL frame withdraws a pending activation. -/
def execRelayActCancel (src : Nat) (s : State) : Out :=
  .next (s.cmd (fun s => s.relayActCancel src))

/-- ACT_CHECK (R428): At E minus 1 s the slot's image is checked for activation. -/
def execActCheck (s : State) : Out :=
  .next (s.cmd State.actCheck)

/-- ACTIVATION (R428): At E the module switches slot and restarts, or hands over first if active. -/
def execActivation (s : State) : Out :=
  .next (s.cmd State.activation)

/-- ACT_PARTNER_TIMEOUT (R429): At E plus 60 s an active module restarts without a ready partner. -/
def execActPartnerTimeout (s : State) : Out :=
  .next (s.cmd State.actTimeout)

/-- CONFIRMED (R430): A booted image runs CONFIRM seconds without F2 or F3 and is confirmed. -/
def execConfirmed (s : State) : Out :=
  .next (s.cmd State.confirm)

/-- RELAY_CHUNK_SEND (R425): The lead or a forwarding module sends the next chunk, paced to RELAY_RATE. -/
def execRelayChunkSend (s : State) : Out :=
  .next (s.cmd State.relayChunkSend)

end Sys2Proof.Machine
end

