-- ==== Sys2Proof/Machine/Wide.lean ====
section
/-!
DEFINITION. Sys2Proof/Machine/Wide.lean: the wide operations of Gnor on eight 16-bit lanes (R139, R159).
-/

namespace Sys2Proof.Machine

/-- Lane i as unsigned, u(x) of R159. -/
def lane (w : Wide) (i : Nat) : Nat := (w.toNat >>> (16 * i)) % 65536

/-- Lane i as signed, s(x) of R159. -/
def slane (w : Wide) (i : Nat) : Int := signedOf 16 (lane w i)

/-- The wide value of eight lanes. -/
def ofLanes (f : Nat → Nat) : Wide :=
  BitVec.ofNat 128 ((List.range 8).foldl (fun a i => a + (f i % 65536) * 2 ^ (16 * i)) 0)

/-- An integer limited to a range. -/
def clamp (x lo hi : Int) : Int := if x < lo then lo else if hi < x then hi else x

/-- A result clamped to a signed lane. -/
def sat16 (x : Int) : Nat := codeOf 16 (clamp x (-32768) 32767)

/-- A result clamped to an unsigned lane. -/
def satU16 (x : Int) : Nat := (clamp x 0 65535).toNat

/-- 0xFFFF where a comparison holds, else 0. -/
def mask16 (b : Bool) : Nat := if b then 0xFFFF else 0

/-- A wide operation, which Cirque does not have (R177): wd receives a function of the old wd, wa and wb. -/
def State.wop (s : State) (i : Instr) (t : Tid) (wd wa wb : WReg) (f : Wide → Wide → Wide → Wide) : State :=
  s.issue t (notCirque i t (fun s => .go (s.setW t wd (f (s.wreg t wd) (s.wreg t wa) (s.wreg t wb)))))

/-- A wide operation whose result is a general register. -/
def State.wgop (s : State) (i : Instr) (t : Tid) (g : GReg) (wa : WReg) (f : Wide → Dword) : State :=
  s.issue t (notCirque i t (fun s => .go (s.setG t g (f (s.wreg t wa)))))

/-- A wide operation with a general register as its source. -/
def State.wsop (s : State) (i : Instr) (t : Tid) (wd : WReg) (g : GReg) (f : Wide → Dword → Wide) : State :=
  s.issue t (notCirque i t (fun s => .go (s.setW t wd (f (s.wreg t wd) (s.greg t g)))))

def execWadd (t : Tid) (wd wa wb : WReg) (s : State) : Out :=
  .next (s.wop (.wadd t wd wa wb) t wd wa wb (fun _ a b => ofLanes (fun i => lane a i + lane b i)))
def execWsub (t : Tid) (wd wa wb : WReg) (s : State) : Out :=
  .next (s.wop (.wsub t wd wa wb) t wd wa wb (fun _ a b => ofLanes (fun i => lane a i + 65536 - lane b i)))
def execWaddu (t : Tid) (wd wa wb : WReg) (s : State) : Out :=
  .next (s.wop (.waddu t wd wa wb) t wd wa wb (fun _ a b => ofLanes (fun i => min (lane a i + lane b i) 65535)))
def execWsubu (t : Tid) (wd wa wb : WReg) (s : State) : Out :=
  .next (s.wop (.wsubu t wd wa wb) t wd wa wb (fun _ a b => ofLanes (fun i => lane a i - lane b i)))
def execWadds (t : Tid) (wd wa wb : WReg) (s : State) : Out :=
  .next (s.wop (.wadds t wd wa wb) t wd wa wb (fun _ a b => ofLanes (fun i => sat16 (slane a i + slane b i))))
def execWsubs (t : Tid) (wd wa wb : WReg) (s : State) : Out :=
  .next (s.wop (.wsubs t wd wa wb) t wd wa wb (fun _ a b => ofLanes (fun i => sat16 (slane a i - slane b i))))
def execWmulh (t : Tid) (wd wa wb : WReg) (s : State) : Out :=
  .next (s.wop (.wmulh t wd wa wb) t wd wa wb (fun _ a b => ofLanes (fun i => lane a i * lane b i / 65536)))
def execWminu (t : Tid) (wd wa wb : WReg) (s : State) : Out :=
  .next (s.wop (.wminu t wd wa wb) t wd wa wb (fun _ a b => ofLanes (fun i => min (lane a i) (lane b i))))
def execWmaxu (t : Tid) (wd wa wb : WReg) (s : State) : Out :=
  .next (s.wop (.wmaxu t wd wa wb) t wd wa wb (fun _ a b => ofLanes (fun i => max (lane a i) (lane b i))))
def execWmins (t : Tid) (wd wa wb : WReg) (s : State) : Out :=
  .next (s.wop (.wmins t wd wa wb) t wd wa wb (fun _ a b => ofLanes (fun i => codeOf 16 (min (slane a i) (slane b i)))))
def execWmaxs (t : Tid) (wd wa wb : WReg) (s : State) : Out :=
  .next (s.wop (.wmaxs t wd wa wb) t wd wa wb (fun _ a b => ofLanes (fun i => codeOf 16 (max (slane a i) (slane b i)))))
def execWcmpeq (t : Tid) (wd wa wb : WReg) (s : State) : Out :=
  .next (s.wop (.wcmpeq t wd wa wb) t wd wa wb (fun _ a b => ofLanes (fun i => mask16 (lane a i == lane b i))))
def execWcmpltu (t : Tid) (wd wa wb : WReg) (s : State) : Out :=
  .next (s.wop (.wcmpltu t wd wa wb) t wd wa wb (fun _ a b => ofLanes (fun i => mask16 (decide (lane a i < lane b i)))))
def execWcmplts (t : Tid) (wd wa wb : WReg) (s : State) : Out :=
  .next (s.wop (.wcmplts t wd wa wb) t wd wa wb (fun _ a b => ofLanes (fun i => mask16 (decide (slane a i < slane b i)))))
def execWperm (t : Tid) (wd wa wb : WReg) (s : State) : Out :=
  .next (s.wop (.wperm t wd wa wb) t wd wa wb (fun _ a b => ofLanes (fun i => lane a (lane b i % 8))))
def execWand (t : Tid) (wd wa wb : WReg) (s : State) : Out :=
  .next (s.wop (.wand t wd wa wb) t wd wa wb (fun _ a b => a &&& b))
def execWor (t : Tid) (wd wa wb : WReg) (s : State) : Out :=
  .next (s.wop (.wor t wd wa wb) t wd wa wb (fun _ a b => a ||| b))
def execWxor (t : Tid) (wd wa wb : WReg) (s : State) : Out :=
  .next (s.wop (.wxor t wd wa wb) t wd wa wb (fun _ a b => a ^^^ b))
def execWandn (t : Tid) (wd wa wb : WReg) (s : State) : Out :=
  .next (s.wop (.wandn t wd wa wb) t wd wa wb (fun _ a b => a &&& ~~~b))
def execWsel (t : Tid) (wd wa wb : WReg) (s : State) : Out :=
  .next (s.wop (.wsel t wd wa wb) t wd wa wb (fun d a b => (a &&& d) ||| (b &&& ~~~d)))
def execWmulq (t : Tid) (wd wa wb : WReg) (k : BitVec 4) (s : State) : Out :=
  .next (s.wop (.wmulq t wd wa wb k) t wd wa wb (fun _ a b => ofLanes (fun i =>
    min (lane a i * lane b i / 2 ^ k.toNat) 65535)))
def execWmulsq (t : Tid) (wd wa wb : WReg) (k : BitVec 4) (s : State) : Out :=
  .next (s.wop (.wmulsq t wd wa wb k) t wd wa wb (fun _ a b => ofLanes (fun i =>
    sat16 (slane a i * slane b i / (2 ^ k.toNat : Nat)))))
def execWdivq (t : Tid) (wd wa wb : WReg) (k : BitVec 4) (s : State) : Out :=
  .next (s.wop (.wdivq t wd wa wb k) t wd wa wb (fun _ a b => ofLanes (fun i =>
    if lane b i = 0 then 65535 else min (lane a i * 2 ^ k.toNat / lane b i) 65535)))
def execWlerp (t : Tid) (wd wa wb : WReg) (k : BitVec 4) (s : State) : Out :=
  .next (s.wop (.wlerp t wd wa wb k) t wd wa wb (fun d a b => ofLanes (fun i =>
    satU16 ((lane a i : Int) + (((lane b i : Int) - lane a i) * lane d i) / (2 ^ k.toNat : Nat)))))
def execWsll (t : Tid) (wd wa : WReg) (k : BitVec 4) (s : State) : Out :=
  .next (s.wop (.wsll t wd wa k) t wd wa wa (fun _ a _ => ofLanes (fun i => lane a i * 2 ^ k.toNat)))
def execWsrl (t : Tid) (wd wa : WReg) (k : BitVec 4) (s : State) : Out :=
  .next (s.wop (.wsrl t wd wa k) t wd wa wa (fun _ a _ => ofLanes (fun i => lane a i / 2 ^ k.toNat)))
def execWsra (t : Tid) (wd wa : WReg) (k : BitVec 4) (s : State) : Out :=
  .next (s.wop (.wsra t wd wa k) t wd wa wa (fun _ a _ => ofLanes (fun i => codeOf 16 (slane a i / (2 ^ k.toNat : Nat)))))
def execWsplat (t : Tid) (wd : WReg) (g : GReg) (s : State) : Out :=
  .next (s.wsop (.wsplat t wd g) t wd g (fun _ x => ofLanes (fun _ => x.toNat)))
def execWins (t : Tid) (wd : WReg) (g : GReg) (k : BitVec 3) (s : State) : Out :=
  .next (s.wsop (.wins t wd g k) t wd g (fun d x => ofLanes (fun i => if i = k.toNat then x.toNat else lane d i)))
def execWext (t : Tid) (g : GReg) (wa : WReg) (k : BitVec 3) (s : State) : Out :=
  .next (s.wgop (.wext t g wa k) t g wa (fun a => BitVec.ofNat 64 (lane a k.toNat)))
def execWmov (t : Tid) (wd wa : WReg) (s : State) : Out :=
  .next (s.wop (.wmov t wd wa) t wd wa wa (fun _ a _ => a))
def execWgetd (t : Tid) (g : GReg) (wa : WReg) (k : BitVec 1) (s : State) : Out :=
  .next (s.wgop (.wgetd t g wa k) t g wa (fun a => a.extractLsb' (64 * k.toNat) 64))
def execWputd (t : Tid) (wd : WReg) (g : GReg) (k : BitVec 1) (s : State) : Out :=
  .next (s.wsop (.wputd t wd g k) t wd g (fun d x => BitVec.ofNat 128 (withBits d.toNat (64 * k.toNat) 64 x.toNat)))
def execWsum (t : Tid) (g : GReg) (wa : WReg) (s : State) : Out :=
  .next (s.wgop (.wsum t g wa) t g wa (fun a => BitVec.ofNat 64 ((List.range 8).foldl (fun n i => n + lane a i) 0)))

end Sys2Proof.Machine
end

