-- ==== Sys2Proof/Machine/Dispatch.lean ====
section
/-!
DEFINITION. Sys2Proof/Machine/Dispatch.lean: the effect of a command on everything but the queue, one arm per
constructor of `Instr`.
-/

namespace Sys2Proof.Machine

def exec (i : Instr) (s : State) : Host.Outcome State Fault Refusal :=
  match i with
  | .add t rd ra rb => Sys2Proof.Machine.execAdd t rd ra rb s
  | .sub t rd ra rb => Sys2Proof.Machine.execSub t rd ra rb s
  | .addw t rd ra rb => Sys2Proof.Machine.execAddw t rd ra rb s
  | .subw t rd ra rb => Sys2Proof.Machine.execSubw t rd ra rb s
  | .and t rd ra rb => Sys2Proof.Machine.execAnd t rd ra rb s
  | .or t rd ra rb => Sys2Proof.Machine.execOr t rd ra rb s
  | .xor t rd ra rb => Sys2Proof.Machine.execXor t rd ra rb s
  | .andn t rd ra rb => Sys2Proof.Machine.execAndn t rd ra rb s
  | .sll t rd ra rb => Sys2Proof.Machine.execSll t rd ra rb s
  | .srl t rd ra rb => Sys2Proof.Machine.execSrl t rd ra rb s
  | .sra t rd ra rb => Sys2Proof.Machine.execSra t rd ra rb s
  | .slt t rd ra rb => Sys2Proof.Machine.execSlt t rd ra rb s
  | .sltu t rd ra rb => Sys2Proof.Machine.execSltu t rd ra rb s
  | .min t rd ra rb => Sys2Proof.Machine.execMin t rd ra rb s
  | .max t rd ra rb => Sys2Proof.Machine.execMax t rd ra rb s
  | .minu t rd ra rb => Sys2Proof.Machine.execMinu t rd ra rb s
  | .maxu t rd ra rb => Sys2Proof.Machine.execMaxu t rd ra rb s
  | .movz t rd ra rb => Sys2Proof.Machine.execMovz t rd ra rb s
  | .movn t rd ra rb => Sys2Proof.Machine.execMovn t rd ra rb s
  | .sxb t rd ra => Sys2Proof.Machine.execSxb t rd ra s
  | .sxh t rd ra => Sys2Proof.Machine.execSxh t rd ra s
  | .sxw t rd ra => Sys2Proof.Machine.execSxw t rd ra s
  | .zxb t rd ra => Sys2Proof.Machine.execZxb t rd ra s
  | .zxh t rd ra => Sys2Proof.Machine.execZxh t rd ra s
  | .zxw t rd ra => Sys2Proof.Machine.execZxw t rd ra s
  | .clz t rd ra => Sys2Proof.Machine.execClz t rd ra s
  | .popc t rd ra => Sys2Proof.Machine.execPopc t rd ra s
  | .addi t rd ra imm => Sys2Proof.Machine.execAddi t rd ra imm s
  | .andi t rd ra imm => Sys2Proof.Machine.execAndi t rd ra imm s
  | .ori t rd ra imm => Sys2Proof.Machine.execOri t rd ra imm s
  | .xori t rd ra imm => Sys2Proof.Machine.execXori t rd ra imm s
  | .slti t rd ra imm => Sys2Proof.Machine.execSlti t rd ra imm s
  | .sltiu t rd ra imm => Sys2Proof.Machine.execSltiu t rd ra imm s
  | .lui t rd imm => Sys2Proof.Machine.execLui t rd imm s
  | .orh t rd ra imm => Sys2Proof.Machine.execOrh t rd ra imm s
  | .slli t rd ra n => Sys2Proof.Machine.execSlli t rd ra n s
  | .srli t rd ra n => Sys2Proof.Machine.execSrli t rd ra n s
  | .srai t rd ra n => Sys2Proof.Machine.execSrai t rd ra n s
  | .mul t rd ra rb => Sys2Proof.Machine.execMul t rd ra rb s
  | .mulh t rd ra rb => Sys2Proof.Machine.execMulh t rd ra rb s
  | .mulhu t rd ra rb => Sys2Proof.Machine.execMulhu t rd ra rb s
  | .mulw t rd ra rb => Sys2Proof.Machine.execMulw t rd ra rb s
  | .div t rd ra rb => Sys2Proof.Machine.execDiv t rd ra rb s
  | .divu t rd ra rb => Sys2Proof.Machine.execDivu t rd ra rb s
  | .rem t rd ra rb => Sys2Proof.Machine.execRem t rd ra rb s
  | .remu t rd ra rb => Sys2Proof.Machine.execRemu t rd ra rb s
  | .divw t rd ra rb => Sys2Proof.Machine.execDivw t rd ra rb s
  | .divuw t rd ra rb => Sys2Proof.Machine.execDivuw t rd ra rb s
  | .remw t rd ra rb => Sys2Proof.Machine.execRemw t rd ra rb s
  | .remuw t rd ra rb => Sys2Proof.Machine.execRemuw t rd ra rb s
  | .mfs t rd sr => Sys2Proof.Machine.execMfs t rd sr s
  | .mts t sr ra => Sys2Proof.Machine.execMts t sr ra s
  | .fence t => Sys2Proof.Machine.execFence t s
  | .xret t => Sys2Proof.Machine.execXret t s
  | .trap t n => Sys2Proof.Machine.execTrap t n s
  | .brk t => Sys2Proof.Machine.execBrk t s
  | .idle t => Sys2Proof.Machine.execIdle t s
  | .flush t ra disp => Sys2Proof.Machine.execFlush t ra disp s
  | .inval t ra disp => Sys2Proof.Machine.execInval t ra disp s
  | .lb t rt ra disp => Sys2Proof.Machine.execLb t rt ra disp s
  | .lbu t rt ra disp => Sys2Proof.Machine.execLbu t rt ra disp s
  | .lh t rt ra disp => Sys2Proof.Machine.execLh t rt ra disp s
  | .lhu t rt ra disp => Sys2Proof.Machine.execLhu t rt ra disp s
  | .lw t rt ra disp => Sys2Proof.Machine.execLw t rt ra disp s
  | .lwu t rt ra disp => Sys2Proof.Machine.execLwu t rt ra disp s
  | .ld t rt ra disp => Sys2Proof.Machine.execLd t rt ra disp s
  | .sb t rt ra disp => Sys2Proof.Machine.execSb t rt ra disp s
  | .sh t rt ra disp => Sys2Proof.Machine.execSh t rt ra disp s
  | .sw t rt ra disp => Sys2Proof.Machine.execSw t rt ra disp s
  | .sd t rt ra disp => Sys2Proof.Machine.execSd t rt ra disp s
  | .aaddw t rd ra rb => Sys2Proof.Machine.execAaddw t rd ra rb s
  | .aandw t rd ra rb => Sys2Proof.Machine.execAandw t rd ra rb s
  | .aorw t rd ra rb => Sys2Proof.Machine.execAorw t rd ra rb s
  | .axorw t rd ra rb => Sys2Proof.Machine.execAxorw t rd ra rb s
  | .aswpw t rd ra rb => Sys2Proof.Machine.execAswpw t rd ra rb s
  | .acasw t rd ra rb => Sys2Proof.Machine.execAcasw t rd ra rb s
  | .aaddd t rd ra rb => Sys2Proof.Machine.execAaddd t rd ra rb s
  | .aandd t rd ra rb => Sys2Proof.Machine.execAandd t rd ra rb s
  | .aord t rd ra rb => Sys2Proof.Machine.execAord t rd ra rb s
  | .axord t rd ra rb => Sys2Proof.Machine.execAxord t rd ra rb s
  | .aswpd t rd ra rb => Sys2Proof.Machine.execAswpd t rd ra rb s
  | .acasd t rd ra rb => Sys2Proof.Machine.execAcasd t rd ra rb s
  | .beq t ra rb off => Sys2Proof.Machine.execBeq t ra rb off s
  | .bne t ra rb off => Sys2Proof.Machine.execBne t ra rb off s
  | .blt t ra rb off => Sys2Proof.Machine.execBlt t ra rb off s
  | .bge t ra rb off => Sys2Proof.Machine.execBge t ra rb off s
  | .bltu t ra rb off => Sys2Proof.Machine.execBltu t ra rb off s
  | .bgeu t ra rb off => Sys2Proof.Machine.execBgeu t ra rb off s
  | .bccz t off => Sys2Proof.Machine.execBccz t off s
  | .bccnz t off => Sys2Proof.Machine.execBccnz t off s
  | .j t off => Sys2Proof.Machine.execJ t off s
  | .jal t off => Sys2Proof.Machine.execJal t off s
  | .jalr t rd ra imm => Sys2Proof.Machine.execJalr t rd ra imm s
  | .wld t w ra disp => Sys2Proof.Machine.execWld t w ra disp s
  | .wst t w ra disp => Sys2Proof.Machine.execWst t w ra disp s
  | .wadd t wd wa wb => Sys2Proof.Machine.execWadd t wd wa wb s
  | .wsub t wd wa wb => Sys2Proof.Machine.execWsub t wd wa wb s
  | .waddu t wd wa wb => Sys2Proof.Machine.execWaddu t wd wa wb s
  | .wsubu t wd wa wb => Sys2Proof.Machine.execWsubu t wd wa wb s
  | .wadds t wd wa wb => Sys2Proof.Machine.execWadds t wd wa wb s
  | .wsubs t wd wa wb => Sys2Proof.Machine.execWsubs t wd wa wb s
  | .wmulh t wd wa wb => Sys2Proof.Machine.execWmulh t wd wa wb s
  | .wmulq t wd wa wb k => Sys2Proof.Machine.execWmulq t wd wa wb k s
  | .wmulsq t wd wa wb k => Sys2Proof.Machine.execWmulsq t wd wa wb k s
  | .wdivq t wd wa wb k => Sys2Proof.Machine.execWdivq t wd wa wb k s
  | .wlerp t wd wa wb k => Sys2Proof.Machine.execWlerp t wd wa wb k s
  | .wminu t wd wa wb => Sys2Proof.Machine.execWminu t wd wa wb s
  | .wmaxu t wd wa wb => Sys2Proof.Machine.execWmaxu t wd wa wb s
  | .wmins t wd wa wb => Sys2Proof.Machine.execWmins t wd wa wb s
  | .wmaxs t wd wa wb => Sys2Proof.Machine.execWmaxs t wd wa wb s
  | .wand t wd wa wb => Sys2Proof.Machine.execWand t wd wa wb s
  | .wor t wd wa wb => Sys2Proof.Machine.execWor t wd wa wb s
  | .wxor t wd wa wb => Sys2Proof.Machine.execWxor t wd wa wb s
  | .wandn t wd wa wb => Sys2Proof.Machine.execWandn t wd wa wb s
  | .wsll t wd wa k => Sys2Proof.Machine.execWsll t wd wa k s
  | .wsrl t wd wa k => Sys2Proof.Machine.execWsrl t wd wa k s
  | .wsra t wd wa k => Sys2Proof.Machine.execWsra t wd wa k s
  | .wcmpeq t wd wa wb => Sys2Proof.Machine.execWcmpeq t wd wa wb s
  | .wcmpltu t wd wa wb => Sys2Proof.Machine.execWcmpltu t wd wa wb s
  | .wcmplts t wd wa wb => Sys2Proof.Machine.execWcmplts t wd wa wb s
  | .wsel t wd wa wb => Sys2Proof.Machine.execWsel t wd wa wb s
  | .wsplat t wd g => Sys2Proof.Machine.execWsplat t wd g s
  | .wins t wd g k => Sys2Proof.Machine.execWins t wd g k s
  | .wext t g wa k => Sys2Proof.Machine.execWext t g wa k s
  | .wmov t wd wa => Sys2Proof.Machine.execWmov t wd wa s
  | .wgetd t g wa k => Sys2Proof.Machine.execWgetd t g wa k s
  | .wputd t wd g k => Sys2Proof.Machine.execWputd t wd g k s
  | .wsum t g wa => Sys2Proof.Machine.execWsum t g wa s
  | .wperm t wd wa wb => Sys2Proof.Machine.execWperm t wd wa wb s
  | .interrupt => Sys2Proof.Machine.execInterrupt s
  | .writeback core idx => Sys2Proof.Machine.execWriteback core idx s
  | .qpush t ra rb w => Sys2Proof.Machine.execQpush t ra rb w s
  | .qpop t rd ra w => Sys2Proof.Machine.execQpop t rd ra w s
  | .tlook t rd ra w table => Sys2Proof.Machine.execTlook t rd ra w table s
  | .tlaunch t rd ra rb w => Sys2Proof.Machine.execTlaunch t rd ra rb w s
  | .fwrite t ra w => Sys2Proof.Machine.execFwrite t ra w s
  | .fread t ra w sel => Sys2Proof.Machine.execFread t ra w sel s
  | .surge t ra rb => Sys2Proof.Machine.execSurge t ra rb s
  | .commit t w => Sys2Proof.Machine.execCommit t w s
  | .mbxs t ra rb => Sys2Proof.Machine.execMbxs t ra rb s
  | .mbxr t rd ra => Sys2Proof.Machine.execMbxr t rd ra s
  | .dbellRing t ra rb => Sys2Proof.Machine.execDbellRing t ra rb s
  | .dbellTake t rd ra => Sys2Proof.Machine.execDbellTake t rd ra s
  | .dbellMask t ra => Sys2Proof.Machine.execDbellMask t ra s
  | .wait t rd ra => Sys2Proof.Machine.execWait t rd ra s
  | .waitTimeout t => Sys2Proof.Machine.execWaitTimeout t s
  | .eput t rd ra rb w => Sys2Proof.Machine.execEput t rd ra rb w s
  | .mread t rd ra w sel => Sys2Proof.Machine.execMread t rd ra w sel s
  | .log t ra rb w => Sys2Proof.Machine.execLog t ra rb w s
  | .random t rd ra rb w => Sys2Proof.Machine.execRandom t rd ra rb w s
  | .aesEnc t rd ra rb w => Sys2Proof.Machine.execAesEnc t rd ra rb w s
  | .aesDec t rd ra rb w => Sys2Proof.Machine.execAesDec t rd ra rb w s
  | .gcmSeal t rd ra rb w => Sys2Proof.Machine.execGcmSeal t rd ra rb w s
  | .gcmOpen t rd ra rb w => Sys2Proof.Machine.execGcmOpen t rd ra rb w s
  | .cmac t rd ra rb w => Sys2Proof.Machine.execCmac t rd ra rb w s
  | .hmac t rd ra rb w => Sys2Proof.Machine.execHmac t rd ra rb w s
  | .hash t rd ra rb w => Sys2Proof.Machine.execHash t rd ra rb w s
  | .sign t rd ra rb w => Sys2Proof.Machine.execSign t rd ra rb w s
  | .verify t rd ra rb w => Sys2Proof.Machine.execVerify t rd ra rb w s
  | .ecdh t rd ra rb w => Sys2Proof.Machine.execEcdh t rd ra rb w s
  | .derive t rd ra rb w => Sys2Proof.Machine.execDerive t rd ra rb w s
  | .generate t rd ra rb w => Sys2Proof.Machine.execGenerate t rd ra rb w s
  | .wrap t rd ra rb w => Sys2Proof.Machine.execWrap t rd ra rb w s
  | .unwrap t rd ra rb w => Sys2Proof.Machine.execUnwrap t rd ra rb w s
  | .erase t rd ra rb w => Sys2Proof.Machine.execErase t rd ra rb w s
  | .info t rd ra rb w => Sys2Proof.Machine.execInfo t rd ra rb w s
  | .primitiveComplete t => Sys2Proof.Machine.execPrimitiveComplete t s
  | .commandComplete blk => Sys2Proof.Machine.execCommandComplete blk s
  | .registerWrite r addr v => Sys2Proof.Machine.execRegisterWrite r addr v s
  | .snapshotRead r addr => Sys2Proof.Machine.execSnapshotRead r addr s
  | .timerArm r t n v => Sys2Proof.Machine.execTimerArm r t n v s
  | .timerFire t n => Sys2Proof.Machine.execTimerFire t n s
  | .softSet r t v => Sys2Proof.Machine.execSoftSet r t v s
  | .dbSet r core v => Sys2Proof.Machine.execDbSet r core v s
  | .threadStart r => Sys2Proof.Machine.execThreadStart r s
  | .threadStop r => Sys2Proof.Machine.execThreadStop r s
  | .coreReset r => Sys2Proof.Machine.execCoreReset r s
  | .cacheSync r => Sys2Proof.Machine.execCacheSync r s
  | .dvfs r => Sys2Proof.Machine.execDvfs r s
  | .dvfsDone c => Sys2Proof.Machine.execDvfsDone c s
  | .threadRestart t => Sys2Proof.Machine.execThreadRestart t s
  | .mbxTxWrite r agent rcv v => Sys2Proof.Machine.execMbxTxWrite r agent rcv v s
  | .mbxRxRead r agent snd => Sys2Proof.Machine.execMbxRxRead r agent snd s
  | .mbxDbSet r agent v => Sys2Proof.Machine.execMbxDbSet r agent v s
  | .calLoad r => Sys2Proof.Machine.execCalLoad r s
  | .mapSet r => Sys2Proof.Machine.execMapSet r s
  | .tempSet r => Sys2Proof.Machine.execTempSet r s
  | .recalc r => Sys2Proof.Machine.execRecalc r s
  | .abort r => Sys2Proof.Machine.execAbort r s
  | .resync r => Sys2Proof.Machine.execResync r s
  | .nodeState r => Sys2Proof.Machine.execNodeState r s
  | .firnEnable r v => Sys2Proof.Machine.execFirnEnable r v s
  | .firnFillDone => Sys2Proof.Machine.execFirnFillDone s
  | .firnDisable r v => Sys2Proof.Machine.execFirnDisable r v s
  | .commitCheckEnd => Sys2Proof.Machine.execCommitCheckEnd s
  | .epoch => Sys2Proof.Machine.execEpoch s
  | .copyDone => Sys2Proof.Machine.execCopyDone s
  | .abortCutoff => Sys2Proof.Machine.execAbortCutoff s
  | .surgeDrop ep => Sys2Proof.Machine.execSurgeDrop ep s
  | .tempStale node => Sys2Proof.Machine.execTempStale node s
  | .discover r => Sys2Proof.Machine.execDiscover r s
  | .planLoad r => Sys2Proof.Machine.execPlanLoad r s
  | .conflictClr r => Sys2Proof.Machine.execConflictClr r s
  | .nodeInfo r => Sys2Proof.Machine.execNodeInfo r s
  | .sastHandover r => Sys2Proof.Machine.execSastHandover r s
  | .disassoc r => Sys2Proof.Machine.execDisassoc r s
  | .grantSet r => Sys2Proof.Machine.execGrantSet r s
  | .tetherOpen r => Sys2Proof.Machine.execTetherOpen r s
  | .tetherClose r => Sys2Proof.Machine.execTetherClose r s
  | .headCap r => Sys2Proof.Machine.execHeadCap r s
  | .sastEnable r v => Sys2Proof.Machine.execSastEnable r v s
  | .budgetWrite r cell v => Sys2Proof.Machine.execBudgetWrite r cell v s
  | .advChWrite r v => Sys2Proof.Machine.execAdvChWrite r v s
  | .chainLock chain => Sys2Proof.Machine.execChainLock chain s
  | .capWaitExpiry chain => Sys2Proof.Machine.execCapWaitExpiry chain s
  | .cap chain pos d => Sys2Proof.Machine.execCap chain pos d s
  | .echoRsp chain pos rtt turn => Sys2Proof.Machine.execEchoRsp chain pos rtt turn s
  | .hopMeasure head rtts turns => Sys2Proof.Machine.execHopMeasure head rtts turns s
  | .txDone head seq result => Sys2Proof.Machine.execTxDone head seq result s
  | .holdOff head mask durUs => Sys2Proof.Machine.execHoldOff head mask durUs s
  | .holdoffExpiry head => Sys2Proof.Machine.execHoldoffExpiry head s
  | .status head bits => Sys2Proof.Machine.execStatus head bits s
  | .chainBreak chain pos lockLost => Sys2Proof.Machine.execChainBreak chain pos lockLost s
  | .sync => Sys2Proof.Machine.execSync s
  | .slotBoundary => Sys2Proof.Machine.execSlotBoundary s
  | .superframeBoundary => Sys2Proof.Machine.execSuperframeBoundary s
  | .conflictWindow => Sys2Proof.Machine.execConflictWindow s
  | .report rx rep => Sys2Proof.Machine.execReport rx rep s
  | .partAck rx frame epoch bitmap => Sys2Proof.Machine.execPartAck rx frame epoch bitmap s
  | .detect rx data => Sys2Proof.Machine.execDetect rx data s
  | .dataUp rx data => Sys2Proof.Machine.execDataUp rx data s
  | .assocReq rx caps => Sys2Proof.Machine.execAssocReq rx caps s
  | .assocResp eui => Sys2Proof.Machine.execAssocResp eui s
  | .handoverSwitch node acked => Sys2Proof.Machine.execHandoverSwitch node acked s
  | .nodeLost node => Sys2Proof.Machine.execNodeLost node s
  | .addressRelease node => Sys2Proof.Machine.execAddressRelease node s
  | .tetherAdv head eui lastHead => Sys2Proof.Machine.execTetherAdv head eui lastHead s
  | .tetherEvent idx => Sys2Proof.Machine.execTetherEvent idx s
  | .tetherData idx data => Sys2Proof.Machine.execTetherData idx data s
  | .tetherEnd idx => Sys2Proof.Machine.execTetherEnd idx s
  | .sigCapture r => Sys2Proof.Machine.execSigCapture r s
  | .energyPreset r => Sys2Proof.Machine.execEnergyPreset r s
  | .xcalReset r => Sys2Proof.Machine.execXcalReset r s
  | .reconReset r => Sys2Proof.Machine.execReconReset r s
  | .meltCtrlWrite r v => Sys2Proof.Machine.execMeltCtrlWrite r v s
  | .blockEnd meas => Sys2Proof.Machine.execBlockEnd meas s
  | .secondLatch => Sys2Proof.Machine.execSecondLatch s
  | .intervalClose => Sys2Proof.Machine.execIntervalClose s
  | .reconcile => Sys2Proof.Machine.execReconcile s
  | .harmonicWindow feeder sig x => Sys2Proof.Machine.execHarmonicWindow feeder sig x s
  | .pulseEmit n => Sys2Proof.Machine.execPulseEmit n s
  | .sigSettleEnd feeder => Sys2Proof.Machine.execSigSettleEnd feeder s
  | .podLost feeder words => Sys2Proof.Machine.execPodLost feeder words s
  | .podFound feeder lane => Sys2Proof.Machine.execPodFound feeder lane s
  | .stepTo r => Sys2Proof.Machine.execStepTo r s
  | .stepBy r => Sys2Proof.Machine.execStepBy r s
  | .rateSet r => Sys2Proof.Machine.execRateSet r s
  | .servoMeasure slew => Sys2Proof.Machine.execServoMeasure slew s
  | .holdover => Sys2Proof.Machine.execHoldover s
  | .warm => Sys2Proof.Machine.execWarm s
  | .ptpMessage port m => Sys2Proof.Machine.execPtpMessage port m s
  | .ppsEdge => Sys2Proof.Machine.execPpsEdge s
  | .ppsLost => Sys2Proof.Machine.execPpsLost s
  | .ppsOut => Sys2Proof.Machine.execPpsOut s
  | .launch q => Sys2Proof.Machine.execLaunch q s
  | .lateDrop q => Sys2Proof.Machine.execLateDrop q s
  | .ethRx port f => Sys2Proof.Machine.execEthRx port f s
  | .pause port quanta => Sys2Proof.Machine.execPause port quanta s
  | .pfc port vector quanta => Sys2Proof.Machine.execPfc port vector quanta s
  | .pauseExpiry port pri => Sys2Proof.Machine.execPauseExpiry port pri s
  | .pauseRepeat port => Sys2Proof.Machine.execPauseRepeat port s
  | .link port speed up => Sys2Proof.Machine.execLink port speed up s
  | .l2Age idx => Sys2Proof.Machine.execL2Age idx s
  | .tcamScrub bad => Sys2Proof.Machine.execTcamScrub bad s
  | .lookup r => Sys2Proof.Machine.execLookup r s
  | .insert r => Sys2Proof.Machine.execInsert r s
  | .delete r => Sys2Proof.Machine.execDelete r s
  | .srcRead r => Sys2Proof.Machine.execSrcRead r s
  | .srcWrite r => Sys2Proof.Machine.execSrcWrite r s
  | .qCfg r => Sys2Proof.Machine.execQCfg r s
  | .maxpktSet r => Sys2Proof.Machine.execMaxpktSet r s
  | .pop r => Sys2Proof.Machine.execPop r s
  | .push r => Sys2Proof.Machine.execPush r s
  | .saInstall r => Sys2Proof.Machine.execSaInstall r s
  | .saStartTx r => Sys2Proof.Machine.execSaStartTx r s
  | .saRemove r => Sys2Proof.Machine.execSaRemove r s
  | .format r => Sys2Proof.Machine.execFormat r s
  | .streamCfg r => Sys2Proof.Machine.execStreamCfg r s
  | .streamInfo r => Sys2Proof.Machine.execStreamInfo r s
  | .readRange r => Sys2Proof.Machine.execReadRange r s
  | .readSeq r => Sys2Proof.Machine.execReadSeq r s
  | .rebuild r => Sys2Proof.Machine.execRebuild r s
  | .morEnable r v => Sys2Proof.Machine.execMorEnable r v s
  | .blockWrite stream => Sys2Proof.Machine.execBlockWrite stream s
  | .storLinkUp stor drives => Sys2Proof.Machine.execStorLinkUp stor drives s
  | .smartPoll drive wear critical => Sys2Proof.Machine.execSmartPoll drive wear critical s
  | .driveLost drive => Sys2Proof.Machine.execDriveLost drive s
  | .rebuilt drive => Sys2Proof.Machine.execRebuilt drive s
  | .trim stream => Sys2Proof.Machine.execTrim stream s
  | .heartbeatSend => Sys2Proof.Machine.execHeartbeatSend s
  | .heartbeat hb => Sys2Proof.Machine.execHeartbeat hb s
  | .peerLost => Sys2Proof.Machine.execPeerLost s
  | .takeover inA inB => Sys2Proof.Machine.execTakeover inA inB s
  | .claimRetry inA inB => Sys2Proof.Machine.execClaimRetry inA inB s
  | .wdogKick r v => Sys2Proof.Machine.execWdogKick r v s
  | .wdogExpiry => Sys2Proof.Machine.execWdogExpiry s
  | .mirrorUpdate seq u => Sys2Proof.Machine.execMirrorUpdate seq u s
  | .mirrorAckTimeout => Sys2Proof.Machine.execMirrorAckTimeout s
  | .bulkCopyDone => Sys2Proof.Machine.execBulkCopyDone s
  | .mregSizeWrite r region v => Sys2Proof.Machine.execMregSizeWrite r region v s
  | .pairHandover r => Sys2Proof.Machine.execPairHandover r s
  | .handoverMsg tSec drill fail => Sys2Proof.Machine.execHandoverMsg tSec drill fail s
  | .handoverRelease => Sys2Proof.Machine.execHandoverRelease s
  | .revert => Sys2Proof.Machine.execRevert s
  | .drill r => Sys2Proof.Machine.execDrill r s
  | .drillSchedule => Sys2Proof.Machine.execDrillSchedule s
  | .drillEnd failMask => Sys2Proof.Machine.execDrillEnd failMask s
  | .floeMode r => Sys2Proof.Machine.execFloeMode r s
  | .memberInfo r => Sys2Proof.Machine.execMemberInfo r s
  | .ringBeaconSend => Sys2Proof.Machine.execRingBeaconSend s
  | .ringBeacon viaW b => Sys2Proof.Machine.execRingBeacon viaW b s
  | .memberTimeout idx => Sys2Proof.Machine.execMemberTimeout idx s
  | .spanBreak west => Sys2Proof.Machine.execSpanBreak west s
  | .spanRestored west => Sys2Proof.Machine.execSpanRestored west s
  | .leadChange => Sys2Proof.Machine.execLeadChange s
  | .prepare h term id kind target epochS epochNs => Sys2Proof.Machine.execPrepare h term id kind target epochS epochNs s
  | .ready h id => Sys2Proof.Machine.execReady h id s
  | .refuse h id code => Sys2Proof.Machine.execRefuse h id code s
  | .prepareTimeout => Sys2Proof.Machine.execPrepareTimeout s
  | .prepareWaitExpiry => Sys2Proof.Machine.execPrepareWaitExpiry s
  | .floeAbort h term id => Sys2Proof.Machine.execFloeAbort h term id s
  | .abortRepeat => Sys2Proof.Machine.execAbortRepeat s
  | .floeEpoch => Sys2Proof.Machine.execFloeEpoch s
  | .skewCheck => Sys2Proof.Machine.execSkewCheck s
  | .set h term mode dst => Sys2Proof.Machine.execSet h term mode dst s
  | .modeRequest r v => Sys2Proof.Machine.execModeRequest r v s
  | .outPermitWrite r v => Sys2Proof.Machine.execOutPermitWrite r v s
  | .ctrOwnWrite r n v => Sys2Proof.Machine.execCtrOwnWrite r n v s
  | .ctrCmdWrite r n v => Sys2Proof.Machine.execCtrCmdWrite r n v s
  | .eccCeClear r v => Sys2Proof.Machine.execEccCeClear r v s
  | .pwronN => Sys2Proof.Machine.execPwronN s
  | .islandReady bit => Sys2Proof.Machine.execIslandReady bit s
  | .fallback => Sys2Proof.Machine.execFallback s
  | .autoIsland => Sys2Proof.Machine.execAutoIsland s
  | .autoReturn => Sys2Proof.Machine.execAutoReturn s
  | .rimeSample raw => Sys2Proof.Machine.execRimeSample raw s
  | .ruleChange rule => Sys2Proof.Machine.execRuleChange rule s
  | .ruleWrite r rule word v => Sys2Proof.Machine.execRuleWrite r rule word v s
  | .rimeColdStart => Sys2Proof.Machine.execRimeColdStart s
  | .powerFailWarning => Sys2Proof.Machine.execPowerFailWarning s
  | .pfwClear => Sys2Proof.Machine.execPfwClear s
  | .holdupEnd => Sys2Proof.Machine.execHoldupEnd s
  | .feedRestore a b => Sys2Proof.Machine.execFeedRestore a b s
  | .rtcLockout low => Sys2Proof.Machine.execRtcLockout low s
  | .scapLow low => Sys2Proof.Machine.execScapLow low s
  | .coinLow low => Sys2Proof.Machine.execCoinLow low s
  | .extWake => Sys2Proof.Machine.execExtWake s
  | .rtcSecond => Sys2Proof.Machine.execRtcSecond s
  | .rtcSet r v => Sys2Proof.Machine.execRtcSet r v s
  | .tamper1 src => Sys2Proof.Machine.execTamper1 src s
  | .tamper2 src => Sys2Proof.Machine.execTamper2 src s
  | .iceFlushed => Sys2Proof.Machine.execIceFlushed s
  | .iceWinRead r k => Sys2Proof.Machine.execIceWinRead r k s
  | .rimeFlush r => Sys2Proof.Machine.execRimeFlush r s
  | .record r => Sys2Proof.Machine.execRecord r s
  | .ringClear r => Sys2Proof.Machine.execRingClear r s
  | .thermalSample temps coils minRpm ia ib => Sys2Proof.Machine.execThermalSample temps coils minRpm ia ib s
  | .throttleStep => Sys2Proof.Machine.execThrottleStep s
  | .shutdown isl => Sys2Proof.Machine.execShutdown isl s
  | .vddFault isl mv => Sys2Proof.Machine.execVddFault isl mv s
  | .recoveryComplete => Sys2Proof.Machine.execRecoveryComplete s
  | .islandRestartTimeout => Sys2Proof.Machine.execIslandRestartTimeout s
  | .mgmtConnect => Sys2Proof.Machine.execMgmtConnect s
  | .mgmtRead seq addr count => Sys2Proof.Machine.execMgmtRead seq addr count s
  | .mgmtWrite seq addr ws => Sys2Proof.Machine.execMgmtWrite seq addr ws s
  | .mbxSend seq rcv v => Sys2Proof.Machine.execMbxSend seq rcv v s
  | .mbxRecv seq snd => Sys2Proof.Machine.execMbxRecv seq snd s
  | .dbTake seq bits => Sys2Proof.Machine.execDbTake seq bits s
  | .iceRead seq slot count => Sys2Proof.Machine.execIceRead seq slot count s
  | .imagePush seq off data => Sys2Proof.Machine.execImagePush seq off data s
  | .mgmtProvision seq rec => Sys2Proof.Machine.execMgmtProvision seq rec s
  | .mgmtStatus seq => Sys2Proof.Machine.execMgmtStatus seq s
  | .vltOp r => Sys2Proof.Machine.execVltOp r s
  | .provision r => Sys2Proof.Machine.execProvision r s
  | .zeroise r => Sys2Proof.Machine.execZeroise r s
  | .challenge r => Sys2Proof.Machine.execChallenge r s
  | .clearTamper r => Sys2Proof.Machine.execClearTamper r s
  | .certSet r => Sys2Proof.Machine.execCertSet r s
  | .relay r => Sys2Proof.Machine.execRelay r s
  | .activate r => Sys2Proof.Machine.execActivate r s
  | .actCancel r => Sys2Proof.Machine.execActCancel r s
  | .progLoad r => Sys2Proof.Machine.execProgLoad r s
  | .svnBurn r => Sys2Proof.Machine.execSvnBurn r s
  | .pushPartner r => Sys2Proof.Machine.execPushPartner r s
  | .slotErase r => Sys2Proof.Machine.execSlotErase r s
  | .header port src imageId data => Sys2Proof.Machine.execHeader port src imageId data s
  | .leaves port src imageId part data => Sys2Proof.Machine.execLeaves port src imageId part data s
  | .chunk port src imageId idx part data => Sys2Proof.Machine.execChunk port src imageId idx part data s
  | .nack port src imageId idx => Sys2Proof.Machine.execNack port src imageId idx s
  | .act src slot epochS version => Sys2Proof.Machine.execAct src slot epochS version s
  | .relayActCancel src => Sys2Proof.Machine.execRelayActCancel src s
  | .actCheck => Sys2Proof.Machine.execActCheck s
  | .activation => Sys2Proof.Machine.execActivation s
  | .actPartnerTimeout => Sys2Proof.Machine.execActPartnerTimeout s
  | .confirmed => Sys2Proof.Machine.execConfirmed s
  | .canSend r => Sys2Proof.Machine.execCanSend r s
  | .canEnable r n v => Sys2Proof.Machine.execCanEnable r n v s
  | .rxTailWrite r n v => Sys2Proof.Machine.execRxTailWrite r n v s
  | .canRx n f => Sys2Proof.Machine.execCanRx n f s
  | .txAttemptEnd n o => Sys2Proof.Machine.execTxAttemptEnd n o s
  | .busOff n tec rec lec st => Sys2Proof.Machine.execBusOff n tec rec lec st s
  | .coilOver n => Sys2Proof.Machine.execCoilOver n s
  | .coilRetry n holds => Sys2Proof.Machine.execCoilRetry n holds s
  | .coilOpen n => Sys2Proof.Machine.execCoilOpen n s
  | .nocoilv low => Sys2Proof.Machine.execNocoilv low s
  | .fanFail f => Sys2Proof.Machine.execFanFail f s
  | .trayRemoved => Sys2Proof.Machine.execTrayRemoved s
  | .holdInChange asserted => Sys2Proof.Machine.execHoldInChange asserted s
  | .peerPresentChange asserted => Sys2Proof.Machine.execPeerPresentChange asserted s
  | .setRepeat => Sys2Proof.Machine.execSetRepeat s
  | .ptpSyncSend port => Sys2Proof.Machine.execPtpSyncSend port s
  | .peerDelayMeasure port delay => Sys2Proof.Machine.execPeerDelayMeasure port delay s
  | .egressTxEnd port => Sys2Proof.Machine.execEgressTxEnd port s
  | .wrapRelay chain f => Sys2Proof.Machine.execWrapRelay chain f s
  | .surveyBeaconRx head other rssi => Sys2Proof.Machine.execSurveyBeaconRx head other rssi s
  | .badFcsRx head rssi => Sys2Proof.Machine.execBadFcsRx head rssi s
  | .chainFrameDiscard chain => Sys2Proof.Machine.execChainFrameDiscard chain s
  | .lowPathOverload phase part => Sys2Proof.Machine.execLowPathOverload phase part s
  | .clip feeder => Sys2Proof.Machine.execClip feeder s
  | .pulseEnd n => Sys2Proof.Machine.execPulseEnd n s
  | .ppsOutFall => Sys2Proof.Machine.execPpsOutFall s
  | .pwronNRelease => Sys2Proof.Machine.execPwronNRelease s
  | .rimeStop coinLost => Sys2Proof.Machine.execRimeStop coinLost s
  | .tamper1Release src => Sys2Proof.Machine.execTamper1Release src s
  | .h2WriteDone => Sys2Proof.Machine.execH2WriteDone s
  | .mgmtDisconnect => Sys2Proof.Machine.execMgmtDisconnect s
  | .relayChunkSend => Sys2Proof.Machine.execRelayChunkSend s
  | .driveInserted slot d => Sys2Proof.Machine.execDriveInserted slot d s
  | .trayFitted => Sys2Proof.Machine.execTrayFitted s

end Sys2Proof.Machine
end

