-- ==== Sys2Proof/Machine/Idle.lean ====
section
/-!
DEFINITION. Sys2Proof/Machine/Idle.lean: what a step does when no command waits.
-/

namespace Sys2Proof.Machine

/-- One tick of 1.25 ns: words in the programs that spell no instruction are issued, and the start of Cirque goes on (log
entries 4 and 17). -/
def State.tick (s : State) : State := ((List.range 129).foldl State.selfIssue { s with now := s.now + 1 }).bootTry

/-- A step with no command waiting: a tick, and what follows from it. -/
def State.idle (s : State) : State := s.cmd State.tick

end Sys2Proof.Machine
end

