-- ==== Sys2Proof/WellFormed.lean ====
section
/-!
DEFINITION. Sys2Proof/WellFormed.lean: which commands name something that exists: requesters 0 to 131 (R36), and operands
within the numbers of threads, cores, clusters, ports, queues, chains, heads, nodes, feeders, contactors, drives, streams and
the like that the spec gives.
-/

namespace Sys2Proof

/-- Every number in a command names something that exists. -/
def Instr.wf : Instr → Bool
  | .add _ _ _ _ => true
  | .sub _ _ _ _ => true
  | .addw _ _ _ _ => true
  | .subw _ _ _ _ => true
  | .and _ _ _ _ => true
  | .or _ _ _ _ => true
  | .xor _ _ _ _ => true
  | .andn _ _ _ _ => true
  | .sll _ _ _ _ => true
  | .srl _ _ _ _ => true
  | .sra _ _ _ _ => true
  | .slt _ _ _ _ => true
  | .sltu _ _ _ _ => true
  | .min _ _ _ _ => true
  | .max _ _ _ _ => true
  | .minu _ _ _ _ => true
  | .maxu _ _ _ _ => true
  | .movz _ _ _ _ => true
  | .movn _ _ _ _ => true
  | .sxb _ _ _ => true
  | .sxh _ _ _ => true
  | .sxw _ _ _ => true
  | .zxb _ _ _ => true
  | .zxh _ _ _ => true
  | .zxw _ _ _ => true
  | .clz _ _ _ => true
  | .popc _ _ _ => true
  | .addi _ _ _ _ => true
  | .andi _ _ _ _ => true
  | .ori _ _ _ _ => true
  | .xori _ _ _ _ => true
  | .slti _ _ _ _ => true
  | .sltiu _ _ _ _ => true
  | .lui _ _ _ => true
  | .orh _ _ _ _ => true
  | .slli _ _ _ _ => true
  | .srli _ _ _ _ => true
  | .srai _ _ _ _ => true
  | .mul _ _ _ _ => true
  | .mulh _ _ _ _ => true
  | .mulhu _ _ _ _ => true
  | .mulw _ _ _ _ => true
  | .div _ _ _ _ => true
  | .divu _ _ _ _ => true
  | .rem _ _ _ _ => true
  | .remu _ _ _ _ => true
  | .divw _ _ _ _ => true
  | .divuw _ _ _ _ => true
  | .remw _ _ _ _ => true
  | .remuw _ _ _ _ => true
  | .mfs _ _ _ => true
  | .mts _ _ _ => true
  | .fence _ => true
  | .xret _ => true
  | .trap _ _ => true
  | .brk _ => true
  | .idle _ => true
  | .flush _ _ _ => true
  | .inval _ _ _ => true
  | .lb _ _ _ _ => true
  | .lbu _ _ _ _ => true
  | .lh _ _ _ _ => true
  | .lhu _ _ _ _ => true
  | .lw _ _ _ _ => true
  | .lwu _ _ _ _ => true
  | .ld _ _ _ _ => true
  | .sb _ _ _ _ => true
  | .sh _ _ _ _ => true
  | .sw _ _ _ _ => true
  | .sd _ _ _ _ => true
  | .aaddw _ _ _ _ => true
  | .aandw _ _ _ _ => true
  | .aorw _ _ _ _ => true
  | .axorw _ _ _ _ => true
  | .aswpw _ _ _ _ => true
  | .acasw _ _ _ _ => true
  | .aaddd _ _ _ _ => true
  | .aandd _ _ _ _ => true
  | .aord _ _ _ _ => true
  | .axord _ _ _ _ => true
  | .aswpd _ _ _ _ => true
  | .acasd _ _ _ _ => true
  | .beq _ _ _ _ => true
  | .bne _ _ _ _ => true
  | .blt _ _ _ _ => true
  | .bge _ _ _ _ => true
  | .bltu _ _ _ _ => true
  | .bgeu _ _ _ _ => true
  | .bccz _ _ => true
  | .bccnz _ _ => true
  | .j _ _ => true
  | .jal _ _ => true
  | .jalr _ _ _ _ => true
  | .wld _ _ _ _ => true
  | .wst _ _ _ _ => true
  | .wadd _ _ _ _ => true
  | .wsub _ _ _ _ => true
  | .waddu _ _ _ _ => true
  | .wsubu _ _ _ _ => true
  | .wadds _ _ _ _ => true
  | .wsubs _ _ _ _ => true
  | .wmulh _ _ _ _ => true
  | .wmulq _ _ _ _ _ => true
  | .wmulsq _ _ _ _ _ => true
  | .wdivq _ _ _ _ _ => true
  | .wlerp _ _ _ _ _ => true
  | .wminu _ _ _ _ => true
  | .wmaxu _ _ _ _ => true
  | .wmins _ _ _ _ => true
  | .wmaxs _ _ _ _ => true
  | .wand _ _ _ _ => true
  | .wor _ _ _ _ => true
  | .wxor _ _ _ _ => true
  | .wandn _ _ _ _ => true
  | .wsll _ _ _ _ => true
  | .wsrl _ _ _ _ => true
  | .wsra _ _ _ _ => true
  | .wcmpeq _ _ _ _ => true
  | .wcmpltu _ _ _ _ => true
  | .wcmplts _ _ _ _ => true
  | .wsel _ _ _ _ => true
  | .wsplat _ _ _ => true
  | .wins _ _ _ _ => true
  | .wext _ _ _ _ => true
  | .wmov _ _ _ => true
  | .wgetd _ _ _ _ => true
  | .wputd _ _ _ _ => true
  | .wsum _ _ _ => true
  | .wperm _ _ _ _ => true
  | .interrupt => true
  | .writeback core _ => decide (core < 33)
  | .qpush _ _ _ _ => true
  | .qpop _ _ _ _ => true
  | .tlook _ _ _ _ _ => true
  | .tlaunch _ _ _ _ _ => true
  | .fwrite _ _ _ => true
  | .fread _ _ _ _ => true
  | .surge _ _ _ => true
  | .commit _ _ => true
  | .mbxs _ _ _ => true
  | .mbxr _ _ _ => true
  | .dbellRing _ _ _ => true
  | .dbellTake _ _ _ => true
  | .dbellMask _ _ => true
  | .wait _ _ _ => true
  | .waitTimeout _ => true
  | .eput _ _ _ _ _ => true
  | .mread _ _ _ _ _ => true
  | .log _ _ _ _ => true
  | .random _ _ _ _ _ => true
  | .aesEnc _ _ _ _ _ => true
  | .aesDec _ _ _ _ _ => true
  | .gcmSeal _ _ _ _ _ => true
  | .gcmOpen _ _ _ _ _ => true
  | .cmac _ _ _ _ _ => true
  | .hmac _ _ _ _ _ => true
  | .hash _ _ _ _ _ => true
  | .sign _ _ _ _ _ => true
  | .verify _ _ _ _ _ => true
  | .ecdh _ _ _ _ _ => true
  | .derive _ _ _ _ _ => true
  | .generate _ _ _ _ _ => true
  | .wrap _ _ _ _ _ => true
  | .unwrap _ _ _ _ _ => true
  | .erase _ _ _ _ _ => true
  | .info _ _ _ _ _ => true
  | .primitiveComplete _ => true
  | .commandComplete blk => [0, 1, 3, 12, 14].contains blk
  | .registerWrite r addr _ => decide (r < 132) && addr / 2 ^ 28 == 0x400
  | .snapshotRead r addr => decide (r < 132) && addr / 2 ^ 28 == 0x400
  | .timerArm r t n _ => decide (r < 132) && decide (t < 128) && decide (n < 2)
  | .timerFire t n => decide (t < 128) && decide (n < 2)
  | .softSet r t _ => decide (r < 132) && decide (t < 128)
  | .dbSet r core _ => decide (r < 132) && decide (core < 32)
  | .threadStart r => decide (r < 132)
  | .threadStop r => decide (r < 132)
  | .coreReset r => decide (r < 132)
  | .cacheSync r => decide (r < 132)
  | .dvfs r => decide (r < 132)
  | .dvfsDone c => decide (c < 8)
  | .threadRestart t => decide (t < 128)
  | .mbxTxWrite r agent rcv _ => decide (r < 132) && decide (32 ≤ agent) && decide (agent < 36) && decide (rcv < 36)
  | .mbxRxRead r agent snd => decide (r < 132) && decide (32 ≤ agent) && decide (agent < 36) && decide (snd < 36)
  | .mbxDbSet r agent _ => decide (r < 132) && decide (32 ≤ agent) && decide (agent < 36)
  | .calLoad r => decide (r < 132)
  | .mapSet r => decide (r < 132)
  | .tempSet r => decide (r < 132)
  | .recalc r => decide (r < 132)
  | .abort r => decide (r < 132)
  | .resync r => decide (r < 132)
  | .nodeState r => decide (r < 132)
  | .firnEnable r _ => decide (r < 132)
  | .firnFillDone => true
  | .firnDisable r _ => decide (r < 132)
  | .commitCheckEnd => true
  | .epoch => true
  | .copyDone => true
  | .abortCutoff => true
  | .surgeDrop ep => decide (ep < 2 ^ 20)
  | .tempStale node => decide (node < 2 ^ 18)
  | .discover r => decide (r < 132)
  | .planLoad r => decide (r < 132)
  | .conflictClr r => decide (r < 132)
  | .nodeInfo r => decide (r < 132)
  | .sastHandover r => decide (r < 132)
  | .disassoc r => decide (r < 132)
  | .grantSet r => decide (r < 132)
  | .tetherOpen r => decide (r < 132)
  | .tetherClose r => decide (r < 132)
  | .headCap r => decide (r < 132)
  | .sastEnable r _ => decide (r < 132)
  | .budgetWrite r cell _ => decide (r < 132) && decide (cell < 64)
  | .advChWrite r _ => decide (r < 132)
  | .chainLock chain => decide (chain < 8)
  | .capWaitExpiry chain => decide (chain < 8)
  | .cap chain pos _ => decide (chain < 8) && decide (pos < 8)
  | .echoRsp chain pos _ _ => decide (chain < 8) && decide (pos < 8)
  | .hopMeasure head _ _ => decide (head < 64)
  | .txDone head _ _ => decide (head < 64)
  | .holdOff head _ _ => decide (head < 64)
  | .holdoffExpiry head => decide (head < 64)
  | .status head _ => decide (head < 64)
  | .chainBreak chain pos _ => decide (chain < 8) && decide (pos < 8)
  | .sync => true
  | .slotBoundary => true
  | .superframeBoundary => true
  | .conflictWindow => true
  | .report rx _ => decide (rx.head < 64) && decide (rx.ch < 8)
  | .partAck rx _ _ _ => decide (rx.head < 64) && decide (rx.ch < 8)
  | .detect rx _ => decide (rx.head < 64) && decide (rx.ch < 8)
  | .dataUp rx _ => decide (rx.head < 64) && decide (rx.ch < 8)
  | .assocReq rx _ => decide (rx.head < 64) && decide (rx.ch < 8)
  | .assocResp _ => true
  | .handoverSwitch node _ => decide (node < 2 ^ 18)
  | .nodeLost node => decide (node < 2 ^ 18)
  | .addressRelease node => decide (node < 2 ^ 18)
  | .tetherAdv head _ _ => decide (head < 64)
  | .tetherEvent idx => decide (idx < 16)
  | .tetherData idx _ => decide (idx < 16)
  | .tetherEnd idx => decide (idx < 16)
  | .sigCapture r => decide (r < 132)
  | .energyPreset r => decide (r < 132)
  | .xcalReset r => decide (r < 132)
  | .reconReset r => decide (r < 132)
  | .meltCtrlWrite r _ => decide (r < 132)
  | .blockEnd meas => meas.all (fun b => decide (b.feeder < 16))
  | .secondLatch => true
  | .intervalClose => true
  | .reconcile => true
  | .harmonicWindow feeder sig _ => decide (feeder < 16) && decide (sig < 8)
  | .pulseEmit n => decide (n < 16)
  | .sigSettleEnd feeder => decide (feeder < 16)
  | .podLost feeder _ => decide (feeder < 16)
  | .podFound feeder _ => decide (feeder < 16)
  | .stepTo r => decide (r < 132)
  | .stepBy r => decide (r < 132)
  | .rateSet r => decide (r < 132)
  | .servoMeasure _ => true
  | .holdover => true
  | .warm => true
  | .ptpMessage port _ => decide (port < 5)
  | .ppsEdge => true
  | .ppsLost => true
  | .ppsOut => true
  | .launch q => (decide (q < 6) || (decide (8 ≤ q) && decide (q < 20)))
  | .lateDrop q => (decide (q < 6) || (decide (8 ≤ q) && decide (q < 20)))
  | .ethRx port _ => decide (port < 6)
  | .pause port _ => decide (port < 6)
  | .pfc port _ _ => decide (port < 6)
  | .pauseExpiry port pri => decide (port < 6) && decide (pri < 8)
  | .pauseRepeat port => decide (port < 6)
  | .link port _ _ => decide (port < 6)
  | .l2Age idx => decide (idx < 65536)
  | .tcamScrub _ => true
  | .lookup r => decide (r < 132)
  | .insert r => decide (r < 132)
  | .delete r => decide (r < 132)
  | .srcRead r => decide (r < 132)
  | .srcWrite r => decide (r < 132)
  | .qCfg r => decide (r < 132)
  | .maxpktSet r => decide (r < 132)
  | .pop r => decide (r < 132)
  | .push r => decide (r < 132)
  | .saInstall r => decide (r < 132)
  | .saStartTx r => decide (r < 132)
  | .saRemove r => decide (r < 132)
  | .format r => decide (r < 132)
  | .streamCfg r => decide (r < 132)
  | .streamInfo r => decide (r < 132)
  | .readRange r => decide (r < 132)
  | .readSeq r => decide (r < 132)
  | .rebuild r => decide (r < 132)
  | .morEnable r _ => decide (r < 132)
  | .blockWrite stream => decide (stream < 256)
  | .storLinkUp stor _ => decide (stor < 4)
  | .smartPoll drive _ _ => decide (drive < 16)
  | .driveLost drive => decide (drive < 16)
  | .rebuilt drive => decide (drive < 16)
  | .trim stream => decide (stream < 256)
  | .heartbeatSend => true
  | .heartbeat _ => true
  | .peerLost => true
  | .takeover _ _ => true
  | .claimRetry _ _ => true
  | .wdogKick r _ => decide (r < 132)
  | .wdogExpiry => true
  | .mirrorUpdate _ _ => true
  | .mirrorAckTimeout => true
  | .bulkCopyDone => true
  | .mregSizeWrite r region _ => decide (r < 132) && decide (region < 16)
  | .pairHandover r => decide (r < 132)
  | .handoverMsg _ _ _ => true
  | .handoverRelease => true
  | .revert => true
  | .drill r => decide (r < 132)
  | .drillSchedule => true
  | .drillEnd _ => true
  | .floeMode r => decide (r < 132)
  | .memberInfo r => decide (r < 132)
  | .ringBeaconSend => true
  | .ringBeacon _ b => decide (b.src < 1024)
  | .memberTimeout idx => decide (idx < 1024)
  | .spanBreak _ => true
  | .spanRestored _ => true
  | .leadChange => true
  | .prepare h _ _ _ _ _ _ => decide (h.src < 1024)
  | .ready h _ => decide (h.src < 1024)
  | .refuse h _ _ => decide (h.src < 1024)
  | .prepareTimeout => true
  | .prepareWaitExpiry => true
  | .floeAbort h _ _ => decide (h.src < 1024)
  | .abortRepeat => true
  | .floeEpoch => true
  | .skewCheck => true
  | .set h _ _ _ => decide (h.src < 1024)
  | .modeRequest r _ => decide (r < 132)
  | .outPermitWrite r _ => decide (r < 132)
  | .ctrOwnWrite r n _ => decide (r < 132) && decide (n < 4)
  | .ctrCmdWrite r n _ => decide (r < 132) && decide (n < 4)
  | .eccCeClear r _ => decide (r < 132)
  | .pwronN => true
  | .islandReady bit => decide (bit < 26)
  | .fallback => true
  | .autoIsland => true
  | .autoReturn => true
  | .rimeSample _ => true
  | .ruleChange rule => decide (rule < 32)
  | .ruleWrite r rule word _ => decide (r < 132) && decide (rule < 32) && decide (word < 3)
  | .rimeColdStart => true
  | .powerFailWarning => true
  | .pfwClear => true
  | .holdupEnd => true
  | .feedRestore _ _ => true
  | .rtcLockout _ => true
  | .scapLow _ => true
  | .coinLow _ => true
  | .extWake => true
  | .rtcSecond => true
  | .rtcSet r _ => decide (r < 132)
  | .tamper1 _ => true
  | .tamper2 _ => true
  | .iceFlushed => true
  | .iceWinRead r k => decide (r < 132) && decide (k < 72)
  | .rimeFlush r => decide (r < 132)
  | .record r => decide (r < 132)
  | .ringClear r => decide (r < 132)
  | .thermalSample _ _ _ _ _ => true
  | .throttleStep => true
  | .shutdown isl => decide (isl < 21)
  | .vddFault isl _ => decide (isl < 21)
  | .recoveryComplete => true
  | .islandRestartTimeout => true
  | .mgmtConnect => true
  | .mgmtRead _ _ _ => true
  | .mgmtWrite _ _ _ => true
  | .mbxSend _ _ _ => true
  | .mbxRecv _ _ => true
  | .dbTake _ _ => true
  | .iceRead _ _ _ => true
  | .imagePush _ _ _ => true
  | .mgmtProvision _ _ => true
  | .mgmtStatus _ => true
  | .vltOp r => decide (r < 132)
  | .provision r => decide (r < 132)
  | .zeroise r => decide (r < 132)
  | .challenge r => decide (r < 132)
  | .clearTamper r => decide (r < 132)
  | .certSet r => decide (r < 132)
  | .relay r => decide (r < 132)
  | .activate r => decide (r < 132)
  | .actCancel r => decide (r < 132)
  | .progLoad r => decide (r < 132)
  | .svnBurn r => decide (r < 132)
  | .pushPartner r => decide (r < 132)
  | .slotErase r => decide (r < 132)
  | .header port _ _ _ => decide (port < 5)
  | .leaves port _ _ _ _ => decide (port < 5)
  | .chunk port _ _ _ _ _ => decide (port < 5)
  | .nack port _ _ _ => decide (port < 5)
  | .act _ slot _ _ => decide (slot < 2)
  | .relayActCancel _ => true
  | .actCheck => true
  | .activation => true
  | .actPartnerTimeout => true
  | .confirmed => true
  | .canSend r => decide (r < 132)
  | .canEnable r n _ => decide (r < 132) && decide (n < 4)
  | .rxTailWrite r n _ => decide (r < 132) && decide (n < 4)
  | .canRx n _ => decide (n < 4)
  | .txAttemptEnd n _ => decide (n < 4)
  | .busOff n _ _ _ _ => decide (n < 4)
  | .coilOver n => decide (n < 4)
  | .coilRetry n _ => decide (n < 4)
  | .coilOpen n => decide (n < 4)
  | .nocoilv _ => true
  | .fanFail f => decide (f < 3)
  | .trayRemoved => true
  | .holdInChange _ => true
  | .peerPresentChange _ => true
  | .setRepeat => true
  | .ptpSyncSend port => decide (port < 5)
  | .peerDelayMeasure port _ => decide (port < 5)
  | .egressTxEnd port => decide (port < 6)
  | .wrapRelay chain _ => decide (chain < 8)
  | .surveyBeaconRx head other _ => decide (head < 64) && decide (other < 64)
  | .badFcsRx head _ => decide (head < 64)
  | .chainFrameDiscard chain => decide (chain < 8)
  | .lowPathOverload phase part => decide (phase < 3) && decide (part.feeder < 16)
  | .clip feeder => decide (feeder < 16)
  | .pulseEnd n => decide (n < 16)
  | .ppsOutFall => true
  | .pwronNRelease => true
  | .rimeStop _ => true
  | .tamper1Release _ => true
  | .h2WriteDone => true
  | .mgmtDisconnect => true
  | .relayChunkSend => true
  | .driveInserted slot _ => decide (slot < 16)
  | .trayFitted => true

end Sys2Proof
end

