-- ==== Sys2Proof/Safety.lean ====
section
/-!
DEFINITION. Sys2Proof/Safety.lean: the terms in which claims about the module are stated.
-/

namespace Sys2Proof.Machine

/-- Thread t issues the instruction at pc: once a WAIT or IDLE whose end has come is over, the thread may issue, its
program counter is pc, and the fetch there raises no exception; u is the state after the fetch (R106, R116, R171). -/
abbrev Issues (s : State) (t : Nat) (pc : BitVec 40) (u : State) : Prop :=
  (s.settle t).mayIssue t = true ∧ (s.settle t).pc t = pc ∧ (s.settle t).fetch (cacheCore t) pc.toNat = (.done, u)

/-- The state in which a command ends that issues an instruction of thread t and leads to v: where the register file has
changed, the WAITs and IDLEs whose end has come are over (R110, R179). -/
def State.leaves (s : State) (t : Nat) (v : State) : State := (s.settle t).settled v

/-- A block takes a command written to its command register: its rails are up, it is ready, and no command of it is in
progress (R26, R31). -/
abbrev Takes (s : State) (blk stat : Nat) : Prop := s.blkReady blk = true ∧ s.busy stat = false

/-- The command completes: its own effect leads to a state of which P holds, and it answers the state that follows from that
one (`State.follow`: the standing consequences of every command). -/
def Does (i : Instr) (s : State) (P : State → Prop) : Prop := ∃ u, exec i s = .next (s.follow u) ∧ P u

/-- The command interface of a block shows this completion code, is no longer BUSY, and has set its command-done bit
(R29, R30). -/
abbrev Done (u : State) (stat : Nat) (evt : Fld) (cc : Nat) : Prop :=
  u.rd ⟨stat, 0, 8⟩ = cc ∧ u.busy stat = false ∧ u.on evt = true

/-- Every register of every thread, and PC, EVMASK, CC, XPC, XCAUSE, as before. -/
def SameGnor (u s : State) : Prop := u.gnor = s.gnor

/-- Every byte of every memory outside Firn's region, the error marks of DRAM and of the lumen SRAMs, the caches and the
started write-backs as before; the check bits of the blocks' own storage apart (log entry 37). -/
def SameBytes (u s : State) : Prop :=
  { u.mem with blkUe := [], blkCe := [] } = { s.mem with blkUe := [], blkCe := [] }

/-- The same, and Firn's planes as before. -/
def SameMem (u s : State) : Prop := SameBytes u s ∧ u.planes = s.planes

/-- No word of DRAM or of the lumen SRAMs holds a correctable error, which a read would correct and count (R45). -/
abbrev NoCe (s : State) : Prop := s.mem.dramCe = [] ∧ s.mem.lsramCe = [] ∧ s.mem.csramCe = []

/-- No word of DRAM or of the lumen SRAMs holds an error of either kind. -/
abbrev NoErr (s : State) : Prop :=
  s.mem.dramPoison = [] ∧ s.mem.lsramPoison = [] ∧ s.mem.csramPoison = [] ∧ NoCe s

/-- No entry of Serac's tables holds an error. -/
abbrev NoSrcErr (s : State) : Prop :=
  (∀ e ∈ present s.src.nodes, e.2.mark = .clean) ∧ (∀ e ∈ present s.src.l2, e.2.mark = .clean) ∧
    ∀ p ∈ s.src.pfx, p.bad = false

/-- Of the block registers, only SYS_EVT and those of the error log may differ (R42, R44, R45). -/
def EccLog (u s : State) : Prop :=
  ∀ a, a ∉ [SYS_EVT.addr, SYS_ECC_CE.addr, SYS_ECC_UE_LO.addr, SYS_ECC_UE_HI.addr] → u.reg a = s.reg a

/-- Lane i of a wide register read as unsigned, u(x) of R159, and as signed, s(x). -/
def laneU (w : Wide) (i : Nat) : Int := (w.extractLsb' (16 * i) 16).toNat
def laneS (w : Wide) (i : Nat) : Int := (w.extractLsb' (16 * i) 16).toInt

/-- Every cached line of data holds 64 bytes (R118). -/
def linesWhole (s : State) : Bool := s.mem.dcache.all (fun l => l.data.length == 64)

/-- The reserved bits of the threads' special registers read 0 (R140): bits [1:0] of XPC and bits [31:24] and [7:6] of
EVMASK; and the program counter of every lumen thread is a multiple of 4 (R143). -/
def reservedZero (s : State) : Prop :=
  (∀ t, (s.xpc t).toNat % 4 = 0) ∧ (∀ t, s.evmask t &&& 0xFF00_00C0#32 = 0) ∧ ∀ t < 128, (s.pc t).toNat % 4 = 0

end Sys2Proof.Machine
end

