-- ==== Sys2Proof/Certificates/Slice0/Obligations.lean ====
section
/-!
DEFINITION. Sys2Proof/Certificates/Slice0/Obligations.lean: the statements for the provers. `s.follow u` is what stands
after a command whose own effect has led from s to u: the standing consequences of every command (Sys2Proof/Machine/Bus.lean).
-/

section

open Sys2Proof Sys2Proof.Machine

/-- The step of a state whose queue is not empty is its front command on the state with the queue's rest; on an empty
queue one unit of time passes (the model's choice, log entry 4). -/
def Obligations.StepRunsFront : Prop :=
  ∀ (s : State),
    (∀ (c : Instr) (rest : List Instr), s.pending = c :: rest → step s = exec c { s with pending := rest }) ∧
    (s.pending = [] → step s = .next (s.follow s.silent.tick))

/-- The general registers of R138, g0 among them: it reads 0, and a write to it is discarded; and the wide registers of
R139: each thread has its own, and each, w0 among them, holds what is written. -/
def Obligations.ThreadRegisters : Prop :=
  ∀ (s : State) (t t' : Nat),
    (∀ (r r' : GReg) (v : Dword),
      (s.setG t r v).greg t r = (if r = 0 then 0 else v) ∧
      (¬(t' = t ∧ r' = r) → (s.setG t r v).greg t' r' = s.greg t' r') ∧
      s.greg t 0 = 0 ∧ s.setG t 0 v = s ∧ ∀ w : WReg, (s.setG t r v).wreg t' w = s.wreg t' w) ∧
    (∀ (r r' : WReg) (v : Wide),
      (s.setW t r v).wreg t r = v ∧
      (¬(t' = t ∧ r' = r) → (s.setW t r v).wreg t' r' = s.wreg t' r') ∧
      ∀ g : GReg, (s.setW t r v).greg t' g = s.greg t' g)

/-- The register operations of R147 on every register and every value: the state after the fetch with rd given the result
and the program counter advanced by 4, and nothing else changed. -/
def Obligations.RegisterOperations : Prop :=
  ∀ (t : Tid) (rd ra rb : GReg) (s u : State) (pc : BitVec 40), Issues s t pc u →
    let a := u.greg t ra
    let b := u.greg t rb
    let res (v : Dword) : Out := .next (s.leaves t ((u.setG t rd v).setPc t (pc + 4)))
    exec (.add t rd ra rb) s = res (BitVec.ofInt 64 (a.toInt + b.toInt)) ∧
    exec (.sub t rd ra rb) s = res (BitVec.ofInt 64 (a.toInt - b.toInt)) ∧
    exec (.addw t rd ra rb) s = res (BitVec.ofInt 64 ((a.toInt + b.toInt).bmod (2 ^ 32))) ∧
    exec (.subw t rd ra rb) s = res (BitVec.ofInt 64 ((a.toInt - b.toInt).bmod (2 ^ 32))) ∧
    exec (.and t rd ra rb) s = res (a &&& b) ∧
    exec (.or t rd ra rb) s = res (a ||| b) ∧
    exec (.xor t rd ra rb) s = res (a ^^^ b) ∧
    exec (.andn t rd ra rb) s = res (a &&& ~~~b) ∧
    exec (.sll t rd ra rb) s = res (BitVec.ofNat 64 (a.toNat * 2 ^ (b.toNat % 64))) ∧
    exec (.srl t rd ra rb) s = res (BitVec.ofNat 64 (a.toNat / 2 ^ (b.toNat % 64))) ∧
    exec (.sra t rd ra rb) s = res (BitVec.ofInt 64 (a.toInt / 2 ^ (b.toNat % 64))) ∧
    exec (.slt t rd ra rb) s = res (if a.toInt < b.toInt then 1 else 0) ∧
    exec (.sltu t rd ra rb) s = res (if a.toNat < b.toNat then 1 else 0) ∧
    exec (.min t rd ra rb) s = res (if a.toInt < b.toInt then a else b) ∧
    exec (.max t rd ra rb) s = res (if a.toInt < b.toInt then b else a) ∧
    exec (.minu t rd ra rb) s = res (if a.toNat < b.toNat then a else b) ∧
    exec (.maxu t rd ra rb) s = res (if a.toNat < b.toNat then b else a) ∧
    exec (.movz t rd ra rb) s = (if b = 0 then res a else .next (s.leaves t (u.setPc t (pc + 4)))) ∧
    exec (.movn t rd ra rb) s = (if b ≠ 0 then res a else .next (s.leaves t (u.setPc t (pc + 4)))) ∧
    exec (.sxb t rd ra) s = res (BitVec.ofInt 64 (a.toInt.bmod (2 ^ 8))) ∧
    exec (.sxh t rd ra) s = res (BitVec.ofInt 64 (a.toInt.bmod (2 ^ 16))) ∧
    exec (.sxw t rd ra) s = res (BitVec.ofInt 64 (a.toInt.bmod (2 ^ 32))) ∧
    exec (.zxb t rd ra) s = res (BitVec.ofNat 64 (a.toNat % 2 ^ 8)) ∧
    exec (.zxh t rd ra) s = res (BitVec.ofNat 64 (a.toNat % 2 ^ 16)) ∧
    exec (.zxw t rd ra) s = res (BitVec.ofNat 64 (a.toNat % 2 ^ 32)) ∧
    (∃ n ≤ 64, exec (.clz t rd ra) s = res (BitVec.ofNat 64 n) ∧
      (∀ i < n, a.getMsbD i = false) ∧ (n < 64 → a.getMsbD n = true)) ∧
    exec (.popc t rd ra) s = res (BitVec.ofNat 64 ((List.range 64).countP (fun i => a.getLsbD i)))

/-- The immediate operations of R148 on every register, value and immediate. -/
def Obligations.ImmediateOperations : Prop :=
  ∀ (t : Tid) (rd ra : GReg) (imm : Imm16) (n : BitVec 6) (s u : State) (pc : BitVec 40), Issues s t pc u →
    let a := u.greg t ra
    let sx : Int := imm.toInt
    let zx : Dword := BitVec.ofNat 64 imm.toNat
    let res (v : Dword) : Out := .next (s.leaves t ((u.setG t rd v).setPc t (pc + 4)))
    exec (.addi t rd ra imm) s = res (BitVec.ofInt 64 (a.toInt + sx)) ∧
    exec (.andi t rd ra imm) s = res (a &&& zx) ∧
    exec (.ori t rd ra imm) s = res (a ||| zx) ∧
    exec (.xori t rd ra imm) s = res (a ^^^ zx) ∧
    exec (.slti t rd ra imm) s = res (if a.toInt < sx then 1 else 0) ∧
    exec (.sltiu t rd ra imm) s = res (if a.toNat < (BitVec.ofInt 64 sx : Dword).toNat then 1 else 0) ∧
    exec (.lui t rd imm) s = res (BitVec.ofNat 64 (imm.toNat * 2 ^ 16)) ∧
    exec (.orh t rd ra imm) s = res (a ||| BitVec.ofNat 64 (imm.toNat * 2 ^ 32)) ∧
    exec (.slli t rd ra n) s = res (BitVec.ofNat 64 (a.toNat * 2 ^ n.toNat)) ∧
    exec (.srli t rd ra n) s = res (BitVec.ofNat 64 (a.toNat / 2 ^ n.toNat)) ∧
    exec (.srai t rd ra n) s = res (BitVec.ofInt 64 (a.toInt / 2 ^ n.toNat))

/-- The multiply and divide operations of R149 on every value. -/
def Obligations.MultiplyDivide : Prop :=
  ∀ (t : Tid) (rd ra rb : GReg) (s u : State) (pc : BitVec 40), Issues s t pc u →
    let a := u.greg t ra
    let b := u.greg t rb
    let al : Int := a.toInt.bmod (2 ^ 32)
    let bl : Int := b.toInt.bmod (2 ^ 32)
    let au : Nat := a.toNat % 2 ^ 32
    let bu : Nat := b.toNat % 2 ^ 32
    let res (v : Dword) : Out := .next (s.leaves t ((u.setG t rd v).setPc t (pc + 4)))
    let int (x : Int) : Dword := BitVec.ofInt 64 x
    exec (.mul t rd ra rb) s = res (int (a.toInt * b.toInt)) ∧
    exec (.mulh t rd ra rb) s = res (int (a.toInt * b.toInt / 2 ^ 64)) ∧
    exec (.mulhu t rd ra rb) s = res (BitVec.ofNat 64 (a.toNat * b.toNat / 2 ^ 64)) ∧
    exec (.mulw t rd ra rb) s = res (int ((al * bl).bmod (2 ^ 32))) ∧
    exec (.div t rd ra rb) s = res (if b = 0 then int (-1) else int (a.toInt.tdiv b.toInt)) ∧
    exec (.divu t rd ra rb) s = res (if b = 0 then int (-1) else BitVec.ofNat 64 (a.toNat / b.toNat)) ∧
    exec (.rem t rd ra rb) s = res (if b = 0 then a else int (a.toInt.tmod b.toInt)) ∧
    exec (.remu t rd ra rb) s = res (if b = 0 then a else BitVec.ofNat 64 (a.toNat % b.toNat)) ∧
    exec (.divw t rd ra rb) s = res (if bu = 0 then int (-1) else int ((al.tdiv bl).bmod (2 ^ 32))) ∧
    exec (.divuw t rd ra rb) s = res (if bu = 0 then int (-1) else int (((au / bu : Nat) : Int).bmod (2 ^ 32))) ∧
    exec (.remw t rd ra rb) s = res (if bu = 0 then int al else int (al.tmod bl)) ∧
    exec (.remuw t rd ra rb) s = res (if bu = 0 then int al else int (((au % bu : Nat) : Int).bmod (2 ^ 32)))

/-- The wide operations of R159 that work lane by lane, on every register and every value of the lanes. -/
def Obligations.WideLanes : Prop :=
  ∀ (t : Tid) (wd wa wb : WReg) (k : BitVec 4) (s u : State) (pc : BitVec 40), t.val ≠ 128 → Issues s t pc u →
    let a := u.wreg t wa
    let b := u.wreg t wb
    let d := u.wreg t wd
    let p : Int := 2 ^ k.toNat
    let cl (x : Int) : Int := max 0 (min 65535 x)
    let cs (x : Int) : Int := max (-32768) (min 32767 x)
    let mask (c : Prop) [Decidable c] : Int := if c then 65535 else 0
    let gives (i : Instr) (read : Wide → Nat → Int) (f : Nat → Int) : Prop :=
      ∃ v : Wide, exec i s = .next (s.leaves t ((u.setW t wd v).setPc t (pc + 4))) ∧ ∀ n < 8, read v n = f n
    gives (.wadd t wd wa wb) laneU (fun n => (laneU a n + laneU b n) % 65536) ∧
    gives (.wsub t wd wa wb) laneU (fun n => (laneU a n - laneU b n) % 65536) ∧
    gives (.waddu t wd wa wb) laneU (fun n => cl (laneU a n + laneU b n)) ∧
    gives (.wsubu t wd wa wb) laneU (fun n => cl (laneU a n - laneU b n)) ∧
    gives (.wadds t wd wa wb) laneS (fun n => cs (laneS a n + laneS b n)) ∧
    gives (.wsubs t wd wa wb) laneS (fun n => cs (laneS a n - laneS b n)) ∧
    gives (.wmulh t wd wa wb) laneU (fun n => laneU a n * laneU b n / 65536) ∧
    gives (.wmulq t wd wa wb k) laneU (fun n => cl (laneU a n * laneU b n / p)) ∧
    gives (.wmulsq t wd wa wb k) laneS (fun n => cs (laneS a n * laneS b n / p)) ∧
    gives (.wdivq t wd wa wb k) laneU (fun n => if laneU b n = 0 then 65535 else cl (laneU a n * p / laneU b n)) ∧
    gives (.wlerp t wd wa wb k) laneU (fun n => cl (laneU a n + (laneU b n - laneU a n) * laneU d n / p)) ∧
    gives (.wminu t wd wa wb) laneU (fun n => min (laneU a n) (laneU b n)) ∧
    gives (.wmaxu t wd wa wb) laneU (fun n => max (laneU a n) (laneU b n)) ∧
    gives (.wmins t wd wa wb) laneS (fun n => min (laneS a n) (laneS b n)) ∧
    gives (.wmaxs t wd wa wb) laneS (fun n => max (laneS a n) (laneS b n)) ∧
    gives (.wsll t wd wa k) laneU (fun n => laneU a n * p % 65536) ∧
    gives (.wsrl t wd wa k) laneU (fun n => laneU a n / p) ∧
    gives (.wsra t wd wa k) laneS (fun n => laneS a n / p) ∧
    gives (.wcmpeq t wd wa wb) laneU (fun n => mask (laneU a n = laneU b n)) ∧
    gives (.wcmpltu t wd wa wb) laneU (fun n => mask (laneU a n < laneU b n)) ∧
    gives (.wcmplts t wd wa wb) laneU (fun n => mask (laneS a n < laneS b n)) ∧
    gives (.wperm t wd wa wb) laneU (fun n => laneU a (laneU b n % 8).toNat)

/-- The wide operations of R159 that take the register as a whole, and those with a general register. -/
def Obligations.WideWhole : Prop :=
  ∀ (t : Tid) (wd wa wb : WReg) (g : GReg) (k3 : BitVec 3) (k1 : BitVec 1) (s u : State) (pc : BitVec 40),
    t.val ≠ 128 → Issues s t pc u →
    let a := u.wreg t wa
    let b := u.wreg t wb
    let d := u.wreg t wd
    let x := u.greg t g
    let w (v : Wide) : Out := .next (s.leaves t ((u.setW t wd v).setPc t (pc + 4)))
    let r (v : Dword) : Out := .next (s.leaves t ((u.setG t g v).setPc t (pc + 4)))
    exec (.wand t wd wa wb) s = w (a &&& b) ∧
    exec (.wor t wd wa wb) s = w (a ||| b) ∧
    exec (.wxor t wd wa wb) s = w (a ^^^ b) ∧
    exec (.wandn t wd wa wb) s = w (a &&& ~~~b) ∧
    exec (.wsel t wd wa wb) s = w ((a &&& d) ||| (b &&& ~~~d)) ∧
    exec (.wmov t wd wa) s = w a ∧
    (∃ v, exec (.wsplat t wd g) s = w v ∧ ∀ n < 8, laneU v n = (x.toNat % 65536 : Nat)) ∧
    (∃ v, exec (.wins t wd g k3) s = w v ∧
      ∀ n < 8, laneU v n = if n = k3.toNat then ((x.toNat % 65536 : Nat) : Int) else laneU d n) ∧
    (∃ v, exec (.wputd t wd g k1) s = w v ∧ v.extractLsb' (64 * k1.toNat) 64 = x ∧
      v.extractLsb' (64 - 64 * k1.toNat) 64 = d.extractLsb' (64 - 64 * k1.toNat) 64) ∧
    exec (.wext t g wa k3) s = r (BitVec.ofInt 64 (laneU a k3.toNat)) ∧
    exec (.wgetd t g wa k1) s = r (a.extractLsb' (64 * k1.toNat) 64) ∧
    exec (.wsum t g wa) s = r (BitVec.ofInt 64 (laneU a 0 + laneU a 1 + laneU a 2 + laneU a 3 + laneU a 4 + laneU a 5
      + laneU a 6 + laneU a 7))

/-- The branches of R157: only the program counter changes, to the target modulo 2^40 where the condition holds. -/
def Obligations.Branches : Prop :=
  ∀ (t : Tid) (ra rb : GReg) (off : Imm16) (s u : State) (pc : BitVec 40), Issues s t pc u →
    let a := u.greg t ra
    let b := u.greg t rb
    let goes (c : Prop) [Decidable c] : Out :=
      .next (s.leaves t (u.setPc t (if c then BitVec.ofInt 40 ((pc.toNat : Int) + 4 * off.toInt) else pc + 4)))
    exec (.beq t ra rb off) s = goes (a = b) ∧
    exec (.bne t ra rb off) s = goes (a ≠ b) ∧
    exec (.blt t ra rb off) s = goes (a.toInt < b.toInt) ∧
    exec (.bge t ra rb off) s = goes (b.toInt ≤ a.toInt) ∧
    exec (.bltu t ra rb off) s = goes (a.toNat < b.toNat) ∧
    exec (.bgeu t ra rb off) s = goes (b.toNat ≤ a.toNat) ∧
    exec (.bccz t off) s = goes (u.cc t = 0) ∧
    exec (.bccnz t off) s = goes (u.cc t ≠ 0)

/-- The jumps of R158. -/
def Obligations.Jumps : Prop :=
  ∀ (t : Tid) (rd ra : GReg) (imm : Imm16) (off : BitVec 26) (s u : State) (pc : BitVec 40), Issues s t pc u →
    let lands (v : State) : Out := .next (s.leaves t (v.setPc t (BitVec.ofInt 40 ((pc.toNat : Int) + 4 * off.toInt))))
    let target : Dword := BitVec.ofInt 64 ((u.greg t ra).toInt + imm.toInt)
    let link : Dword := BitVec.ofNat 64 ((pc.toNat + 4) % 2 ^ 40)
    exec (.j t off) s = lands u ∧
    exec (.jal t off) s = lands (u.setG t 31 link) ∧
    exec (.jalr t rd ra imm) s =
      (if target.toNat % 4 = 0 ∧ target.toNat < 2 ^ 40 then
        .next (s.leaves t ((u.setG t rd link).setPc t (BitVec.ofNat 40 target.toNat)))
      else .next (s.leaves t (u.takeException t 0x02 0 target.toNat pc)))

/-- The special registers of R140 through MFS and MTS, for the lumen threads and for Cirque. -/
def Obligations.SpecialRegisters : Prop :=
  ∀ (t : Tid) (rd ra : GReg) (s u : State) (pc : BitVec 40), Issues s t pc u →
    let get (n : BitVec 5) (v : Nat) : Prop :=
      exec (.mfs t rd n) s = .next (s.leaves t ((u.setG t rd (BitVec.ofNat 64 v)).setPc t (pc + 4)))
    let ill (i : Instr) : Prop := exec i s = .next (s.leaves t (u.takeException t 0x01 0 (encode i).toNat pc))
    let x := u.greg t ra
    get 0 pc.toNat ∧ get 1 t.val ∧
    (if t.val = 128 then ill (.mfs t rd 2) ∧ ill (.mts t 2 ra)
     else get 2 (u.evmask t).toNat ∧ exec (.mts t 2 ra) s = .next (s.leaves t ((u.setEvmask t (x.setWidth 32)).setPc t (pc + 4)))) ∧
    get 3 (u.cc t).toNat ∧ get 4 (u.xpc t).toNat ∧ get 5 (u.xcause t).toNat ∧ get 6 u.ctr ∧
    (∀ n : BitVec 5, 6 < n.toNat → ill (.mfs t rd n)) ∧
    exec (.mts t 3 ra) s = .next (s.leaves t ((u.setCc t (x.setWidth 8)).setPc t (pc + 4))) ∧
    exec (.mts t 4 ra) s = .next (s.leaves t ((u.setXpc t (x.setWidth 40)).setPc t (pc + 4))) ∧
    (∀ n : BitVec 5, n.toNat ≤ 1 ∨ 5 ≤ n.toNat → ill (.mts t n ra)) ∧
    (∀ v : Word, ((u.setEvmask t v).evmask t).toNat = v.toNat &&& 0x00FFFF3F) ∧
    (∀ v : BitVec 40, ((u.setXpc t v).xpc t).toNat = v.toNat / 4 * 4)

/-- Taking an exception (R172), for every thread and every cause, and an exception while the thread runs its handler
(R173). -/
def Obligations.ExceptionEntry : Prop :=
  ∀ (s : State) (t code xcc addr : Nat) (pc : BitVec 40), code < 256 → xcc < 256 →
    let v := s.takeException t code xcc addr pc
    (s.xact t = false → s.vec t ≠ 0 →
      (v.xpc t).toNat = pc.toNat / 4 * 4 ∧
      (v.xcause t).toNat = code + 256 * xcc + 65536 + 2 ^ 24 * (addr % 2 ^ 40) ∧
      v.cc t = (if xcc = 0 then s.cc t else BitVec.ofNat 8 xcc) ∧
      v.pc t = s.vec t ∧
      (∀ (r : GReg) (q : Nat), v.greg q r = s.greg q r) ∧ (∀ (r : WReg) (q : Nat), v.wreg q r = s.wreg q r) ∧
      (∀ q, v.evmask q = s.evmask q) ∧ v.regs = s.regs ∧ v.mem = s.mem ∧ v.now = s.now ∧ v.lum = s.lum) ∧
    (t < 128 → s.xact t = true →
      v.thState t = thFaulted ∧ v.xpc t = s.xpc t ∧ v.xcause t = s.xcause t ∧ v.pc t = s.pc t ∧
      v.rd (LUM_T_EXC.CAUSE t) = code ∧ v.on (LUM_T_EXC.VALID t) = true ∧
      (∀ r q, v.greg q r = s.greg q r) ∧ (∀ r q, v.wreg q r = s.wreg q r) ∧ SameMem v s)

/-- TRAP, BREAK and XRET (R150, R170, R174). -/
def Obligations.TrapAndReturn : Prop :=
  ∀ (t : Tid) (n : BitVec 5) (s u : State) (pc : BitVec 40), Issues s t pc u →
    exec (.trap t n) s = .next (s.leaves t (u.takeException t 0x0A 0 n.toNat pc)) ∧
    exec (.brk t) s = .next (s.leaves t (u.takeException t 0x0B 0 0 pc)) ∧
    (u.xact t = true → ∃ v, exec (.xret t) s = .next v ∧ v.pc t = u.xpc t ∧ v.xact t = false ∧
      (v.xcause t).toNat + 65536 = (u.xcause t).toNat ∧ v.regs = u.regs ∧ v.mem = u.mem ∧
      (∀ r q, v.greg q r = u.greg q r) ∧ (∀ r q, v.wreg q r = u.wreg q r) ∧ v.cc t = u.cc t ∧ v.xpc t = u.xpc t) ∧
    (u.xact t = false → exec (.xret t) s = .next (s.leaves t (u.takeException t 0x01 0 (encode (.xret t)).toNat pc)))

/-- The alignment rule of R153 for every size; the entry of a lumen thread's exception leaves memory as it was. -/
def Obligations.Misaligned : Prop :=
  ∀ (t : Tid) (rt ra : GReg) (w : WReg) (disp : Imm16) (s u : State) (pc : BitVec 40), Issues s.silent t pc u →
    let ea : Nat := (BitVec.ofInt 64 ((u.greg t ra).toInt + disp.toInt) : Dword).toNat
    let raises (i : Instr) (code : Nat) : Prop := exec i s = .next (s.follow (s.silent.leaves t (u.takeException t code 0 ea pc)))
    (ea % 2 ≠ 0 → raises (.lh t rt ra disp) 0x05 ∧ raises (.lhu t rt ra disp) 0x05 ∧ raises (.sh t rt ra disp) 0x06) ∧
    (ea % 4 ≠ 0 → raises (.lw t rt ra disp) 0x05 ∧ raises (.lwu t rt ra disp) 0x05 ∧ raises (.sw t rt ra disp) 0x06) ∧
    (ea % 8 ≠ 0 → raises (.ld t rt ra disp) 0x05 ∧ raises (.sd t rt ra disp) 0x06) ∧
    (ea % 16 ≠ 0 → t.val ≠ 128 → raises (.wld t w ra disp) 0x05 ∧ raises (.wst t w ra disp) 0x06) ∧
    (∀ code, SameMem (u.takeException t code 0 ea pc) u)

/-- The loads of R152 and R160: the value that memory or a register gives, extended, in the destination. -/
def Obligations.Loads : Prop :=
  ∀ (t : Tid) (rt ra : GReg) (w : WReg) (disp : Imm16) (s u m : State) (bs : List Byte) (v : Word) (pc : BitVec 40),
    Issues s.silent t pc u →
    let ea : Nat := (BitVec.ofInt 64 ((u.greg t ra).toInt + disp.toInt) : Dword).toNat
    let gives (i : Instr) (x : Int) : Prop :=
      exec i s = .next (s.follow (s.silent.leaves t ((m.setG t rt (BitVec.ofInt 64 x)).setPc t (pc + 4))))
    let answers (n : Nat) : Prop := ea % n = 0 ∧ ea < 2 ^ 40 ∧ isReg ea = false ∧
      u.loadMem (cacheCore t) ea n = (.done, bs, m)
    let x : Int := ofLe bs
    (answers 1 → gives (.lb t rt ra disp) (x.bmod (2 ^ 8)) ∧ gives (.lbu t rt ra disp) x) ∧
    (answers 2 → gives (.lh t rt ra disp) (x.bmod (2 ^ 16)) ∧ gives (.lhu t rt ra disp) x) ∧
    (answers 4 → gives (.lw t rt ra disp) (x.bmod (2 ^ 32)) ∧ gives (.lwu t rt ra disp) x) ∧
    (answers 8 → gives (.ld t rt ra disp) x) ∧
    (answers 16 → t.val ≠ 128 → exec (.wld t w ra disp) s =
      .next (s.follow (s.silent.leaves t ((m.setW t w (BitVec.ofNat 128 (ofLe bs))).setPc t (pc + 4))))) ∧
    (ea % 4 = 0 → isReg ea = true → u.regRead t ea = (ccOk, v, m) →
      gives (.lw t rt ra disp) v.toInt ∧ gives (.lwu t rt ra disp) v.toNat)

/-- The stores of R152 and R160, at ea = ra + sx16(disp). -/
def Obligations.Stores : Prop :=
  ∀ (t : Tid) (rt ra : GReg) (w : WReg) (disp : Imm16) (s u m : State) (pc : BitVec 40),
    Issues s.silent t pc u →
    let ea : Nat := (BitVec.ofInt 64 ((u.greg t ra).toInt + disp.toInt) : Dword).toNat
    let stored (i : Instr) : Prop := exec i s = .next (s.follow (s.silent.leaves t (m.setPc t (pc + 4))))
    let takes (bs : List Byte) : Prop := ea % bs.length = 0 ∧ ea < 2 ^ 40 ∧ isReg ea = false ∧
      u.storeMem (cacheCore t) ea bs = (.done, m)
    let low (n : Nat) : List Byte := (List.range n).map (fun k => (u.greg t rt).extractLsb' (8 * k) 8)
    (takes (low 1) → stored (.sb t rt ra disp)) ∧
    (takes (low 2) → stored (.sh t rt ra disp)) ∧
    (takes (low 4) → stored (.sw t rt ra disp)) ∧
    (takes (low 8) → stored (.sd t rt ra disp)) ∧
    (takes ((List.range 16).map (fun k => (u.wreg t w).extractLsb' (8 * k) 8)) → t.val ≠ 128 → stored (.wst t w ra disp)) ∧
    (ea % 4 = 0 → isReg ea = true → u.regWrite t ea ((u.greg t rt).setWidth 32) = (ccOk, m) → stored (.sw t rt ra disp))

/-- Read after write in SRAM, and the store's frame over every byte of every memory. -/
def Obligations.SramStoreLoad : Prop :=
  ∀ (s : State) (core a : Nat) (bs : List Byte), core < 32 → bs ≠ [] →
    let ends (b n : Nat) : Prop := b ≤ a ∧ a + bs.length ≤ b + n
    (ends 0x80_0000_0000 131072 → (4 ≤ bs.length ∨ s.sramPoisonIn .loc core a bs.length = false) →
      ∃ t, s.storeMem core a bs = (.done, t) ∧
        (t.sramPoisonIn .loc core a bs.length = false → t.loadMem core a bs.length = (.done, bs, t)) ∧
        (∀ k, (k < locKey core a ∨ locKey core a + bs.length ≤ k) →
          SMap.get zeroByte t.mem.lsram k = SMap.get zeroByte s.mem.lsram k) ∧
        t.mem.csram = s.mem.csram ∧ t.mem.dram = s.mem.dram ∧ t.mem.dcache = s.mem.dcache ∧ t.mem.icache = s.mem.icache ∧
        t.mem.wbs = s.mem.wbs ∧ t.planes = s.planes ∧ (NoCe s → t.regs = s.regs) ∧ t.gnor = s.gnor) ∧
    (ends 0x80_1000_0000 2097152 → (4 ≤ bs.length ∨ s.sramPoisonIn .clu core a bs.length = false) →
      ∃ t, s.storeMem core a bs = (.done, t) ∧
        (t.sramPoisonIn .clu core a bs.length = false → t.loadMem core a bs.length = (.done, bs, t)) ∧
        (∀ k, (k < cluKey core a ∨ cluKey core a + bs.length ≤ k) →
          SMap.get zeroByte t.mem.csram k = SMap.get zeroByte s.mem.csram k) ∧
        t.mem.lsram = s.mem.lsram ∧ t.mem.dram = s.mem.dram ∧ t.mem.dcache = s.mem.dcache ∧ t.mem.icache = s.mem.icache ∧
        t.mem.wbs = s.mem.wbs ∧ t.planes = s.planes ∧ (NoCe s → t.regs = s.regs) ∧ t.gnor = s.gnor)

/-- Read after write in DRAM through the data cache, on the states whose lines are whole (Obligations.LinesStayWhole). -/
def Obligations.DramStoreLoad : Prop :=
  ∀ (s : State) (core a : Nat) (bs : List Byte) (l : DLine), linesWhole s = true →
    bs.length ∈ [1, 2, 4, 8, 16] → a % bs.length = 0 → a < 2 ^ 36 → s.protectedAt a = false →
    (s.fillD core a).dline core a = some l → (8 ≤ bs.length ∨ l.poisonIn a bs.length = false) →
    ∃ t, s.storeMem core a bs = (.done, t) ∧
      ∃ l', t.dline core a = some l' ∧ l'.data.length = 64 ∧
        (∀ i < 64, l'.data[i]? = if a % 64 ≤ i ∧ i < a % 64 + bs.length then bs[i - a % 64]? else l.data[i]?) ∧
        (∀ i < bs.length, (a % 64 + i) / 8 ∈ l'.dirty) ∧
        t.mem.lsram = s.mem.lsram ∧ t.mem.csram = s.mem.csram ∧ t.gnor = s.gnor ∧
        (l'.poisonIn a bs.length = false → t.loadMem core a bs.length = (.done, bs, t))

/-- The invariant that DramStoreLoad rests on. -/
def Obligations.LinesStayWhole : Prop :=
  linesWhole State.reset = true ∧
  ∀ (s : State) (core a n : Nat) (bs : List Byte), linesWhole s = true → a % 64 + bs.length ≤ 64 →
    linesWhole (s.loadMem core a n).2.2 = true ∧ linesWhole (s.storeMem core a bs).2 = true

/-- The atomics of R156, at every address. -/
def Obligations.Atomics : Prop :=
  ∀ (t : Tid) (rd ra rb : GReg) (s u : State) (pc : BitVec 40), Issues s t pc u →
    let a := (u.greg t ra).toNat
    let c := cacheCore t
    let r := regionOf c a
    let old (n : Nat) : Nat := ofLe (u.sramBytes r c a n)
    let b (n : Nat) : Nat := (u.greg t rb).toNat % 2 ^ (8 * n)
    let e (n : Nat) : Nat := (u.greg t rd).toNat % 2 ^ (8 * n)
    let ext (n : Nat) : Int := if n = 4 then (old 4 : Int).bmod (2 ^ 32) else old n
    let sram : Prop := (r = .loc ∨ r = .clu ∨ r = .crq) ∧ a < 2 ^ 40
    let acts (i : Instr) (n : Nat) (new : Nat) : Prop :=
      (a % n = 0 → sram → u.sramPoisonIn r c a n = false →
        exec i s = .next (s.leaves t ((((u.mendSram r c a n).putSram r c a (leBytes n new)).setG t rd
          (BitVec.ofInt 64 (ext n))).setPc t (pc + 4)))) ∧
      (a % n = 0 → sram → u.sramPoisonIn r c a n = true →
        exec i s = .next (s.leaves t ((u.sramUe r c a n).takeException t 0x09 ccUe a pc))) ∧
      (a % n ≠ 0 → exec i s = .next (s.leaves t (u.takeException t 0x06 0 a pc))) ∧
      (a % n = 0 → (r = .dram ∨ r = .regs) → a < 2 ^ 40 → exec i s = .next (s.leaves t (u.takeException t 0x08 ccDenied a pc))) ∧
      (a % n = 0 → r = .absent ∨ 2 ^ 40 ≤ a →
        exec i s = .next (s.leaves t ((u.up SYS_EVT.ACCESS_FAULT).takeException t 0x08 ccDenied a pc)))
    acts (.aaddw t rd ra rb) 4 ((old 4 + b 4) % 2 ^ 32) ∧ acts (.aaddd t rd ra rb) 8 ((old 8 + b 8) % 2 ^ 64) ∧
    acts (.aandw t rd ra rb) 4 (old 4 &&& b 4) ∧ acts (.aandd t rd ra rb) 8 (old 8 &&& b 8) ∧
    acts (.aorw t rd ra rb) 4 (old 4 ||| b 4) ∧ acts (.aord t rd ra rb) 8 (old 8 ||| b 8) ∧
    acts (.axorw t rd ra rb) 4 (old 4 ^^^ b 4) ∧ acts (.axord t rd ra rb) 8 (old 8 ^^^ b 8) ∧
    acts (.aswpw t rd ra rb) 4 (b 4) ∧ acts (.aswpd t rd ra rb) 8 (b 8) ∧
    acts (.acasw t rd ra rb) 4 (if old 4 = e 4 then b 4 else old 4) ∧
    acts (.acasd t rd ra rb) 8 (if old 8 = e 8 then b 8 else old 8)

/-- Cache maintenance (R163, R164), and the landing of a started write-back. -/
def Obligations.CacheMaintenance : Prop :=
  (∀ (t : Tid) (ra : GReg) (disp : Imm16) (s u : State) (pc : BitVec 40), Issues s t pc u →
    let c := cacheCore t
    let ea : Nat := (BitVec.ofInt 64 ((u.greg t ra).toInt + disp.toInt) : Dword).toNat
    let line := if ea < 2 ^ 36 then u.dline c ea else none
    let started (l : DLine) : List WB :=
      u.mem.wbs ++ (if l.dirty.isEmpty then [] else [⟨l.core, l.addr, l.words, some t.val⟩])
    let next (v : State) : Out := .next (s.leaves t (v.setPc t (pc + 4)))
    (line = none → exec (.flush t ra disp) s = next u ∧ exec (.inval t ra disp) s = next u) ∧
    (∀ l, line = some l →
      (∃ v, exec (.flush t ra disp) s = next v ∧ v.dline c ea = some { l with dirty := [] } ∧
        (∀ a d, (d ≠ c ∨ a / 64 ≠ ea / 64) → v.dline d a = u.dline d a) ∧
        v = { u with mem := { u.mem with
          dcache := v.mem.dcache
          wbs := started l } }) ∧
      (∃ v, exec (.inval t ra disp) s = next v ∧ v.dline c ea = none ∧
        (∀ a d, (d ≠ c ∨ a / 64 ≠ ea / 64) → v.dline d a = u.dline d a) ∧
        v = { u with mem := { u.mem with
          dcache := v.mem.dcache
          wbs := started l } })) ∧
    (∃ v, exec (.fence t) s = next v ∧
      (∀ x ∈ v.mem.wbs, x ∈ u.mem.wbs ∧ x.tid ≠ some t.val) ∧
      (∀ x ∈ u.mem.wbs, x ∉ v.mem.wbs →
        x.tid = some t.val ∨ ∃ y ∈ u.mem.wbs, y ≠ x ∧ y ∉ v.mem.wbs ∧ x.meets y = true) ∧
      (∀ a, u.planeOff a = none →
        (∀ x ∈ u.mem.wbs, x ∉ v.mem.wbs → ∀ w ∈ x.words, a < x.addr + 8 * w.1 ∨ x.addr + 8 * w.1 + w.2.length ≤ a) →
        v.dramByte a = u.dramByte a) ∧
      v.gnor = u.gnor ∧ v.mem.lsram = u.mem.lsram ∧ v.mem.csram = u.mem.csram ∧ v.mem.crqSram = u.mem.crqSram ∧
      v.mem.dcache = u.mem.dcache ∧ v.mem.icache = u.mem.icache)) ∧
  ∀ (s : State) (core idx : Nat),
    let mine := s.mem.wbs.filter (fun w => w.core == core)
    (∀ x, mine[idx]? = some x → ∃ v, exec (.writeback core idx) s = .next v ∧
      v.mem.wbs.length < s.mem.wbs.length ∧ (∀ y ∈ v.mem.wbs, y ∈ s.mem.wbs) ∧
      (∀ y ∈ s.mem.wbs, y ∉ v.mem.wbs → y = x ∨ (y ∈ mine.take idx ∧ ∃ z ∈ mine.take (idx + 1), y.meets z = true)) ∧
      (∀ y ∈ s.mem.wbs, y.core ≠ core → y ∈ v.mem.wbs) ∧
      (∀ a, s.planeOff a = none →
        (∀ y ∈ mine.take (idx + 1), ∀ w ∈ y.words, a < y.addr + 8 * w.1 ∨ y.addr + 8 * w.1 + w.2.length ≤ a) →
        v.dramByte a = s.dramByte a) ∧
      v.mem.lsram = s.mem.lsram ∧ v.mem.csram = s.mem.csram ∧ v.mem.crqSram = s.mem.crqSram ∧
      v.mem.dcache = s.mem.dcache ∧ v.mem.icache = s.mem.icache ∧ v.gnor = s.gnor) ∧
    (mine.length ≤ idx → exec (.writeback core idx) s = .next s)

/-- Gnor-M (R177 to R179). -/
def Obligations.GnorM : Prop :=
  (∀ (t : Tid) (s u : State) (pc : BitVec 40), Issues s t pc u →
    let ill (i : Instr) : Prop := exec i s = .next (s.leaves t (u.takeException t 0x01 0 (encode i).toNat pc))
    (t.val = 128 → (∀ wd wa wb, ill (.wadd t wd wa wb) ∧ ill (.wmov t wd wa) ∧ ill (.wsel t wd wa wb)) ∧
      exec (.idle t) s =
        .next (s.leaves t ({ u with crq := { u.crq with idle := true } }.setPc t (pc + 4))).settleIdle) ∧
    (t.val ≠ 128 → exec (.idle t) s =
      .next (s.leaves t (u.takeException t 0x01 0 (encode (.idle t)).toNat pc)).settleIdle)) ∧
  (∀ (t : Tid) (s u : State) (pc : BitVec 40), Issues s.silent t pc u → t.val = 128 →
    let ill (i : Instr) : Prop :=
      exec i s = .next (s.follow (s.silent.leaves t (u.takeException t 0x01 0 (encode i).toNat pc)))
    (∀ ra rb, ill (.mbxs t ra rb)) ∧ (∀ w ra disp, ill (.wld t w ra disp) ∧ ill (.wst t w ra disp))) ∧
  (∀ s : State,
    let woken : State := { s with crq := { s.crq with idle := false } }
    ((s.crq.idle = false ∨ s.cirqueInput = false) → s.settleIdle = s) ∧
    (s.crq.idle = true → s.cirqueInput = true → s.xact 128 = true → s.settleIdle = woken) ∧
    (s.crq.idle = true → s.cirqueInput = true → s.xact 128 = false →
      s.settleIdle = woken.takeException 128 0x10 0 0 (s.pc 128))) ∧
  ∀ s : State,
    let z := s.settleIdle
    (z.mayIssue 128 = true → z.cirqueInput = true → z.xact 128 = false →
      exec .interrupt s = .next (z.takeException 128 0x10 0 0 (z.pc 128))) ∧
    ((z.mayIssue 128 = false ∨ z.cirqueInput = false ∨ z.xact 128 = true) → exec .interrupt s = .next z)

/-- The frame of the state after a fetch, which the statements of the instructions start from, and the first cause in
the order of R171, for every body an instruction may have. -/
def Obligations.Fetch : Prop :=
  (∀ (s : State) (core a : Nat),
    let r := s.fetch core a
    r.2.gnor = s.gnor ∧ r.2.mem.dram = s.mem.dram ∧ r.2.mem.lsram = s.mem.lsram ∧ r.2.mem.csram = s.mem.csram ∧
    r.2.mem.dcache = s.mem.dcache ∧ r.2.mem.wbs = s.mem.wbs ∧ r.2.planes = s.planes ∧ r.2.lum = s.lum ∧
    r.2.crq = s.crq ∧ r.2.now = s.now ∧ r.2.pending = s.pending ∧ r.2.ice = s.ice ∧ r.2.firn = s.firn ∧
    (NoCe s → r.1 = .done → r.2.regs = s.regs)) ∧
  ∀ (s u : State) (t : Nat) (body : State → Res),
    let z := s.settle t
    let a := (z.pc t).toNat
    (z.mayIssue t = false → s.issue t body = z) ∧
    (∀ cc, z.mayIssue t = true → z.fetch (cacheCore t) a = (.denied cc, u) →
      s.issue t body = s.leaves t (u.takeException t 0x03 cc a (z.pc t))) ∧
    (z.mayIssue t = true → z.fetch (cacheCore t) a = (.poison, u) →
      s.issue t body = s.leaves t (u.takeException t 0x04 ccUe a (z.pc t))) ∧
    ((regionOf (cacheCore t) a = .regs ∨ regionOf (cacheCore t) a = .absent) →
      (z.fetch (cacheCore t) a).1 = .denied ccDenied)

/-- The command interface (R26, R29 to R31) of every block that has one, reached by any requester's register write. -/
def Obligations.CommandInterface : Prop :=
  ∀ (s : State) (r : Req) (v : Word) (blk cmd stat : Nat) (evt : Fld), cmdRegs blk = some (cmd, stat, evt) →
    (s.blkReady blk = true → s.busy stat = true →
      Does (.registerWrite r cmd v) s (fun u => u = s.silent.wr ⟨stat, 30, 1⟩ 1)) ∧
    (s.blkReady blk = false → s.regWrite r cmd v = (ccBusy, s) ∧ Does (.registerWrite r cmd v) s (fun u => u = s.silent)) ∧
    (Takes s blk stat → ∀ f, commandOf blk (v.toNat % 256) r = some f →
      Does (.registerWrite r cmd v) s (fun u => u = f s.silent)) ∧
    (Takes s blk stat → commandOf blk (v.toNat % 256) r = none →
      Does (.registerWrite r cmd v) s (fun u => u = (if blk = 2 then s.silent.wr FIRN_STAT.DONE 0 else s.silent).done stat evt ccRange))

/-- The LUM commands on the operands that R137 accepts. -/
def Obligations.LumenCommands : Prop :=
  ∀ (s : State) (r : Req), Takes s 1 LUM_STAT.addr →
    let key := s.rd LUM_KEY.VALUE
    let d0 := s.rd LUM_DATA0.VALUE
    let d1 := s.rd LUM_DATA1.VALUE
    let ok (u : State) : Prop := Done u LUM_STAT.addr LUM_EVT.CMD_DONE ccOk
    let t := key % 128
    let c := key % 32
    let a := d0 + 2 ^ 32 * (d1 % 256)
    (s.clusterReady (t / 16) = true → startable a = true → s.atRest t = true → s.threadsRun = true →
      Does (.threadStart r) s (fun u => ok u ∧ u.thState t = thRunning ∧ (u.pc t).toNat = a ∧
        (∀ g, u.greg t g = 0) ∧ (∀ w, u.wreg t w = 0) ∧ u.evmask t = 0 ∧ u.cc t = 0 ∧ u.xpc t = 0 ∧ u.xcause t = 0 ∧
        u.reg (LUM_T_TEV.addr t) = 0 ∧ 2 * t ∉ u.lum.armed ∧ 2 * t + 1 ∉ u.lum.armed ∧ u.prim t = none ∧
        (∀ q ≠ t, (∀ g, u.greg q g = s.greg q g) ∧ (∀ w, u.wreg q w = s.wreg q w) ∧ u.pc q = s.pc q) ∧ SameMem u s)) ∧
    (s.clusterReady (t / 16) = true → (s.prim t = none ∨ ∃ x d, s.prim t = some (.wait x d)) →
      Does (.threadStop r) s (fun u => ok u ∧ u.thState t = thStopped ∧ SameGnor u s ∧ SameMem u s)) ∧
    (s.clusterReady (t / 16) = true → s.prim t = some .commit ∨ (∃ x w, s.prim t = some (.kop x w)) →
      Does (.threadStop r) s (fun u => u.busy LUM_STAT.addr = true ∧ u.thState t = thStopping ∧
        u.lum.busy = some (.stop t) ∧ SameGnor u s ∧ SameMem u s)) ∧
    (s.clusterReady (c / 4) = true → s.coreAtRest c = true →
      Does (.coreReset r) s (fun u => ok u ∧ (∀ l ∈ u.mem.dcache, l.core ≠ c) ∧ (∀ l ∈ u.mem.icache, l.core ≠ c) ∧
        (∀ w ∈ u.mem.wbs, w.core ≠ c) ∧ u.reg (LUM_DB.addr c) = 0 ∧ (∀ q < 36, u.chan q c = none) ∧
        (∀ k < 4, u.reg (LUM_T_TEV.addr (4 * c + k)) = 0 ∧ u.reg (LUM_T_EXC.addr (4 * c + k)) = 0) ∧ SameGnor u s)) ∧
    (s.clusterReady (c / 4) = true → (d0 % 4 = 2 → s.coreAtRest c = true) →
      Does (.cacheSync r) s (fun u => ok u ∧
        (d0 % 2 = 1 → (∀ w ∈ u.mem.wbs, w.core ≠ c) ∧ ∀ l ∈ u.mem.dcache, l.core = c → l.dirty = []) ∧
        (d0 / 2 % 2 = 1 → ∀ l ∈ u.mem.dcache, l.core ≠ c) ∧ (d0 / 4 % 2 = 1 → ∀ l ∈ u.mem.icache, l.core ≠ c) ∧
        SameGnor u s)) ∧
    (s.clusterReady (key % 8) = true → 4 ≤ d0 % 32 → d0 % 32 ≤ 16 → s.supplyClash (key % 8) (d0 % 32) = false →
      Does (.dvfs r) s (fun u => u.busy LUM_STAT.addr = true ∧ u.rd (LUM_CL.FREQ_REQ (key % 8)) = d0 % 32 ∧
        u.on (LUM_CL.CHANGING (key % 8)) = true ∧ u.lum.busy = some (.dvfs (key % 8) (d0 % 32)) ∧ SameGnor u s ∧ SameMem u s))

/-- DVFS_DONE, COMMAND_COMPLETE of LUM, and THREAD_RESTART. -/
def Obligations.LumenEvents : Prop :=
  ∀ (s : State),
    (∀ c f, c < 8 → s.lum.busy = some (.dvfs c f) →
      let P (u : State) : Prop := Done u LUM_STAT.addr LUM_EVT.CMD_DONE ccOk ∧ u.on (LUM_CL.CHANGING c) = false ∧
        u.rd (SYS_ISL.VDD c) = supplyOf f ∧ u.on LUM_EVT.DVFS_DONE = true ∧ u.lum.busy = none ∧ SameGnor u s ∧ SameMem u s
      Does (.dvfsDone c) s P ∧ Does (.commandComplete 1) s P) ∧
    (∀ t at', t < 128 → s.lum.restartAt.find? (fun p => p.1 == t) = some (t, at') →
      let z := s.reach at'
      (s.on (LUM_T_STATE.RESTART t) = true → z.threadsRun = true → z.recentRestarts t < 3 →
        Does (.threadRestart t) s (fun u => u.now = max s.now at' ∧ u.thState t = thRunning ∧
          u.pc t = BitVec.ofNat 40 (s.startAddr t) ∧ (∀ g, u.greg t g = 0) ∧ u.xcause t = 0 ∧
          (∀ q ≠ t, ∀ g, u.greg q g = s.greg q g) ∧ SameMem u s)) ∧
      ((s.on (LUM_T_STATE.RESTART t) = false ∨ z.threadsRun = false ∨ 3 ≤ z.recentRestarts t) →
        Does (.threadRestart t) s (fun u => u.now = max s.now at' ∧ u.thState t = s.thState t ∧
          u.on LUM_EVT.THREAD_GIVEUP = true ∧ SameGnor u s ∧ SameMem u s)))

/-- LUM_T_TMRn, LUM_T_SOFT and LUM_DB_SET through their rows. -/
def Obligations.TimersAndDoorbells : Prop :=
  ∀ (s : State) (r : Req) (t n core : Nat) (v : Word), t < 128 → n < 2 → core < 32 →
    let lo := s.rd (LUM_T_TMR_LO.CMP_LO t n)
    let cmp := lo + 2 ^ 32 * v.toNat
    (s.blkReady 1 = true → s.clusterReady (t / 16) = true →
      (cmp = 0 → Does (.timerArm r t n v) s (fun u => 2 * t + n ∉ u.lum.armed ∧ u.tmrCmp t n = 0 ∧ SameGnor u s ∧ SameMem u s)) ∧
      (s.ctr < cmp → Does (.timerArm r t n v) s (fun u => 2 * t + n ∈ u.lum.armed ∧ u.tmrCmp t n = cmp ∧
        u.reg (LUM_T_TEV.addr t) = s.reg (LUM_T_TEV.addr t) ∧ SameGnor u s ∧ SameMem u s)) ∧
      (0 < cmp → cmp ≤ s.ctr → Does (.timerArm r t n v) s (fun u => u.on (tmrBit t n) = true ∧ SameGnor u s ∧ SameMem u s)) ∧
      (v.toNat % 2 = 1 → Does (.softSet r t v) s (fun u => u = s.silent.up (LUM_T_TEV.SOFT t)))) ∧
    (s.blkReady 1 = true → s.clusterReady (core / 4) = true →
      Does (.dbSet r core v) s (fun u => u.rd (LUM_DB.PEND core) = s.rd (LUM_DB.PEND core) ||| v.toNat ∧
        (∀ a, a ≠ LUM_DB.addr core → u.reg a = s.reg a) ∧ SameGnor u s ∧ SameMem u s)) ∧
    (2 * t + n ∈ s.lum.armed →
      Does (.timerFire t n) s (fun u => u.now = max s.now (s.time.up + s.tmrCmp t n) ∧ u.on (tmrBit t n) = true ∧
        (s.rd (LUM_T_TMR_PER.PER t n) = 0 → 2 * t + n ∉ u.lum.armed ∧ u.tmrCmp t n = 0) ∧
        (s.rd (LUM_T_TMR_PER.PER t n) ≠ 0 → 2 * t + n ∈ u.lum.armed ∧
          u.tmrCmp t n = (s.tmrCmp t n + ((u.ctr - s.tmrCmp t n) / s.rd (LUM_T_TMR_PER.PER t n) + 1)
            * s.rd (LUM_T_TMR_PER.PER t n)) % 2 ^ 64) ∧ SameGnor u s ∧ SameMem u s))

/-- The mailbox channels (R122 to R124), for every pair of agents. -/
def Obligations.MailboxChannels : Prop :=
  ∀ (s : State) (snd rcv tid : Nat) (v : Word), snd < 36 →
    (35 < rcv ∨ rcv = snd → s.mbxSend snd rcv tid v = (ccRange, s) ∧ s.mbxRecv rcv snd = (ccRange, 0, s)) ∧
    (rcv < 36 → rcv ≠ snd → s.agentDown rcv = true → s.mbxSend snd rcv tid v = (ccBusy, s)) ∧
    (rcv < 36 → rcv ≠ snd → s.agentDown rcv = false → s.chan snd rcv ≠ none → s.mbxSend snd rcv tid v = (ccFull, s)) ∧
    (rcv < 36 → rcv ≠ snd → s.agentDown rcv = false → s.chan snd rcv = none →
      (s.mbxSend snd rcv tid v).1 = ccOk ∧
      (rcv ≠ 33 → rcv ≠ 34 → (s.mbxSend snd rcv tid v).2.chan snd rcv = some (v, tid) ∧
        ((s.dbMap snd rcv).1 = true →
          (s.mbxSend snd rcv tid v).2.rd (dbField rcv) = s.rd (dbField rcv) ||| 2 ^ (s.dbMap snd rcv).2 % 2 ^ 32) ∧
        ((s.dbMap snd rcv).1 = false → (s.mbxSend snd rcv tid v).2.regs = s.regs)) ∧
      (rcv = 33 ∨ rcv = 34 → (s.mbxSend snd rcv tid v).2.chan snd rcv = none)) ∧
    (rcv < 36 → rcv ≠ snd →
      (s.chan snd rcv = none → s.mbxRecv snd rcv = (ccNotFound, 0, s)) ∧
      (∀ w q, s.chan snd rcv = some (w, q) → (s.mbxRecv snd rcv).1 = ccOk ∧ (s.mbxRecv snd rcv).2.1 = w ∧
        (s.mbxRecv snd rcv).2.2.chan snd rcv = none)) ∧
    (∀ p q, rcv < 36 → p < 36 → q < 36 → (p, q) ≠ (snd, rcv) →
      (s.mbxSend snd rcv tid v).2.chan p q = s.chan p q ∧ (s.mbxRecv snd rcv).2.2.chan p q = s.chan p q)

/-- The mailbox and doorbell primitives. -/
def Obligations.MailboxPrimitives : Prop :=
  ∀ (t : Tid) (rd ra rb : GReg) (s u : State) (pc : BitVec 40), t.val ≠ 128 → Issues s.silent t pc u →
    let a := (u.greg t ra).toNat
    let w : Word := (u.greg t rb).setWidth 32
    let core := t.val / 4
    let ends (cc : Nat) (v : State) : Out := .next (s.follow (s.silent.leaves t ((v.setCc t (BitVec.ofNat 8 cc)).setPc t (pc + 4))))
    exec (.mbxs t ra rb) s = ends (u.mbxSend core a t w).1 (u.mbxSend core a t w).2 ∧
    exec (.mbxr t rd ra) s = ends (u.mbxRecv a core).1
      ((u.mbxRecv a core).2.2.setG t rd ((u.mbxRecv a core).2.1.setWidth 64)) ∧
    exec (.dbellRing t ra rb) s =
      (if 35 < a then ends ccRange u else if u.agentDown a then ends ccBusy u else ends ccOk (u.ring a w.toNat)) ∧
    exec (.dbellTake t rd ra) s = ends ccOk ((u.setReg (LUM_DB.addr core)
      (u.reg (LUM_DB.addr core) &&& ~~~((u.greg t ra).setWidth 32))).setG t rd ((u.reg (LUM_DB.addr core)).setWidth 64)) ∧
    exec (.dbellMask t ra) s = ends ccOk (u.setReg (LUM_T_DBMASK.addr t) ((u.greg t ra).setWidth 32))

/-- WAIT and its timeout (R110). -/
def Obligations.Wait : Prop :=
  (∀ (t : Tid) (rd ra : GReg) (s u : State) (pc : BitVec 40), t.val ≠ 128 → Issues s t pc u →
    let us := (u.greg t ra).toNat
    let ev := u.wakeBits t
    us < 2 ^ 32 →
    (ev ≠ 0 → ∃ v : State, exec (.wait t rd ra) s = .next (s.leaves t (v.setPc t (pc + 4))) ∧ v.cc t = 0 ∧
      (rd ≠ 0 → v.greg t rd = BitVec.ofNat 64 ev) ∧ v.thState t = u.thState t ∧
      v.reg (LUM_T_TEV.addr t) = u.reg (LUM_T_TEV.addr t) &&& ~~~(BitVec.ofNat 32 (ev &&& 0b101110)) ∧ v.mem = u.mem) ∧
    (ev = 0 → us ≠ 0 ∨ u.evmask t ≠ 0 → ∃ v : State, exec (.wait t rd ra) s = .next (s.leaves t v) ∧
      v.thState t = thWaiting ∧ v.prim t = some (.wait rd (if us = 0 then none else some (u.ctr + 800 * us))) ∧
      v.gnor = (u.setPc t (pc + 4)).gnor ∧ v.mem = u.mem) ∧
    (ev = 0 → us = 0 → u.evmask t = 0 → exec (.wait t rd ra) s =
      .next (s.leaves t (((u.setG t rd 0).setCc t (BitVec.ofNat 8 ccRange)).setPc t (pc + 4))))) ∧
  ∀ (t : Tid) (s : State) (rd : GReg) (d : Nat), t.val ≠ 128 → s.prim t = some (.wait rd (some d)) → s.wakeBits t = 0 → s.ctr < d →
    ∃ v : State, exec (.waitTimeout t) s = .next v ∧ v.now = max s.now (s.time.up + d) ∧ v.thState t = thRunning ∧
      v.prim t = none ∧ v.cc t = BitVec.ofNat 8 ccLate ∧ v.greg t rd = 0 ∧ v.pc t = s.pc t ∧ v.mem = s.mem

/-- The mailbox register sets of agents 32 to 35 through their rows. -/
def Obligations.MailboxRegisters : Prop :=
  ∀ (s : State) (r : Req) (agent q : Nat) (v : Word), 32 ≤ agent → agent < 36 → q < 36 →
    s.blkReady (if agent = 33 then 12 else if agent = 34 then 15 else 13) = true →
    (agentOf r = agent →
      Does (.mbxTxWrite r agent q v) s (fun u => u = (s.silent.mbxSend agent q r v).2) ∧
      (∀ w p, q ≠ agent → s.chan q agent = some (w, p) →
        Does (.mbxRxRead r agent q) s (fun u => u.chan q agent = none ∧ SameGnor u s ∧ SameMem u s)) ∧
      Does (.mbxDbSet r agent v) s (fun u => u.rd (MBX_DB.PEND agent) = s.rd (MBX_DB.PEND agent) ||| v.toNat ∧
        (∀ a, a ≠ MBX_DB.addr agent → u.reg a = s.reg a) ∧ SameGnor u s ∧ SameMem u s)) ∧
    (agentOf r ≠ agent → Does (.mbxTxWrite r agent q v) s (fun u => u = s.silent) ∧
      Does (.mbxRxRead r agent q) s (fun u => u = s.silent) ∧ Does (.mbxDbSet r agent v) s (fun u => u = s.silent))

/-- The primitives that RECOVERY denies (R105, R168): DENIED and outputs 0, nothing else. -/
def Obligations.PrimitivesInRecovery : Prop :=
  ∀ (t : Tid) (rd ra rb : GReg) (w : WReg) (table : BitVec 2) (sel4 : BitVec 4) (sel3 : BitVec 3) (s u : State)
    (pc : BitVec 40), t.val ≠ 128 → Issues s.silent t pc u → u.mode = 1 →
    let denied (i : Instr) (v : State) : Prop :=
      exec i s = .next (s.follow (s.silent.leaves t ((v.setCc t (BitVec.ofNat 8 ccDenied)).setPc t (pc + 4))))
    let g := u.setG t rd 0
    let both := (u.setG t rd 0).setW t w 0
    denied (.qpush t ra rb w) u ∧ denied (.qpop t rd ra w) both ∧ denied (.tlook t rd ra w table) both ∧
    denied (.tlaunch t rd ra rb w) g ∧ denied (.fwrite t ra w) u ∧ denied (.fread t ra w sel4) (u.setW t w 0) ∧
    denied (.surge t ra rb) u ∧ denied (.commit t w) u ∧ denied (.eput t rd ra rb w) g ∧
    denied (.mread t rd ra w sel3) both ∧
    denied (.random t rd ra rb w) both ∧ denied (.aesEnc t rd ra rb w) both ∧ denied (.aesDec t rd ra rb w) both ∧
    denied (.gcmSeal t rd ra rb w) g ∧ denied (.gcmOpen t rd ra rb w) g ∧ denied (.cmac t rd ra rb w) both ∧
    denied (.hmac t rd ra rb w) both ∧ denied (.hash t rd ra rb w) both ∧ denied (.sign t rd ra rb w) g ∧
    denied (.verify t rd ra rb w) g ∧ denied (.ecdh t rd ra rb w) g ∧ denied (.derive t rd ra rb w) g ∧
    denied (.generate t rd ra rb w) g ∧ denied (.wrap t rd ra rb w) g ∧ denied (.unwrap t rd ra rb w) g ∧
    denied (.erase t rd ra rb w) g ∧ denied (.info t rd ra rb w) both

/-- The primitives over the operations of their blocks. -/
def Obligations.BlockPrimitives : Prop :=
  ∀ (t : Tid) (rd ra rb : GReg) (w : WReg) (table : BitVec 2) (sel4 : BitVec 4) (sel3 : BitVec 3) (s u : State)
    (pc : BitVec 40), t.val ≠ 128 → Issues s.silent t pc u →
    let a := (u.greg t ra).toNat
    let b := (u.greg t rb).toNat
    let x := u.wreg t w
    let ends (i : Instr) (cc : Nat) (v : State) : Prop :=
      exec i s = .next (s.follow (s.silent.leaves t ((v.setCc t (BitVec.ofNat 8 cc)).setPc t (pc + 4))))
    ends (.log t ra rb w) (u.logRecord t (u.greg t ra) (u.greg t rb) x).1
      (u.logRecord t (u.greg t ra) (u.greg t rb) x).2 ∧
    (u.mode ≠ 1 →
      ends (.qpush t ra rb w) (u.push a b x.toNat).1 (u.push a b x.toNat).2 ∧
      ends (.qpop t rd ra w) (u.pop 1 t a).1.cc
        (((u.pop 1 t a).2.setG t rd (BitVec.ofNat 64 (u.pop 1 t a).1.rd)).setW t w (u.pop 1 t a).1.w) ∧
      (u.rdy 6 = false → ends (.tlook t rd ra w table) ccBusy ((u.setG t rd 0).setW t w 0)) ∧
      (u.rdy 6 = true → ends (.tlook t rd ra w table) (u.lookup table.toNat a x.toNat).1.cc
        (((u.lookup table.toNat a x.toNat).2.setG t rd (BitVec.ofNat 64 (u.lookup table.toNat a x.toNat).1.idx)).setW t w
          (BitVec.ofNat 128 (u.lookup table.toNat a x.toNat).1.w))) ∧
      ends (.tlaunch t rd ra rb w) (u.tlaunchOp a b x).1 ((u.tlaunchOp a b x).2.2.setG t rd
        (BitVec.ofNat 64 (u.tlaunchOp a b x).2.1)) ∧
      ends (.fwrite t ra w) (u.fwrite a x).1 (u.fwrite a x).2 ∧
      ends (.fread t ra w sel4) (u.fread a sel4.toNat).1 ((u.fread a sel4.toNat).2.2.setW t w (u.fread a sel4.toNat).2.1) ∧
      ends (.surge t ra rb) (u.surge a b).1 (u.surge a b).2 ∧
      ends (.eput t rd ra rb w) (u.eputOp a b x).1 ((u.eputOp a b x).2.2.setG t rd
        (BitVec.ofNat 64 (u.eputOp a b x).2.1)) ∧
      ends (.mread t rd ra w sel3) (u.mreadOp sel3.toNat a).1
        (((u.mreadOp sel3.toNat a).2.2.2.setG t rd (BitVec.ofNat 64 (u.mreadOp sel3.toNat a).2.1)).setW t w
          (u.mreadOp sel3.toNat a).2.2.1))

/-- How every KOP starts (R168, R418). -/
def Obligations.KeyOperationsStart : Prop :=
  ∀ (t : Tid) (rd ra rb : GReg) (w : WReg) (s u : State) (pc : BitVec 40), t.val ≠ 128 → Issues s.silent t pc u →
    u.mode ≠ 1 →
    let a := (u.greg t ra).toNat
    let b := (u.greg t rb).toNat
    let keeps (z : State) : Prop := SameGnor z u ∧ z.vlt.slots = u.vlt.slots ∧ (NoCe u → SameMem z u) ∧ EccLog z u
    let starts (i : Instr) (op : Nat) (both : Bool) : Prop :=
      (∀ cc z, u.kopStart (some t) true op a b (u.wreg t w) = (some cc, z) →
        z.vlt.ops = u.vlt.ops ∧ keeps z ∧
        let v := z.setG t rd 0
        exec i s = .next (s.follow (s.silent.leaves t
          (((if both then v.setW t w 0 else v).setCc t (BitVec.ofNat 8 cc)).setPc t (pc + 4))))) ∧
      (∀ z, u.kopStart (some t) true op a b (u.wreg t w) = (none, z) →
        (∃ o : VOp, z.vlt.ops = u.vlt.ops ++ [o] ∧ o.tid = some t.val ∧ o.op = op ∧
          o.src = u.slot (a % 64) ∧ o.w = u.wreg t w) ∧ keeps z ∧
        exec i s = .next (s.follow (s.silent.leaves t (((z.setPrim t (some (.kop rd w))).setTh t thStalled).setPc t (pc + 4))))) ∧
      (u.rdy 3 = false → (u.kopStart (some t) true op a b (u.wreg t w)).1 = some ccBusy) ∧
      (u.rdy 3 = true → a < 64 → b = 0 → op ∈ [1, 2] → u.vlt.ops.length < 16 → (u.slot a).typ = 0 →
        (u.kopStart (some t) true op a b (u.wreg t w)).1 = some ccNotFound) ∧
      (u.rdy 3 = true → a < 128 → 64 ≤ a → b = 0 → op ∈ [1, 2, 0x0F, 0x10] → u.vlt.ops.length < 16 →
        (u.slot (a - 64)).typ ≠ 0 → (u.slot (a - 64)).gen ≠ 0 →
        (u.kopStart (some t) true op a b (u.wreg t w)).1 = some ccStaleGen) ∧
      (u.rdy 3 = true → a < 64 → b = 0 → op ∈ [1, 2, 0x0F, 0x10] → u.vlt.ops.length = 16 →
        (u.kopStart (some t) true op a b (u.wreg t w)).1 = some ccFull)
    starts (.random t rd ra rb w) 0x00 true ∧ starts (.aesEnc t rd ra rb w) 0x01 true ∧
    starts (.aesDec t rd ra rb w) 0x02 true ∧ starts (.gcmSeal t rd ra rb w) 0x03 false ∧
    starts (.gcmOpen t rd ra rb w) 0x04 false ∧ starts (.cmac t rd ra rb w) 0x05 true ∧
    starts (.hmac t rd ra rb w) 0x06 true ∧ starts (.hash t rd ra rb w) 0x07 true ∧
    starts (.sign t rd ra rb w) 0x08 false ∧ starts (.verify t rd ra rb w) 0x09 false ∧
    starts (.ecdh t rd ra rb w) 0x0A false ∧ starts (.derive t rd ra rb w) 0x0B false ∧
    starts (.generate t rd ra rb w) 0x0C false ∧ starts (.wrap t rd ra rb w) 0x0D false ∧
    starts (.unwrap t rd ra rb w) 0x0E false ∧ starts (.erase t rd ra rb w) 0x0F false ∧
    starts (.info t rd ra rb w) 0x10 true

/-- How a KOP ends (R168, R413, R419). -/
def Obligations.KeyOperationsEnd : Prop :=
  ∀ (t : Tid) (s : State) (rd : GReg) (wr : WReg) (o : VOp), t.val ≠ 128 →
    (s.prim t = some (.kop rd wr) → s.vlt.ops.find? (fun x => x.tid == some t.val) = some o →
      let ends (P : State → Prop) : Prop := Does (.primitiveComplete t) s (fun u => P u ∧ u.prim t = none ∧
        u.vlt.ops = s.vlt.ops.eraseP (fun x => x.tid == some t.val) ∧ SameMem u s ∧ u.pc t = s.pc t ∧
        (s.thState t = thStopping → u.thState t = thStopped ∧
          (s.lum.busy = some (.stop t) → Done u LUM_STAT.addr LUM_EVT.CMD_DONE ccOk)) ∧
        (s.thState t ≠ thStopping → u.thState t = thRunning))
      (o.op = 0x10 → ends (fun u => u.cc t = 0 ∧ (rd ≠ 0 → u.greg t rd = BitVec.ofNat 64 o.src.gen) ∧
        u.wreg t wr = BitVec.ofNat 128 (o.src.typ + o.src.usage * 2 ^ 16 + o.src.gen * 2 ^ 32) ∧
        u.vlt.slots = s.vlt.slots)) ∧
      (o.op = 0x01 → ends (fun u => u.cc t = 0 ∧ u.wreg t wr = wideOf (aesEnc o.src.key (wideBytes o.w)) ∧
        u.vlt.slots = s.vlt.slots)) ∧
      (o.op = 0x02 → ends (fun u => u.cc t = 0 ∧ u.wreg t wr = wideOf (aesDec o.src.key (wideBytes o.w)) ∧
        u.vlt.slots = s.vlt.slots)) ∧
      (o.op = 0x05 → ends (fun u => u.cc t = 0 ∧ u.wreg t wr = wideOf (cmac o.src.key o.input) ∧
        u.vlt.slots = s.vlt.slots)) ∧
      (o.op = 0x0F → ends (fun u => u.cc t = 0 ∧ u.on VLT_EVT.SLOT_CHANGED = true ∧
        u.slot o.tgt = ⟨0, 0, nextGen (s.slot o.tgt).gen, []⟩ ∧ ∀ n ≠ o.tgt, u.slot n = s.slot n))) ∧
    (s.vlt.ops.find? (fun x => x.tid == none) = some o → o.op = 0x10 →
      Does (.commandComplete 12) s (fun u => Done u VLT_STAT.addr VLT_EVT.CMD_DONE ccOk ∧
        u.rd VLT_DATA0.VALUE = (o.src.gen) % 2 ^ 32 ∧ u.vlt.slots = s.vlt.slots ∧
        u.vlt.ops = s.vlt.ops.eraseP (fun x => x.tid == none) ∧ SameGnor u s ∧ SameMem u s))

/-- REGISTER_WRITE of the three interrupt registers that every block has (R27, R28), and refused accesses. -/
def Obligations.EventRegisters : Prop :=
  ∀ (s : State) (r : Req) (v : Word) (blk : Nat), blk < 16 →
    let b := blockBase blk
    let only (a : Nat) (u : State) : Prop := (∀ x, x ≠ a → u.reg x = s.reg x) ∧ SameGnor u s ∧ SameMem u s
    (s.blkReady blk = true →
      (∀ d, regDef (b + 4) = some d →
        Does (.registerWrite r (b + 4) v) s (fun u => only (b + 4) u ∧ ∀ k < 32,
          (u.reg (b + 4)).getLsbD k = ((s.reg (b + 4)).getLsbD k &&
            !(v.getLsbD k && d.flds.any (fun f => f.2.2 == .w1c && decide (f.1 ≤ k) && decide (k < f.1 + f.2.1)))))) ∧
      Does (.registerWrite r (b + 8) v) s (fun u => u.reg (b + 8) = v ∧ only (b + 8) u) ∧
      Does (.registerWrite r (b + 12) v) s (fun u =>
        u.reg (b + 12) = (s.reg (b + 12) &&& ~~~ 0x2FF#32) ||| (v &&& 0x2FF#32) ∧ only (b + 12) u)) ∧
    (s.blkReady blk = false → ∀ x ∈ [b + 4, b + 8, b + 12], s.regWrite r x v = (ccBusy, s) ∧
      s.regRead r x = (ccBusy, 0, s) ∧ Does (.registerWrite r x v) s (fun u => u = s.silent)) ∧
    (∀ x, isReg x = true → x % 4 ≠ 0 → s.regWrite r x v = (ccRange, s) ∧ s.regRead r x = (ccRange, 0, s) ∧
      Does (.registerWrite r x v) s (fun u => u = s.silent))

/-- Snapshots: the latches of R36, each requester's own (R34 to R37). -/
def Obligations.Snapshots : Prop :=
  ∀ (s : State) (r : Req) (a : Nat), isReg a = true → s.refusal r a = ccOk → inWindow? a = false → mbxAt a = none →
    (latchLen a ≠ 0 → SMap.get (fun _ => none) s.latch (latchKey r a) = none →
      Does (.snapshotRead r a) s (fun u => u.regs = s.regs ∧ SameGnor u s ∧ SameMem u s ∧
        ∀ k < latchLen a, SMap.get (fun _ => none) u.latch (latchKey r (a + 4 * (k + 1))) =
          some (s.regView r (a + 4 * (k + 1)))) ∧
      Does (.snapshotRead r a) s (fun u => ∀ q b, q ≠ r → b < 2 ^ 40 →
        SMap.get (fun _ => none) u.latch (latchKey q b) = SMap.get (fun _ => none) s.latch (latchKey q b))) ∧
    (SMap.get (fun _ => none) s.latch (latchKey r a) = none →
      (s.regRead r a).1 = ccOk ∧ (s.regRead r a).2.1 = s.regView r a) ∧
    (∀ w, SMap.get (fun _ => none) s.latch (latchKey r a) = some w → rosMask a = 0xFFFF_FFFF#32 →
      (s.regRead r a).1 = ccOk ∧ (s.regRead r a).2.1 = w) ∧
    ∀ blk, ∀ e ∈ (s.dropLatches blk).latch, blockOf (e.1 % 2 ^ 40) ≠ blk

/-- Firn's primitives on its planes. -/
def Obligations.FirnPlanes : Prop :=
  ∀ (s : State) (ep : Nat) (v : Wide), ep < 2 ^ 20 → s.rdy 18 = true → (∀ b ∈ s.planes.base, b % 8 = 0) →
    (entryOk v = true → s.on FIRN_CTRL.EN = true → s.fwriteMode = true →
      let t := (s.fwrite ep v).2
      let bit := s.firnPoison (dirtyOff (if s.isSealed then 2 else 1 - s.actBuf) ep) 1
      (s.fwrite ep v).1 = ccOk ∧ (NoErr s → t.regs = s.regs) ∧ EccLog t s ∧ t.gnor = s.gnor ∧
      (bit = true → t.on SYS_EVT.ECC_UE = true ∧ t.aheadDirty ep = s.aheadDirty ep ∧ t.pendDirty ep = s.pendDirty ep) ∧
      (bit = false → (t.fread ep 0).1 = ccOk ∧ (t.fread ep 0).2.1 = v ∧
        (s.isSealed = true → t.aheadDirty ep = true) ∧ (s.isSealed = false → t.pendDirty ep = true)) ∧
      (∀ e, t.activeEntry e = s.activeEntry e ∧ t.activeDrive e = s.activeDrive e ∧ t.pendDrive e = s.pendDrive e ∧
        (e ≠ ep → (t.pendView e).2 = (s.pendView e).2))) ∧
    (entryOk v = false → s.fwrite ep v = (ccRange, s)) ∧
    (entryOk v = true → s.on FIRN_CTRL.EN = false ∨ s.fwriteMode = false → s.fwrite ep v = (ccDenied, s)) ∧
    (∀ sel, sel ≤ 8 → s.on FIRN_CTRL.EN = true → NoErr s →
      (s.fread ep sel).1 = ccOk ∧ (s.fread ep sel).2.2 = s ∧ (s.fread ep 1).2.1 = s.activeEntry ep ∧
      (s.fread ep 2).2.1 = s.activeDrive ep) ∧
    (∀ sel r, sel ≤ 8 → s.on FIRN_CTRL.EN = true → r ∈ (s.freadOf ep sel).1 → s.firnPoison r.1 r.2 = true →
      (s.fread ep sel).1 = ccUe ∧ (s.fread ep sel).2.1 = 0 ∧ (s.fread ep sel).2.2.planes = s.planes) ∧
    (∀ p, p < 2 ^ 28 → (s.on FIRN_CTRL.EN = false ∨ s.gate 0 = false ∨ s.on FIRN_CTRL.SURGE_EN = false) →
      s.surge ep p = (ccDenied, s)) ∧
    ∀ (t : Tid) (w : WReg) (z u : State) (pc : BitVec 40), t.val ≠ 128 → Issues z.silent t pc u → u.mode ≠ 1 →
      let x := (u.wreg t w).toNat
      let floe := x / 2 ^ 48 % 2 == 1
      let code (cc : Nat) : Prop := exec (.commit t w) z = .next (z.follow
        (z.silent.leaves t (((({ u with firn := { u.firn with hadCommit := true } }.wr FIRN_COMMIT_STAT.LAST_CC cc).setCc t
          (BitVec.ofNat 8 cc))).setPc t (pc + 4))))
      (u.rdy 18 = false → code ccBusy) ∧
      (u.rdy 18 = true → 2 ^ 49 ≤ x → code ccRange) ∧
      (u.rdy 18 = true → x < 2 ^ 49 → u.firnGate floe = false → code ccDenied) ∧
      (u.rdy 18 = true → x < 2 ^ 49 → u.firnGate floe = true → u.isSealed = true ∨ u.isChecking = true → code ccBusy) ∧
      (u.rdy 18 = true → x < 2 ^ 49 → u.firnGate floe = true → u.isSealed = false → u.isChecking = false →
        (floe = true → u.on FLOE_STATUS.SKEW = true → code ccSkew) ∧
        (floe = false ∨ u.on FLOE_STATUS.SKEW = false → ∃ q : State, exec (.commit t w) z = .next (z.follow (z.silent.leaves t q)) ∧
          q.firn.check = some ⟨t.val, x % 2 ^ 48, floe⟩ ∧ q.isChecking = true ∧ q.thState t = thStalled ∧
          q.prim t = some .commit ∧ q.pc t = pc + 4 ∧ q.cc t = u.cc t ∧ q.planes = u.planes ∧ q.mem = u.mem))

/-- The FIRN commands (R54, R73, R75, R90, R97, R103) on operands they accept. -/
def Obligations.FirnCommands : Prop :=
  ∀ (s : State) (r : Req), Takes s 2 FIRN_STAT.addr →
    let key := s.rd FIRN_KEY.VALUE
    let d0 := s.rd FIRN_DATA0.VALUE
    let src := d0 + 2 ^ 32 * (s.rd FIRN_DATA1.VALUE % 256)
    let n := s.rd FIRN_DATA2.VALUE % 2 ^ 17
    let ok (u : State) (n : Nat) : Prop :=
      Done u FIRN_STAT.addr FIRN_EVT.CMD_DONE ccOk ∧ u.rd FIRN_STAT.DONE = n ∧ SameGnor u s
    (key < 2 ^ 20 → d0 / 2 ^ 22 % 2 ^ 9 = 0 → s.sealedChanged key = false →
      
      (s.firnPoison (mapOff key) 4 = true → Does (.mapSet r) s (fun u =>
        Done u FIRN_STAT.addr FIRN_EVT.CMD_DONE ccUe ∧ u.planes = s.planes ∧ SameMem u s ∧ SameGnor u s)) ∧
      (NoErr s → Does (.mapSet r) s (fun u => ok u 1 ∧ u.mapEntry key = BitVec.ofNat 32 d0 ∧
        (∀ e, e ≠ key → u.mapEntry e = s.mapEntry e) ∧ u.mem = s.mem ∧
        (2 ^ 31 ≤ d0 → u.planes = { s.planes with map := u.planes.map } ∧ u.firn = s.firn) ∧
        (d0 < 2 ^ 31 → (∀ g ∈ u.firn.surges, g.ep ≠ key) ∧
          ∀ e, u.activeEntry e = s.activeEntry e ∧ u.pendEntry e = s.pendEntry e)))) ∧
    (key < 2 ^ 18 → d0 < 2 ^ 9 → s.endpointsOf key ≠ [] → NoErr s →
      Does (.tempSet r) s (fun u => ok u 1 ∧ bitsOf (u.nodePlane key).toNat 24 8 = d0 % 256 ∧
        bitsOf (u.nodePlane key).toNat 66 1 = d0 / 256 ∧ (∀ m, m ≠ key → u.nodePlane m = s.nodePlane m) ∧
        u.mem = s.mem)) ∧
    (d0 ≠ 0 → d0 < 2 ^ 21 → key + d0 ≤ 2 ^ 20 → NoErr s →
      Does (.recalc r) s (fun u => ok u d0 ∧ u.mem = s.mem ∧
        ∀ e, key ≤ e → e < key + d0 → (u.pendView e).2 = (s.pendView e).2 ∧
          (s.isSealed = true → u.aheadDirty e = true) ∧
          (s.isSealed = false → u.pendDirty e = true ∧ u.pendDrive e = driveEntry (s.calRec e) (s.pendView e).2))) ∧
    (∀ c, s.firn.commit = some c → c.floe = false → s.pastCutoff c.epoch = false → NoErr s →
      Does (.abort r) s (fun u => ok u 0 ∧ u.firn.commit = none ∧ u.rd FIRN_COMMIT_STAT.STATE = 0 ∧
        u.rd FIRN_EPOCH_LO.S_LO = s.firn.lastEpoch % 2 ^ 32 ∧
        u.on FIRN_COMMIT_STAT.ABORTED = true ∧ u.on FIRN_EVT.ABORTED = true ∧ u.frameNo = s.frameNo ∧
        (∀ e, u.activeEntry e = s.activeEntry e ∧ u.activeDrive e = s.activeDrive e) ∧ u.mem = s.mem)) ∧
    (key < 2 ^ 18 → (s.cellOf key).isSome = true → NoErr s →
      Does (.resync r) s (fun u => ok u 1 ∧ u.owed key = s.catchup key :: (s.owed key).filter (fun o => !o.landed) ∧
        u.rd FIRN_RESYNC_CNT.COUNT = (s.rd FIRN_RESYNC_CNT.COUNT + 1) % 2 ^ 32 ∧ u.on FIRN_EVT.RESYNC = true ∧
        (∀ m, m ≠ key → u.owed m = s.owed m) ∧ u.mem = s.mem)) ∧
    (key < 2 ^ 18 → NoErr s →
      Does (.nodeState r) s (fun u => ok u 1 ∧ SameMem u s ∧
        u.rd FIRN_DATA0.VALUE = (s.nodePlane key).toNat % 2 ^ 32 ∧
        u.rd FIRN_DATA1.VALUE = (s.nodePlane key).toNat / 2 ^ 32 % 2 ^ 32 ∧
        u.rd FIRN_DATA2.VALUE = (s.nodePlane key).toNat / 2 ^ 64 % 2 ^ 32 ∧
        u.rd FIRN_DATA3.VALUE = (s.nodePlane key).toNat / 2 ^ 96 % 2 ^ 32)) ∧
    (src % 64 = 0 → n = 1 → key < 2 ^ 20 → src + 64 ≤ 2 ^ 36 →
      ∀ bs, s.dmaRead src 64 = some bs → calOk (BitVec.ofNat 512 (ofLe bs)) = true →
        Does (.calLoad r) s (fun u => ok u 1 ∧ u.rd FIRN_DATA3.VALUE = 1 ∧ u.calRec key = BitVec.ofNat 512 (ofLe bs) ∧
          (∀ e, e ≠ key → u.calRec e = s.calRec e) ∧ u.planes = { s.planes with cal := u.planes.cal }))

/-- The life of Firn's frame. What each command may change besides is named: all else stands as in s, which sends nothing. -/
def Obligations.FirnEvents : Prop :=
  ∀ (s : State) (r : Req) (v : Word),
    let z := s.copyDone
    let regsBut (u : State) (l : List Nat) : Prop := ∀ a, a ∉ l → u.reg a = s.reg a
    let blocksBut (u : State) (l : List Nat) : Prop := ∀ a, blockOf a ∉ l → u.reg a = s.reg a
    let active (u : State) : Prop := ∀ e, u.activeEntry e = s.activeEntry e ∧ u.activeDrive e = s.activeDrive e
    (s.blkReady 2 = true → s.on FIRN_CTRL.EN = false → s.planes.filling = false →
      (s.firnBase ≤ 0xF_E000_0000 → Does (.firnEnable r v) s (fun u =>
        u.planes = { base := some s.firnBase, filling := true, filled := true } ∧
        u.firn = { hadCommit := s.firn.hadCommit, lastEpoch := s.firn.lastEpoch, kSent := s.firn.kSent } ∧
        u.on FIRN_CTRL.EN = false ∧ u.rd FIRN_CTRL.SURGE_EN = v.toNat / 2 % 2 ∧
        u = { s.silent with regs := u.regs, planes := u.planes, firn := u.firn, mem := u.mem } ∧
        regsBut u [FIRN_CTRL.addr, FIRN_LAG.addr, FIRN_BUF.addr] ∧
        u.mem = { s.mem with dram := u.mem.dram, dramPoison := u.mem.dramPoison, dramCe := u.mem.dramCe } ∧
        ∀ a, s.planeOff a = none → (a < s.firnBase ∨ s.firnBase + firnSize ≤ a) → u.dramByte a = s.dramByte a)) ∧
      (0xF_E000_0000 < s.firnBase → Does (.firnEnable r v) s (fun u =>
        u.on FIRN_CTRL.EN = false ∧ u.on FIRN_EVT.CFG_ERR = true ∧ regsBut u [FIRN_CTRL.addr, FIRN_EVT.addr] ∧
        u = { s.silent with regs := u.regs, firn := { s.firn with derates := u.firn.derates } }))) ∧
    (s.planes.filling = true → Does (.firnFillDone) s (fun u => u.on FIRN_CTRL.EN = true ∧ regsBut u [FIRN_CTRL.addr] ∧
      u = { s.silent with regs := u.regs, planes := { s.planes with filling := false } })) ∧
    (∀ c, s.blkReady 2 = true → s.on FIRN_CTRL.EN = true → s.firn.check = some c → c.tid < 128 →
      Does (.firnDisable r v) s (fun u => u.on FIRN_CTRL.EN = false ∧ u.firn.check = none ∧
        u.rd FIRN_COMMIT_STAT.LAST_CC = ccDenied ∧ blocksBut u [1, 2] ∧
        u = { s.silent with
          regs := u.regs, gnor := u.gnor, lum := u.lum, planes := { s.planes with filling := false }
          firn := { s.firn with check := none, hadCommit := true, derates := u.firn.derates } })) ∧
    (s.blkReady 2 = true → s.on FIRN_CTRL.EN = true → s.firn.check = none → NoErr s →
      (s.firn.commit = none → Does (.firnDisable r v) s (fun u => u.on FIRN_CTRL.EN = false ∧
        regsBut u [FIRN_CTRL.addr] ∧ u = { s.silent with
          regs := u.regs, planes := { s.planes with filling := false }
          firn := { s.firn with derates := u.firn.derates } })) ∧
      (∀ c, s.firn.commit = some c →
        (s.pastCutoff c.epoch = true → Does (.firnDisable r v) s (fun u => u.on FIRN_CTRL.EN = true ∧
          u.firn.commit = some c ∧ u.firn.offAfter = true ∧ regsBut u [FIRN_CTRL.addr] ∧
          u = { s.silent with regs := u.regs, planes := { s.planes with filling := false }, firn := u.firn })) ∧
        (s.pastCutoff c.epoch = false → Does (.firnDisable r v) s (fun u => u.on FIRN_CTRL.EN = false ∧
          u.firn.commit = none ∧ u.on FIRN_EVT.ABORTED = true ∧ active u ∧ u.frameNo = s.frameNo ∧
          regsBut u [FIRN_CTRL.addr, FIRN_EVT.addr, FIRN_COMMIT_STAT.addr, FIRN_EPOCH_LO.addr, FIRN_EPOCH_HI.addr,
            FIRN_LAG.addr] ∧
          u = { s.silent with regs := u.regs, planes := u.planes, firn := u.firn })))) ∧
    (∀ c, s.firn.check = some c → c.tid < 128 → s.firn.commit = none → c.floe = false → NoErr s →
      let told (u : State) (cc : Nat) : Prop := u.rd FIRN_COMMIT_STAT.LAST_CC = cc ∧ u.firn.check = none ∧
        (s.prim c.tid = some .commit → u.prim c.tid = none ∧ u.cc c.tid = BitVec.ofNat 8 cc ∧
          u.thState c.tid = if s.thState c.tid = thStopping then thStopped else thRunning) ∧
        active u ∧ blocksBut u [1, 2] ∧ (∀ t < 128, t ≠ c.tid → u.cc t = s.cc t ∧ u.thState t = s.thState t) ∧
        (∀ t, u.greg t = s.greg t ∧ u.wreg t = s.wreg t ∧ u.pc t = s.pc t) ∧
        u = { s.silent with regs := u.regs, gnor := u.gnor, lum := u.lum, planes := u.planes, firn := u.firn, free := u.free }
      (s.firnGate false = false → Does .commitCheckEnd s (fun u => told u ccDenied ∧ u.firn.commit = none ∧
        u.planes = s.planes)) ∧
      (s.firnGate false = true → c.epoch ≠ 0 → c.epoch * 1000000000 < s.netNs + 2000000000 →
        Does .commitCheckEnd s (fun u => told u ccLate ∧ u.firn.commit = none)) ∧
      (s.firnGate false = true → (z.checkCommit c).1 = ccOk →
        Does .commitCheckEnd s (fun u => told u ccOk ∧ u.rd FIRN_COMMIT_STAT.STATE = 2 ∧ u.on FIRN_EVT.COMMIT_SEALED = true ∧
          ∃ q, u.firn.commit = some q ∧ q.epoch = (if c.epoch = 0 then s.earliestReg else c.epoch) ∧ q.floe = false))) ∧
    (s.standsBy = true → Does .epoch s (fun u => u = s.silent)) ∧
    (∀ c, s.firn.commit = some c → s.standsBy = false → NoErr s → Does .epoch s (fun u =>
      u.actBuf = 1 - s.actBuf ∧ u.frameNo = (s.frameNo + 1) % 2 ^ 64 ∧ u.rd FIRN_COMMIT_STAT.STATE = 0 ∧
      u.on FIRN_EVT.EPOCH = true ∧ u.copying = true ∧ u.firn.commit = none ∧
      (∀ a, blockOf a ≠ 2 → a ≠ FLOE_STATUS.addr → u.reg a = s.reg a) ∧
      u = { s.silent with now := u.now, regs := u.regs, planes := u.planes, firn := u.firn, floe := u.floe } ∧
      ∀ e, u.activeEntry e = (if z.pendDirty e && entHold (z.pendEntry e) then z.activeEntry e else z.pendEntry e))) ∧
    (s.copying = true → NoErr s → Does .copyDone s (fun u => u.copying = false ∧ u.on FIRN_EVT.COPY_DONE = true ∧
      regsBut u [FIRN_BUF.addr, FIRN_EVT.addr] ∧ u = { s.silent with regs := u.regs, planes := u.planes } ∧
      u.planes.dirtyA = [] ∧ active u ∧
      ∀ e, u.pendEntry e = (if s.pendDirty e then s.pendEntry e else
        if s.aheadDirty e then SMap.get zeroWide s.planes.ahead e else s.activeEntry e))) ∧
    (∀ c, s.firn.commit = some c →
      (c.floe = true → s.rd FLOE_CHANGE.STATE ≠ 1 → s.standsBy = false → NoErr s → Does .abortCutoff s (fun u =>
        u.firn.commit = none ∧ u.on FIRN_COMMIT_STAT.ABORTED = true ∧ u.frameNo = s.frameNo ∧ active u ∧
        blocksBut u [2] ∧ u = { s.silent with now := u.now, regs := u.regs, planes := u.planes, firn := u.firn })) ∧
      (c.floe = false → Does .abortCutoff s (fun u => u = { s.silent with now := u.now }))) ∧
    (∀ ep g, ep < 2 ^ 20 → s.standsBy = false → s.firn.surges.find? (fun g => g.ep == ep && g.first.isNone && g.hold != 0) = some g →
      Does (.surgeDrop ep) s (fun u => u.on FIRN_EVT.SURGE_DROP = true ∧ regsBut u [FIRN_EVT.addr] ∧
        u = { s.silent with
          now := max s.now (s.time.up + g.last + 1), regs := u.regs
          firn := { s.firn with surges := s.firn.surges.filter (· != g) } })) ∧
    (∀ n m, n < 2 ^ 18 → s.mac n = some m → s.standsBy = false → NoErr s → Does (.tempStale n) s (fun u =>
      bitsOf (u.nodePlane n).toNat 67 1 = 1 ∧ (∀ k, k ≠ n → u.nodePlane k = s.nodePlane k) ∧
      u = { s.silent with now := u.now, planes := { s.planes with node := u.planes.node } }))

/-- The SAST commands (R224). -/
def Obligations.SastCommands : Prop :=
  ∀ (s : State) (r : Req), Takes s 3 SAST_STAT.addr →
    let key := s.rd SAST_KEY.VALUE
    let d0 := s.rd SAST_DATA0.VALUE
    let d2 := s.rd SAST_DATA2.VALUE
    let d3 := s.rd SAST_DATA3.VALUE
    let base := d3 / 2 ^ 16 % 128
    let ends (u : State) (cc : Nat) : Prop := Done u SAST_STAT.addr SAST_EVT.CMD_DONE cc ∧ SameGnor u s ∧ SameMem u s
    (s.on (SAST_CHAIN.LOCK (key % 8)) = true → Does (.discover r) s (fun u => u.busy SAST_STAT.addr = true ∧
      (u.chain (key % 8)).disc = some ⟨0, false, 0, 0, 0, s.rd (SAST_CHAIN.HEADS (key % 8)), s.ctr⟩ ∧
      (u.chain (key % 8)).cmd = true ∧ SameGnor u s ∧ SameMem u s)) ∧
    (s.on (SAST_CHAIN.LOCK (key % 8)) = false → Does (.discover r) s (fun u => ends u ccBusy ∧ u.sast = s.sast)) ∧
    (s.sast.next = none → s.planAddr + 65536 ≤ 2 ^ 36 →
      (s.dmaRead s.planAddr 65536 = none → Does (.planLoad r) s (fun u => ends u ccUe ∧ u.sast = s.sast)) ∧
      (∀ bs, s.dmaRead s.planAddr 65536 = some bs → NoCe s →
        let rec' (c : Nat) : List Byte := (bs.drop (1024 * c)).take 1024
        let good (c : Nat) : Bool := cellOk (s.rd SAST_CTRL.BAND) ((s.head c).cap.map CapDesc.phys) (rec' c)
        ((∃ c < 64, good c = false) → Does (.planLoad r) s (fun u => ends u ccRange ∧ u.sast = s.sast)) ∧
        ((∀ c < 64, good c = true) →
          (∀ i j, i < j → j < 64 → s.conflicting i j = true → cellClash (cellOfBytes (rec' i)) (cellOfBytes (rec' j)) = false) →
          Does (.planLoad r) s (fun u => ends u ccOk ∧ u.on SAST_PLAN_STAT.PENDING = true ∧ u.sast.plan = s.sast.plan ∧
            ∃ p, u.sast.next = some (p, s.netNs) ∧ p.version = d0 % 65536 ∧ p.cells.length = 64 ∧
              ∀ c < 64, p.cells[c]? = some (cellOfBytes (rec' c)))))) ∧
    Does (.conflictClr r) s (fun u => ends u ccOk ∧ u.sast.conflict = [] ∧
      ∀ i < 64, ∀ k < 32, u.reg (SAST_CONFLICT.addr i k) = 0) ∧
    (∀ e, key < 2 ^ 18 → s.nodeEnt key = some e → Does (.nodeInfo r) s (fun u => ends u ccOk ∧ u.sast = s.sast ∧ u.src = s.src ∧
      (s.tethered key = true → u.rd SAST_DATA0.VALUE = (e.head + e.short * 64 + 3 * 2 ^ 22) % 2 ^ 32) ∧
      (s.mac key = none → s.tethered key = false → u.rd SAST_DATA0.VALUE = (e.head + e.short * 64) % 2 ^ 32) ∧
      (∀ m g, s.mac key = some m → m.grant = some g → s.tethered key = false → m.lost = false → m.wcode = 0 →
        u.rd SAST_DATA0.VALUE = (e.head + e.short * 64 + 2 ^ 22) % 2 ^ 32 ∧ u.rd SAST_DATA2.VALUE = g.seq % 2 ^ 32 ∧
        u.rd SAST_DATA1.VALUE = (g.slot + g.ch * 256 + g.logP * 2 ^ 11 + g.phase * 2 ^ 14 + 2 ^ 20) % 2 ^ 32))) ∧
    (2 ^ 18 ≤ key ∨ s.nodeEnt key = none → Does (.nodeInfo r) s (fun u => ends u ccNotFound ∧ u.sast = s.sast)) ∧
    (s.standsBy = true → (∀ i ∈ [Instr.sastHandover r, .disassoc r, .grantSet r],
      Does i s (fun u => ends u ccDenied ∧ u.sast = s.sast))) ∧
    (s.cellOf key = none → s.standsBy = false → Does (.sastHandover r) s (fun u => ends u ccNotFound ∧ u.sast = s.sast)) ∧
    (∀ c m, s.cellOf key = some c → s.mac key = some m → s.standsBy = false → s.sleepy key = false → s.tethered key = false →
      s.roomIn (d0 % 64) = true →
      Does (.sastHandover r) s (fun u => ends u ccOk ∧ u.src = s.src ∧ ∃ m' v, u.mac key = some m' ∧ m'.move = some v ∧
        v.cell = d0 % 64 ∧ v.sec = s.netSec + 2 ∧ m'.grant = m.grant)) ∧
    (∀ e, s.nodeEnt key = some e → e.bound = true → s.standsBy = false → Does (.disassoc r) s (fun u => ends u ccOk ∧ u.mac key = none ∧
      u.nodeEnt key = some { e with assoc := false, short := 0xFFFE } ∧ ∀ n, n ≠ key → u.nodeEnt n = s.nodeEnt n)) ∧
    (∀ m c, s.mac key = some m → s.cellOf key = some c → s.standsBy = false →
      let t := s.setMac key (some { m with grant := none })
      (d0 / 8 = 1 → Does (.grantSet r) s (fun u => ends u ccOk ∧ u.mac key = some { m with grant := none })) ∧
      (d0 < 7 → (t.allot c d0).1 = none → Does (.grantSet r) s (fun u => ends u ccQuota ∧ u.sast = s.sast)) ∧
      (∀ g, d0 < 7 → (t.allot c d0).1 = some g → g.logP = d0 ∧
        Does (.grantSet r) s (fun u => ends u ccOk ∧ u.mac key = some { m with grant := some g }))) ∧
    (∀ i p q, d2 / 2 ^ 27 = 0 → d2 / 2 ^ 26 = 1 ∨ key < 2 ^ 18 → 2 ≤ d2 / 64 % 1024 → d2 / 64 % 1024 ≤ 800 →
      d2 / 2 ^ 22 % 16 ≤ 8 → 1 ≤ d3 % 1024 → d3 % 1024 ≤ 600 → d3 / 1024 % 64 = 0 → d3 / 2 ^ 23 = 0 →
      (base = 0 ∨ s.on SAST_CTRL.BAND = true) → base ≤ 65 → s.mode = 2 ∨ s.mode = 3 → s.holds = true →
      s.tetherRoom (d2 % 64) = some i → s.sast.plan = some p → p.cells[d2 % 64]? = some q →
      2 ≤ ((q.rf.filter (fun c => base ≤ c && c ≤ base + 63 && c ≤ topChannel (s.rd SAST_CTRL.BAND))).eraseDups).length →
      Does (.tetherOpen r) s (fun u => ends u ccOk ∧ u.rd SAST_DATA0.VALUE = i ∧ (∀ k, k ≠ i → u.tether k = s.tether k) ∧
        ∃ t, u.tether i = some t ∧ t.head = d2 % 64 ∧ t.interval = d2 / 64 % 1024 ∧ t.sup = d3 % 1024 ∧ t.base = base ∧
          t.node = (if d2 / 2 ^ 26 = 1 then s.nodeByEui (s.rd64 SAST_DATA0.VALUE SAST_DATA1.VALUE) else some key) ∧
          t.event = 0 ∧ t.recovery = false)) ∧
    (s.tether (key % 16) = none → Does (.tetherClose r) s (fun u => ends u ccNotFound ∧ u.sast = s.sast)) ∧
    (s.tether (key % 16) ≠ none → Does (.tetherClose r) s (fun u => ends u ccOk ∧ u.tether (key % 16) = none ∧
      ∀ k, k ≠ key % 16 → u.tether k = s.tether k)) ∧
    (5 < d0 % 8 → Does (.headCap r) s (fun u => ends u ccRange ∧ u.sast = s.sast)) ∧
    (∀ d, d0 % 8 ≤ 5 → (s.head (key % 64)).cap = some d → Does (.headCap r) s (fun u => ends u ccOk ∧ u.sast = s.sast ∧
      u.rd SAST_DATA0.VALUE = ofLe (((capBytes d).drop (4 * (d0 % 8))).take 4)))

/-- The register writes and the heads' events of Sastrugi. -/
def Obligations.SastEvents : Prop :=
  ∀ (s : State) (r : Req) (v : Word) (n pos h i : Nat), n < 8 → pos < 8 → h < 64 → i < 16 →
    let x := v.toNat
    let quiet (u : State) : Prop := SameGnor u s ∧ SameMem u s
    let k := divUp s.nextSlot 200 * 200
    let adv := [x % 256, x / 256 % 256, x / 65536 % 256]
    let bad : Prop := (∃ c ∈ adv, topChannel (s.rd SAST_CTRL.BAND) < c) ∨ (∃ c ∈ adv, ∃ d ∈ adv, c + 63 < d)
    (s.blkReady 3 = true →
      Does (.sastEnable r v) s (fun u => quiet u ∧ u.rd SAST_CTRL.ASSOC_OPEN = x / 4 % 2 ∧ u.rd SAST_CTRL.TETHER_SCAN = x / 16 % 2 ∧
        u.on SAST_CTRL.EN = (x % 2 == 1 && (s.on SAST_CTRL.EN || s.sast.plan.isSome)) ∧
        u.rd SAST_CTRL.BAND = if s.on SAST_CTRL.EN then s.rd SAST_CTRL.BAND else x / 2 % 2) ∧
      Does (.budgetWrite r h v) s (fun u => quiet u ∧ u.rd (SAST_BUDGET.UNITS h) = min (x % 2 ^ 17) 102400 ∧ u.sast = s.sast) ∧
      (bad → Does (.advChWrite r v) s (fun u => u = s.silent.up SAST_EVT.CFG_ERR)) ∧
      (¬ bad → Does (.advChWrite r v) s (fun u => u = s.silent.setReg SAST_ADV_CH.addr (v &&& 0x00FF_FFFF#32)))) ∧
    Does (.chainLock n) s (fun u => quiet u ∧ u.on (SAST_CHAIN.LOCK n) = true ∧
      (u.chain n).disc = some ⟨0, false, 0, 0, 0, s.rd (SAST_CHAIN.HEADS n), s.ctr⟩) ∧
    (∀ d, (s.chain n).disc = some d → d.caped = false → d.pos < 8 →
      Does (.capWaitExpiry n) s (fun u => quiet u ∧ (u.chain n).disc = none ∧ u.rd (SAST_CHAIN.HEADS n) = d.pos ∧
        u.now = max s.now (s.time.up + d.asked + msTicks 2) ∧
        (s.turned = false → ∀ k < 8, d.pos ≤ k → s.on (SAST_HEAD.VIA_PARTNER (8 * n + k)) = false → u.on (SAST_HEAD.PRESENT (8 * n + k)) = false) ∧
        ((s.chain n).cmd = true → Done u SAST_STAT.addr SAST_EVT.CMD_DONE ccOk))) ∧
    (∀ k d, (s.chain n).disc = some k → k.pos = pos → k.caped = false → (s.chain n).span ≤ 8 →
      s.turned = false ∨ pos < (s.chain n).span →
      Does (.cap n pos d) s (fun u => quiet u ∧ (u.head (s.headAt n pos)).cap = some d ∧
        u.on (SAST_HEAD.PRESENT (s.headAt n pos)) = true ∧ u.on (SAST_HEAD.COMPAT (s.headAt n pos)) = s.compatible d ∧
        (u.chain n).disc = some { k with caped := true })) ∧
    (∀ k rtt turn, (s.chain n).disc = some k → k.pos = pos → k.caped = true → (s.chain n).span ≤ 8 →
      (k.echoes < 255 → Does (.echoRsp n pos rtt turn) s (fun u => u.regs = s.regs ∧ (u.chain n).disc =
        some { k with echoes := k.echoes + 1, rtt := k.rtt + rtt, turn := k.turn + turn })) ∧
      (k.echoes = 255 → Does (.echoRsp n pos rtt turn) s (fun u =>
        (pos < 7 ∨ s.turned = false → u.on (SAST_HOP_DLY.VALID (s.headAt n pos)) = true ∧
          u.on (SAST_HOP_LEN.VALID (s.headAt n pos)) = true) ∧
        (pos < 7 → (u.chain n).disc = some ⟨pos + 1, false, 0, 0, 0, k.old, s.ctr⟩) ∧
        (pos = 7 → (u.chain n).disc = none ∧ u.rd (SAST_CHAIN.HEADS n) = 8)))) ∧
    (∀ rtts turns, s.on (SAST_HEAD.PRESENT h) = true → rtts ≠ [] → Does (.hopMeasure h rtts turns) s (fun u => quiet u ∧
      u.on (SAST_HOP_DLY.VALID h) = true ∧ u.on (SAST_HOP_LEN.VALID h) = true ∧
      u.rd (SAST_HOP_LEN.LENGTH h) ≤ 100000)) ∧
    (∀ seq res, Does (.txDone h seq res) s (fun u => u.regs = s.regs ∧ quiet u ∧ (u.head h).lastTx = some (seq, res) ∧
      (∀ k, k ≠ h → u.head k = s.head k) ∧
      u.sast.air = s.sast.air.filter (fun a => !(a.head == h && a.seq == seq)) ∧ u.sast.nodes = s.sast.nodes)) ∧
    (∀ mask us, s.holds = true → Does (.holdOff h mask us) s (fun u => u.regs = s.regs ∧ quiet u ∧
      (u.head h).asked = (s.head h).asked ++ [(mask % 256, us)] ∧ (u.head h).holds = (s.head h).holds)) ∧
    (((s.head h).holds.filterMap Prod.snd) ≠ [] → Does (.holdoffExpiry h) s (fun u => quiet u ∧ s.now ≤ u.now ∧
      (∀ p ∈ (u.head h).holds, ∃ t, p.2 = some t ∧ u.ctr < t) ∧
      u.on (SAST_HEAD.HOLDOFF h) = !(u.head h).holds.isEmpty)) ∧
    (∀ bits, s.standsBy = false → Does (.status h bits) s (fun u => quiet u ∧ (u.head h).status = bits % 8 ∧
      u.rd (SAST_HEAD.SYNC_LOST h) = bits % 2)) ∧
    (∀ lost, Does (.chainBreak n pos lost) s (fun u => quiet u ∧ u.on (SAST_CHAIN.BROKEN n) = true ∧
      u.rd (SAST_CHAIN.BREAK_POS n) = pos ∧ u.on SAST_EVT.CHAIN_BREAK = true ∧
      (lost = true → u.on (SAST_CHAIN.LOCK n) = false))) ∧
    (∀ f, Does (.wrapRelay n f) s (fun u => u.regs = s.regs ∧ quiet u ∧
      let g := if f.typ = 1 then { f with time := s.netNs } else f
      let held := (s.chain n).held
      let waits := !held.isEmpty || s.chainHeld n g s.ctr
      (chainOk f = true → f.dir = 0 → (u.chain n).relay = some (g, s.netNs) ∧
        (f.typ = 1 ∨ f.typ = 2 → (u.chain n).held = held ∧
          u.out = if s.lqRoom (8 + n) (16 + f.data.length) then [.chain n g] else []) ∧
        (f.typ ≠ 1 → f.typ ≠ 2 → (u.chain n).held = (if waits then held ++ [g] else held) ∧
          u.out = if waits then [] else [.chain n g])) ∧
      (chainOk f = false ∨ f.dir ≠ 0 → (u.chain n).discards = (s.chain n).discards + 1 ∧ u.out = []))) ∧
    Does (.chainFrameDiscard n) s (fun u => u.regs = s.regs ∧ quiet u ∧ (u.chain n).discards = (s.chain n).discards + 1) ∧
    (∀ j rssi, j < 64 → s.holds = true →
      Does (.surveyBeaconRx h j rssi) s (fun u => u.regs = s.regs ∧ quiet u ∧ (s.loud rssi = false → u.sast = s.sast) ∧
        (s.loud rssi = true → SMap.get (fun _ => 0) u.sast.conflict (64 * h + j) =
          min (SMap.get (fun _ => 0) s.sast.conflict (64 * h + j) + 1) 65535))) ∧
    (∀ rssi, s.holds = true → s.loud rssi = true → Does (.badFcsRx h rssi) s (fun u => quiet u ∧
      u.rd (SAST_COLL.COUNT h) = (s.rd (SAST_COLL.COUNT h) + 1) % 2 ^ 32 ∧ (u.cell h).coll = (s.cell h).coll + 1 ∧
      ((s.cell h).coll = 15 → u.on SAST_EVT.COLLISION = true))) ∧
    (s.standsBy = false → Does .conflictWindow s (fun u => quiet u ∧ u.sast.conflict = [] ∧ u.on SAST_EVT.WINDOW = true ∧
      u.sast.winStart = s.sast.winStart + s.rd SAST_CONFLICT_CFG.WINDOW ∧
      ∀ k < 32, u.rd (SAST_CONFLICT.EVEN h k) = SMap.get (fun _ => 0) s.sast.conflict (64 * h + 2 * k) % 65536 ∧
        u.rd (SAST_CONFLICT.ODD h k) = SMap.get (fun _ => 0) s.sast.conflict (64 * h + 2 * k + 1) % 65536)) ∧
    (s.holds = true → s.rdy 4 = true → Does .sync s (fun u => u.regs = s.regs ∧ quiet u ∧
      u.sast.seq = (s.sast.seq + 8) % 65536 ∧
      (∀ c < 8, s.lqRoom (8 + c) 16 = true → ∃ f, OutMsg.chain c f ∈ u.out ∧ f.typ = 1 ∧ f.hop = 15 ∧ f.time = u.sast.sync) ∧
      u.sast.sync + 200000 = (s.netNs + 200000) / 5000000 * 5000000 + 5000000)) ∧
    (NoErr s → Does .slotBoundary s (fun u => u.sast.slot = s.nextSlot ∧ s.now ≤ u.now ∧ SameGnor u s ∧ SameBytes u s ∧
        (s.onAir = false → s.nextSlot % 200 ≠ 0 →
          u.sast.air = s.sast.air.filter (fun a => decide (s.nextSlot * 5000000 ≤ a.launch)))) ∧
      Does .superframeBoundary s (fun u => u.sast.slot = k ∧ s.now ≤ u.now ∧ SameGnor u s ∧ SameBytes u s ∧
        ∀ p at', s.standsBy = false → s.sast.next = some (p, at') → at' + 10000000 ≤ (s.reachNs (k * 5000000)).netNs →
          u.sast.plan = some p ∧ u.sast.next = none ∧ u.on SAST_EVT.PLAN_ACTIVE = true)) ∧
    (∀ eui hh, s.holds = true → NoSrcErr s →
      let chs := [s.rd SAST_ADV_CH.ADV0, s.rd SAST_ADV_CH.ADV1, s.rd SAST_ADV_CH.ADV2].eraseDups
      (s.nodeByEui eui = none → Does (.tetherAdv h eui hh) s (fun u => u = s.silent.up SAST_EVT.ADVERT)) ∧
      (s.on SAST_CTRL.TETHER_SCAN = false ∨ chs.length < 2 ∨ s.tetherRoom h = none →
        Does (.tetherAdv h eui hh) s (fun u => u.regs = (s.up SAST_EVT.ADVERT).regs ∧ quiet u ∧
          u.sast.tethers = s.sast.tethers)) ∧
      (∀ m j, s.on SAST_CTRL.TETHER_SCAN = true → 2 ≤ chs.length → s.nodeByEui eui = some m → s.tetherRoom h = some j →
        Does (.tetherAdv h eui hh) s (fun u => u.regs = s.regs ∧ quiet u ∧ ∃ t, u.tether j = some t ∧ t.node = some m ∧
          t.head = h ∧ t.recovery = true ∧ 2 ≤ t.interval ∧ t.interval ≤ 800 ∧ 1 ≤ t.sup ∧ t.sup ≤ 600))) ∧
    (∀ t, s.tether i = some t →
      Does (.tetherEvent i) s (fun u => quiet u ∧
        (t.begun = true →
          let t' := { t with event := (t.event + 1) % 65536, next := t.next + t.interval }
          u.tether i = some t' ∨ (s.holds = true ∧ u.tether i = some { t' with told := t.recovery })) ∧
        (t.begun = false → u.tether i = some { t with next := t.next + 1 } ∨
          u.tether i = some { t with begun := true, next := t.next + t.interval })) ∧
      (∀ d, s.standsBy = true ∨ d.start < 980 ∨ d.stop < d.start ∨ 4800 < d.stop →
        Does (.tetherData i d) s (fun u => u = s.silent)) ∧
      (∀ d, s.standsBy = false → 980 ≤ d.start → d.start ≤ d.stop → d.stop ≤ 4800 →
        Does (.tetherData i d) s (fun u => u.regs = s.regs ∧ quiet u ∧
          u.tether i = if t.told then none else some { t with heard := s.ctr })) ∧
      Does (.tetherEnd i) s (fun u => quiet u ∧ u.tether i = none ∧ u.on SAST_EVT.TETHER_END = true ∧
        u.now = max s.now (s.time.up + (t.heard + t.sup * 80000000))))

/-- The nodes of Sastrugi. -/
def Obligations.SastNodes : Prop :=
  ∀ (s : State) (rx : RxInfo), rxOk rx = true →
    let mine (u : State) : Prop := SameGnor u s ∧ (NoErr s → SameBytes u s)
    (s.holds = false ∨ rxInTime rx = false → ∀ i, (∃ rep, i = .report rx rep) ∨ (∃ f e b, i = .partAck rx f e b) ∨ (∃ d, i = .detect rx d) ∨
      (∃ d, i = .dataUp rx d) ∨ (∃ c, i = .assocReq rx c) → Does i s (fun u => u = s.silent)) ∧
    (s.holds = true → rxInTime rx = true → NoSrcErr s → ∀ i, (∃ rep, i = .report rx rep) ∨ (∃ f e b, i = .partAck rx f e b) ∨ (∃ d, i = .detect rx d) ∨
      (∃ d, i = .dataUp rx d) →
      (s.nodeByShort rx.head rx.short = none → Does i s (fun u => mine u ∧ u.src = s.src ∧ u.sast.nodes = s.sast.nodes ∧
        u.firn = s.firn)) ∧
      (∀ n e m, s.nodeByShort rx.head rx.short = some n → s.nodeEnt n = some e → s.mac n = some m →
        Does i s (fun u => mine u ∧ ∃ e' m', u.nodeEnt n = some e' ∧ e'.assoc = true ∧ e'.head = e.head ∧
          e'.short = e.short ∧ u.mac n = some m' ∧ m'.heard = s.ctr ∧ m'.lost = false))) ∧
    (s.holds = true → rxInTime rx = true → NoSrcErr s → ∀ d : NodeCaps, Does (.assocReq rx d) s (fun u => mine u ∧ ∃ a,
      u.sast.assocs = s.sast.assocs.filter (fun a => a.caps.eui != d.eui) ++ [a] ∧ a.cell = rx.head ∧ a.caps = d ∧
      (s.on SAST_CTRL.ASSOC_OPEN = false ∨ d.macMaj ≠ 1 → a.node = none ∧ a.refusal = assocDenied ∧ u.src = s.src))) ∧
    (∀ eui a, s.holds = true → s.sast.assocs.find? (fun a => a.caps.eui == eui) = some a →
      (a.node = none → Does (.assocResp eui) s (fun u => mine u ∧ u.src = s.src ∧ u.on SAST_EVT.ASSOC = true ∧
        u.sast.assocs = s.sast.assocs.filter (fun b => b.caps.eui != eui))) ∧
      (∀ n e, a.node = some n → s.nodeEnt n = some e → Does (.assocResp eui) s (fun u => mine u ∧
        u.on SAST_EVT.ASSOC = true ∧ u.sast.assocs = s.sast.assocs.filter (fun b => b.caps.eui != eui) ∧
        ∃ e' m, u.nodeEnt n = some e' ∧ e'.head = a.cell ∧ e'.assoc = true ∧ e'.eui = e.eui ∧ u.mac n = some m ∧
          m.heard = s.ctr ∧ m.lost = false ∧ m.move = none ∧ m.logP = min a.caps.period 6))) ∧
    ∀ n m e, n < 2 ^ 18 → s.mac n = some m → s.nodeEnt n = some e →
      (∀ v, m.move = some v → s.holds = true →
        Does (.handoverSwitch n true) s (fun u => mine u ∧ u.nodeEnt n = some { e with head := v.cell, short := v.short } ∧
          u.on SAST_EVT.HANDOVER = true ∧ ∃ m', u.mac n = some m' ∧ m'.grant = v.grant ∧ m'.move = none) ∧
        Does (.handoverSwitch n false) s (fun u => mine u ∧ u.src = s.src ∧
          u.mac n = some { m with move := none, survCount := 0 })) ∧
      (s.holds = true → e.assoc = true → m.lost = false → Does (.nodeLost n) s (fun u => mine u ∧
        u.on SAST_EVT.LOST = true ∧ u.nodeEnt n = some { e with assoc := false } ∧
        ∃ m', u.mac n = some m' ∧ m'.lost = true ∧ m'.grant = none ∧ m'.move = none)) ∧
      (m.lost = true → s.holds = true → Does (.addressRelease n) s (fun u => mine u ∧ u.mac n = none ∧
        u.nodeEnt n = some { e with assoc := false, short := 0xFFFE }))

/-- Meltwater's commands, register write and events. -/
def Obligations.Meltwater : Prop :=
  ∀ (s : State) (r : Req) (v : Word) (f n ph : Nat), f < 16 → n < 16 → ph < 3 →
    let key := s.rd MELT_KEY.VALUE
    let x := v.toNat
    let quiet (u : State) : Prop := SameGnor u s ∧ SameMem u s
    let ends (u : State) (cc : Nat) : Prop := Done u MELT_STAT.addr MELT_EVT.CMD_DONE cc ∧ quiet u
    let e := match s.melt.cuts with | c :: _ => c.2 | [] => (s.melt.blockFrom / 200000000 + 1) * 200000000
    (Takes s 4 MELT_STAT.addr →
      (s.on (MELT_POD.PRESENT (key % 16)) = false → Does (.sigCapture r) s (fun u => ends u ccNotFound ∧ u.melt = s.melt)) ∧
      (s.on (MELT_POD.PRESENT (key % 16)) = true → Does (.sigCapture r) s (fun u => ends u ccOk ∧
        SMap.get (fun _ => none) u.melt.settle (key % 16) =
          some (s.ctr + 800000000 * s.rd (MELT_SIG1.SETTLE (key % 16))))) ∧
      (key / 64 % 8 = 7 → Does (.energyPreset r) s (fun u => ends u ccRange ∧ u.melt = s.melt)) ∧
      (key / 64 % 8 ≠ 7 → Does (.energyPreset r) s (fun u => ends u ccOk ∧
        u.melt.presets = s.melt.presets ++ [(eKey (key % 16) (key / 16 % 4) (key / 64 % 8),
          s.rd MELT_DATA0.VALUE + 2 ^ 32 * s.rd MELT_DATA1.VALUE)] ∧
        ∀ p < 4, ∀ q < 7, u.energy f p q = s.energy f p q)) ∧
      Does (.xcalReset r) s (fun u => ends u ccOk ∧ u.rd (MELT_XCAL.XGAIN (key % 16) ph) = 2 ^ 23 ∧
        u.on (MELT_XCAL.FAULT (key % 16) ph) = false) ∧
      Does (.reconReset r) s (fun u => ends u ccOk ∧ u.on (MELT_RECON_STAT.UNACC (key % 16)) = false ∧
        u.on (MELT_RECON_STAT.NEG (key % 16)) = false ∧ u.rd (MELT_RESID_LO.VALUE (key % 16)) = 0 ∧
        u.rd (MELT_RESID_HI.VALUE (key % 16)) = 0)) ∧
    (s.blkReady 4 = true → Does (.meltCtrlWrite r v) s (fun u => quiet u ∧ u.rd MELT_CTRL.EN = x % 2 ∧
      u.rd MELT_CTRL.NOMF = x / 2 % 2 ∧
      (minutesOk (x / 256 % 64) = true → u.rd MELT_CTRL.INTERVAL = x / 256 % 64) ∧
      (minutesOk (x / 256 % 64) = false → u.rd MELT_CTRL.INTERVAL = s.rd MELT_CTRL.INTERVAL ∧ u.on MELT_EVT.CFG_ERR = true) ∧
      (s.meltBase + 2 ^ 23 ≤ 2 ^ 36 → u.rd MELT_CTRL.RECON_EN = x / 16 % 2) ∧
      (2 ^ 36 < s.meltBase + 2 ^ 23 → u.rd MELT_CTRL.RECON_EN = 0 ∧ (x / 16 % 2 = 1 → u.on MELT_EVT.CFG_ERR = true)))) ∧
    (s.meltOn = false → ∀ i, (i = .blockEnd [] ∨ i = .secondLatch ∨ i = .intervalClose ∨ i = .reconcile ∨
      i = .harmonicWindow f ph [] ∨ i = .pulseEmit n ∨ (∃ w, i = .podLost f w) ∨ (∃ l, i = .podFound f ⟨true, l⟩) ∨ i = .clip f) →
      Does i s (fun u => u = s.silent)) ∧
    (s.meltOn = true →
      (∀ meas, meas.all (fun b => decide (b.feeder < 16)) = true → Does (.blockEnd meas) s (fun u => quiet u ∧
        u.melt.blockFrom = e ∧ u.melt.blockEnd = e ∧ u.melt.cuts = s.melt.cuts.drop 1 ∧ u.melt.part = [] ∧ u.melt.partIn = [] ∧
        u.melt.volts = [] ∧ u.melt.presets = [] ∧
        s.now ≤ u.now ∧ (s.melt.cuts ≠ [] ∨ e % 1000000000 = 0 → u.melt.secSum = [] ∧ ∃ a b, u.melt.secDone = some (e, a, b)) ∧
        (s.melt.cuts = [] → e % 1000000000 ≠ 0 → u.melt.secDone = s.melt.secDone) ∧
        (∀ left new rest b, s.melt.cuts = (left, new) :: rest → s.melt.intStart = some b → u.melt.last.start = b ∧
          u.melt.last.short = true ∧ u.melt.last.stop = new / 1000000000 ∧ u.melt.last.lasted = left - s.melt.intFrom ∧
          u.melt.intStart = some (new / 1000000000) ∧ u.melt.prev = s.melt.last ∧ u.melt.intTold = false ∧
          u.melt.recon = true) ∧
        ∀ p < 4, ∀ q < 7, ∀ w < 2 ^ 64, s.melt.presets = [(eKey f p q, w)] → u.energy f p q = w)) ∧
      (∀ d a b, s.melt.secDone = some (d, a, b) → Does .secondLatch s (fun u => quiet u ∧ u.melt.secDone = none ∧
        u.on MELT_EVT.SECOND = true ∧ s.now ≤ u.now ∧
        (s.melt.intTold = false → u.on MELT_EVT.INTERVAL = true ∧ u.melt.intTold = true))) ∧
      (s.melt.cuts ≠ [] → Does .intervalClose s (fun u => u = s.silent)) ∧
      (∀ b, s.melt.intStart = some b → s.melt.cuts = [] →
        let z := (b / (60 * s.melt.minutes) + 1) * (60 * s.melt.minutes)
        Does .intervalClose s (fun u => quiet u ∧ u.melt.last.start = b ∧ u.melt.last.stop = z ∧
          u.melt.last.short = false ∧ u.melt.last.lasted = z * 1000000000 - s.melt.intFrom ∧ u.melt.prev = s.melt.last ∧ u.melt.intStart = some z ∧ u.melt.recon = true ∧
          u.on MELT_EVT.INTERVAL = true ∧ u.melt.lost = [])) ∧
      (s.melt.intStart = none → s.melt.cuts = [] → Does .intervalClose s (fun u => quiet u ∧ u.melt.last = s.melt.last ∧
        u.melt.intStart ≠ none)) ∧
      (s.on MELT_CTRL.RECON_EN = true → s.melt.recon = true → Does .reconcile s (fun u => SameGnor u s ∧
        u.on MELT_EVT.RECON_DONE = true ∧ u.melt.recon = false ∧ u.mem.dcache = s.mem.dcache ∧ u.mem.lsram = s.mem.lsram ∧
        ∀ a, (a < s.meltBase + 2 ^ 22 ∨ s.meltBase + 2 ^ 23 ≤ a) →
          SMap.get zeroByte u.mem.dram a = SMap.get zeroByte s.mem.dram a)) ∧
      (∀ x sig, sig < 6 →
        let h (u : State) : Harm := SMap.get (fun _ => {}) u.melt.harm (8 * f + sig)
        let z := s.takeWords ⟨f, x, s.on (MELT_POD.PORT_B f)⟩
        let all := SMap.get (fun _ => []) z.melt.win (8 * f + sig)
        (s.metered f = false → Does (.harmonicWindow f sig x) s (fun u => u = s.silent)) ∧
        (s.metered f = true → all.length < s.windowLen f → Does (.harmonicWindow f sig x) s (fun u =>
          quiet u ∧ u.melt.harm = s.melt.harm ∧ SMap.get (fun _ => []) u.melt.win (8 * f + sig) = all)) ∧
        (s.metered f = true → s.windowLen f ≤ all.length → Does (.harmonicWindow f sig x) s (fun u =>
          (∀ a, a ≠ MELT_POD.addr f → u.reg a = s.reg a) ∧ quiet u ∧ (h u).count = (h s).count + 1 ∧
          SMap.get (fun _ => []) u.melt.win (8 * f + sig) = all.drop (s.windowLen f) ∧ (h u).g2.length = 63 ∧
          ∀ k < 63, (h u).g2[k]? = some (groupSq (s.rd MELT_CTRL.HARM_MODE) (if s.on MELT_CTRL.NOMF then 12 else 10)
            (lineSq ((all.take (s.windowLen f)).map (s.composite f sig))) (k + 1))))) ∧
      (s.pulseOn n = true → (s.pulse n).total < (s.rd (MELT_PULSE_K.K n) * uwhUnit : Nat) →
        Does (.pulseEmit n) s (fun u => u = s.silent)) ∧
      (s.pulseOn n = true → (s.rd (MELT_PULSE_K.K n) * uwhUnit : Nat) ≤ (s.pulse n).total →
        (s.pulse n).total ≤ 65535 * (s.rd (MELT_PULSE_K.K n) * uwhUnit : Nat) →
        Does (.pulseEmit n) s (fun u => u.regs = s.regs ∧ quiet u ∧ s.now ≤ u.now ∧
          (u.pulse n).acc = (s.pulse n).acc - (s.rd (MELT_PULSE_K.K n) * uwhUnit : Nat) ∧
          (u.pulse n).flows = (s.pulse n).flows ∧
          (s.gate 2 = true → (u.pulse n).closed = true ∧ (u.pulse n).stop = u.ctr + 800000 * s.rd (MELT_PULSE.WIDTH n)) ∧
          (s.gate 2 = false → (u.pulse n).closed = (s.pulse n).closed) ∧
          ∀ m, m ≠ n → u.pulse m = s.pulse m)) ∧
      (∀ c, SMap.get (fun _ => none) s.melt.settle f = some c → Does (.sigSettleEnd f) s (fun u => quiet u ∧
        SMap.get (fun _ => none) u.melt.settle f = none ∧ u.now = max s.now (s.time.up + c) ∧
        (s.on (MELT_POD.PRESENT f) = false ∨ s.rd (MELT_SIG0.P_LAMP f) = 0 → u.on (MELT_SIG2.VALID f) = false) ∧
        (let est := lampEst (signedOf 32 (s.rd (MELT_SEC2.P f 3))) (s.rd (MELT_SIG0.P_BASE f)) (s.rd (MELT_SIG0.P_LAMP f));
          s.on (MELT_POD.PRESENT f) = true → s.rd (MELT_SIG0.P_LAMP f) ≠ 0 → est < 2 ^ 20 →
          u.on (MELT_SIG2.VALID f) = true ∧ u.on MELT_EVT.SIG_DONE = true ∧ u.rd (MELT_SIG2.EST f) = est ∧
          u.rd (MELT_SIG3.FAILED f) = if s.rd (MELT_SIG1.EXPECTED f) = 0xFFFFF then 0 else s.rd (MELT_SIG1.EXPECTED f) - est))) ∧
      (s.on (MELT_POD.PRESENT f) = true →
        (∀ words, Does (.podLost f words) s (fun u => quiet u ∧ u.on (MELT_POD.PRESENT f) = false ∧ f ∉ u.melt.live ∧
          u.on MELT_EVT.POD_LOST = true ∧ u.rd (MELT_POD.PERR f) = min (s.rd (MELT_POD.PERR f) + badWords words) 65535)) ∧
        Does (.clip f) s (fun u => quiet u ∧ u.on (MELT_POD.CLIP f) = true ∧ u.on MELT_EVT.CLIP = true ∧ u.melt = s.melt)) ∧
      (s.on (MELT_POD.PRESENT f) = false → ∀ b lane, (alignOf lane = none → Does (.podFound f ⟨b, lane⟩) s (fun u => u = s.silent)) ∧
        (∀ o, alignOf lane = some o → Does (.podFound f ⟨b, lane⟩) s (fun u => quiet u ∧
        u.rd (MELT_POD.PERR f) = min (s.rd (MELT_POD.PERR f) + badWords (laneWords lane o)) 65535 ∧
        u.on (MELT_POD.PRESENT f) = true ∧ u.on (MELT_POD.PORT_B f) = b ∧ u.on MELT_EVT.POD_FOUND = true ∧ f ∈ u.melt.seen))) ∧
      (∀ part, part.feeder = f → s.lowPath f ph = true → Does (.lowPathOverload ph part) s (fun u => quiet u ∧
        u.lowPath f ph = false ∧ 4 * f + ph ∈ u.melt.disq ∧
        SMap.get (fun _ => none) u.melt.switched (4 * f + ph) = some s.ctr))) ∧
    ((s.pulse n).closed = true → Does (.pulseEnd n) s (fun u => u.regs = s.regs ∧ quiet u ∧ (u.pulse n).closed = false ∧
      u.now = max s.now (s.time.up + (s.pulse n).stop) ∧ (u.pulse n).next = (s.pulse n).next))

/-- The time engine. -/
def Obligations.NetworkTime : Prop :=
  ∀ (s : State) (r : Req) (q n : Nat), launchQ q = true → n < 5 →
    let d0 := s.rd TIME_DATA0.VALUE
    let secs := d0 + 2 ^ 32 * (s.rd TIME_DATA1.VALUE % 65536)
    let ns := s.rd TIME_DATA2.VALUE
    let quiet (u : State) : Prop := SameGnor u s ∧ SameMem u s
    let ends (u : State) (cc : Nat) : Prop := Done u TIME_STAT.addr TIME_EVT.CMD_DONE cc ∧ quiet u
    (Takes s 5 TIME_STAT.addr →
      (s.on TIME_SYNC.STEP_ARMED = false → Does (.stepTo r) s (fun u => ends u ccDenied ∧ u.time = s.time) ∧
        Does (.stepBy r) s (fun u => ends u ccDenied ∧ u.time = s.time)) ∧
      (s.on TIME_SYNC.STEP_ARMED = true → s.firnBusy = true → Does (.stepTo r) s (fun u => ends u ccBusy ∧ u.time = s.time) ∧
        Does (.stepBy r) s (fun u => ends u ccBusy ∧ u.time = s.time)) ∧
      (s.on TIME_SYNC.STEP_ARMED = true → s.firnBusy = false → ns < 1000000000 →
        Does (.stepTo r) s (fun u => ends u ccOk ∧ u.on TIME_SYNC.STEP_ARMED = false ∧ u.on TIME_EVT.STEPPED = true ∧
          u.netNs = secs * 1000000000 + ns ∧ u.now = s.now) ∧
        (0 ≤ (s.netNs : Int) + signedOf 48 secs * 1000000000 + ns →
          (s.netNs : Int) + signedOf 48 secs * 1000000000 + ns < 2 ^ 48 * 1000000000 →
          Does (.stepBy r) s (fun u => ends u ccOk ∧ u.on TIME_SYNC.STEP_ARMED = false ∧ u.on TIME_EVT.STEPPED = true ∧
            (u.netNs : Int) = (s.netNs : Int) + signedOf 48 secs * 1000000000 + ns ∧ u.now = s.now))) ∧
      (signedOf 32 d0 < -219902325 ∨ 219902325 < signedOf 32 d0 →
        Does (.rateSet r) s (fun u => ends u ccRange ∧ u.time = s.time)) ∧
      (-219902325 ≤ signedOf 32 d0 → signedOf 32 d0 ≤ 219902325 →
        (s.on TIME_CTRL.SERVO = true → Does (.rateSet r) s (fun u => ends u ccDenied ∧ u.time = s.time)) ∧
        (s.on TIME_CTRL.SERVO = false → Does (.rateSet r) s (fun u => ends u ccOk ∧ u.rate = signedOf 32 d0 ∧
          u.netNs = s.netNs)))) ∧
    (s.rdy 4 = true →
      (∀ slew, (s.on TIME_CTRL.SERVO = false → Does (.servoMeasure slew) s (fun u => u = s.silent)) ∧
        (s.on TIME_CTRL.SERVO = true → Does (.servoMeasure slew) s (fun u => quiet u ∧ u.rd TIME_SYNC.SOURCE = s.source ∧
          u.now = s.now ∧ (s.source = 0 → u.time.lockSecs = 0 ∧ (s.rd TIME_SYNC.STATE = 1 → u.rd TIME_SYNC.STATE = 0)) ∧
          (s.source ≠ 0 → (s.sourceOfs s.source).natAbs ≤ s.rd TIME_CTRL.STEP_MIN * 1000000 →
            -219902325 ≤ slew → slew ≤ 219902325 → u.rate = slew ∧ u.netNs = s.netNs ∧
              u.time.lockSecs = if (s.sourceOfs s.source).natAbs ≤ 100 then s.time.lockSecs + 1 else 0)))) ∧
      (s.rd TIME_SYNC.STATE = 2 → s.on TIME_CTRL.SERVO = true → Does .holdover s (fun u => quiet u ∧ u.rd TIME_SYNC.STATE = 3 ∧
        u.rd TIME_SYNC.SOURCE = 0 ∧ u.on TIME_EVT.HOLDOVER = true ∧ u.time.holdFrom = u.ctr ∧ s.now ≤ u.now)) ∧
      Does .warm s (fun u => quiet u ∧ u.on TIME_SYNC.WARM = true ∧ u.now = max s.now (s.time.up + 240000000000)) ∧
      (∀ m : PtpMsg, m.domain = s.rd TIME_CTRL.DOMAIN → m.kind = 0 → m.twoStep = false → n < 2 →
        (s.bestMaster n = none ∨ s.bestMaster n = some m.source) → Does (.ptpMessage n m) s (fun u => quiet u ∧ u.now = s.now ∧
          (u.ptpPort n).ofs = (s.netNs : Int) - (m.origin + m.correction) - (s.ptpPort n).delay
            - sdivOpen (signedOf 16 (s.rd (TIME_ASYM.ASYM n))) 8 ∧
          (u.ptpPort n).until' = s.ctr + 4800000000 ∧ ∀ k, k ≠ n → u.ptpPort k = s.ptpPort k)) ∧
      (∀ m : PtpMsg, m.domain ≠ s.rd TIME_CTRL.DOMAIN → Does (.ptpMessage n m) s (fun u => u = s.silent)) ∧
      Does .ppsEdge s (fun u => u.regs = s.regs ∧ quiet u ∧ u.time.ppsLast = some (s.ctr, s.rd TIME_PPS_DLY.DLY) ∧
        (s.time.ppsLast = none → u.time.ppsGood = 1)) ∧
      (s.time.ppsValid = true → Does .ppsLost s (fun u => quiet u ∧ u.on TIME_EVT.PPS_LOST = true ∧
        u.time.ppsValid = false ∧ u.time.ppsLast = none ∧ u.time.ppsGood = 0 ∧ u.now = max s.now (s.time.up + s.time.ppsUntil))) ∧
      (s.on TIME_CTRL.PPS_OUT_EN = true → Does .ppsOut s (fun u => u.regs = s.regs ∧ quiet u ∧ u.time.ppsOut = true ∧
        s.now ≤ u.now)) ∧
      (∀ d, 2 ≤ n → s.on (PORT_LINK.UP n) = true → Does (.peerDelayMeasure n d) s (fun u => quiet u ∧
        (u.ptpPort n).delays = (d :: (s.ptpPort n).delays).take 16 ∧
        ((s.ptpPort n).delays = [] → u.rd (TIME_PORT.LINK_DLY n) = min 65535 d)))) ∧
    (s.time.ppsOut = true → Does .ppsOutFall s (fun u => u.regs = s.regs ∧ quiet u ∧ u.time.ppsOut = false ∧
      u.now = max s.now (s.time.up + (s.time.ppsAt + 80000000)))) ∧
    (2 ≤ n → s.pstate n = 1 → Does (.ptpSyncSend n) s (fun u => quiet u ∧ (u.ptpPort n).seq = (s.ptpPort n).seq + 1)) ∧
    (∀ f rest, s.lq q = f :: rest → s.launchReady q = true →
      let z := (match f.at? with | some t => s.reachNs t | none => s).ctlMet 10 (launchKey q)
      (z.isLate q f = true → f.late = false → Does (.launch q) s (fun u => quiet u ∧ u.lq q = rest ∧
        u.on TIME_EVT.LATE_DROP = true ∧ u.rd TIME_LATE_TICKET.TICKET = f.ticket % 2 ^ 32 ∧
        u.rd (TIME_LQ.LATE_DROP q) = min (s.rd (TIME_LQ.LATE_DROP q) + 1) 65535)) ∧
      (z.isLate q f = false → q < 6 → (z.port q).tx = none → z.on (PORT_LINK.UP q) = true → z.on (PORT_CTRL.EN q) = true →
        (∀ pri, z.paused q pri = false) → z.skewed q = false → Does (.launch q) s (fun u => quiet u ∧ u.lq q = rest ∧
          ∀ b, ((z.setLq q rest).protect q (padFrame f.data)).1 = some b → (u.port q).tx = some b.1 ∧ (u.port q).txSa = b.2)) ∧
      (z.isLate q f = false → 8 ≤ q → q < 16 → Does (.launch q) s (fun u => quiet u ∧ u.lq q = rest ∧
        s.now ≤ u.now ∧
        (z.chainLaunches (chainOf z.netNs f.data) = true → u.out.head? = some (.chain (q - 8) (chainOf z.netNs f.data))) ∧
        (z.chainLaunches (chainOf z.netNs f.data) = false → (s.chain (q - 8)).held = [] → u.out = []))) ∧
      (z.isLate q f = false → 16 ≤ q → (s.can' (q - 16)).tx = none → s.rd (CAN_ERR.STATE (q - 16)) ≠ 2 →
        s.on (CAN_CTRL.EN (q - 16)) = true → Does (.launch q) s (fun u => quiet u ∧ u.lq q = rest ∧
          (u.can' (q - 16)).tx = some f)) ∧
      (∀ t, f.at? = some t → f.late = false → Does (.lateDrop q) s (fun u => quiet u ∧ u.lq q = rest ∧
        u.on TIME_EVT.LATE_DROP = true ∧ u.rd TIME_LATE_TICKET.TICKET = f.ticket % 2 ^ 32 ∧ s.now ≤ u.now)))

/-- The ports' events and the PORT commands. -/
def Obligations.EthernetPorts : Prop :=
  ∀ (s : State) (r : Req) (n : Nat) (f : EthFrame), n < 6 →
    let quiet (u : State) : Prop := SameGnor u s ∧ SameMem u s
    let halted (u : State) (k : Nat) : Nat := SMap.get (fun _ => 0) (u.port n).pause k
    let counted (fld : Fld) (top : Nat) (u : State) : Prop := quiet u ∧ u.rd fld = min (s.rd fld + 1) top ∧
      (s.rd fld < top → u.on PORT_EVT.RXERR = true) ∧ u.ports = s.ports ∧ u.snow = s.snow ∧ u.src = s.src
    let live := s.rdy 8 = true ∧ s.on (PORT_CTRL.EN n) = true ∧ s.on (PORT_LINK.UP n) = true
    let ty := typeOf f.bytes
    let len := f.bytes.length
    let plain := s.macsec n = false ∧ ty ≠ 0x8808 ∧ ty ≠ 0x88B5 ∧ ty ≠ 0x88B6 ∧ ty ≠ 0x88B7 ∧ ty ≠ 0x888E ∧
      isPtp f.bytes = false ∧ s.skewed n = false
    let fits := f.badFcs = false ∧ 60 ≤ len ∧ len ≤ s.rd SNOW_MAXPKT.LEN
    let mq := s.rd (PORT_MISSQ.QUEUE n)
    let pri := if tagged f.bytes then ofBe ((f.bytes.drop 14).take 1) / 32 else s.rd (PORT_CTRL.DEFPRI n)
    let pfc := s.on (PORT_CTRL.PFC_EN n)
    let later (u : State) (k : Nat) : Nat := SMap.get (fun _ => 0) (u.port n).halts k
    let mask := s.rd (PORT_CTRL.PFC_TX_MASK n)
    let pauses := padFrame (pauseFrame (s.macOf n) (pfc && mask != 0) mask 0xFFFF)
    let mac (c : List Byte) : Bool := typeOf c == 0x8808
    let ctl := (s.port n).ctl
    let low := s.rd SNOW_SHARED.SHARED < 8 * s.rd (PORT_FC.XOFF n)
    let p := s.rd PORT_KEY.VALUE % 8
    let i := s.rd PORT_KEY.VALUE / 256 % 16
    let d := s.rd PORT_DATA0.VALUE
    let ends (cc : Nat) (u : State) : Prop := Done u PORT_STAT.addr PORT_EVT.CMD_DONE cc ∧ quiet u
    (¬ live → Does (.ethRx n f) s (fun u => u = s.silent)) ∧
    (live → f.badFcs = true → Does (.ethRx n f) s (counted (PORT_RXERR.FCS n) 4095)) ∧
    (live → f.badFcs = false → plain → (len < 60 ∨ s.rd SNOW_MAXPKT.LEN < len) →
      Does (.ethRx n f) s (counted (PORT_RXERR.LEN n) 4095)) ∧
    (live → fits → plain → dstOf f.bytes = s.macOf n → ty ≠ 0x86DD → mq < 3072 → s.admits mq len = .accept →
      Does (.ethRx n f) s (fun u => quiet u ∧ u.queue mq = s.queue mq ++ [.pkt f.bytes (n + 1) 0 s.netNs .clean] ∧
        u.rd (SNOW_Q_OCC.OCC mq) = (s.rd (SNOW_Q_OCC.OCC mq) + cellsOf len) % 2 ^ 18)) ∧
    (∀ k e, live → fits → plain → dstOf f.bytes ≠ s.macOf n → s.on (SRC_TBL.LEARN 2) = false →
      s.l2Find (dstOf f.bytes) (vlanOf f.bytes) = some (k, e) → e.mark = .clean →
      (e.port = n → Does (.ethRx n f) s (fun u => quiet u ∧ u.snow = s.snow ∧ (u.port n).drops = (s.port n).drops + 1 ∧
        (u.port n).tx = (s.port n).tx)) ∧
      (e.port ≠ n → e.port < 6 → (s.port (s.outPort e.port)).tx.isSome = true → s.admits (egressQ e.port pri) len = .accept →
        Does (.ethRx n f) s (fun u => quiet u ∧ (u.port (s.outPort e.port)).tx = (s.port (s.outPort e.port)).tx ∧
          u.queue (egressQ e.port pri) = s.queue (egressQ e.port pri) ++ [.pkt f.bytes (n + 1) 0 s.netNs .clean]))) ∧
    (∀ q, n < 4 → s.on (PORT_CTRL.PAUSE_RX n) = true → pfc = false → Does (.pause n q) s (fun u => quiet u ∧
      ((s.port n).tx = none ∨ q = 0 → u.rd (PORT_LINK.PAUSED n) = (if q = 0 then 0 else 255) ∧
        ∀ k < 8, halted u k = if q = 0 then 0 else s.now + s.quantaTicks n q) ∧
      ((s.port n).tx ≠ none → q ≠ 0 → ∀ k < 8, halted u k = halted s k ∧ later u k = q + 1))) ∧
    (∀ q, 4 ≤ n ∨ s.on (PORT_CTRL.PAUSE_RX n) = false ∨ pfc = true → Does (.pause n q) s (counted (PORT_RXERR.CTRL n) 255)) ∧
    (∀ v qs, n < 4 → pfc = true → Does (.pfc n v qs) s (fun u => quiet u ∧ ∀ k < 8,
      (v / 2 ^ k % 2 = 0 → halted u k = halted s k) ∧
      (v / 2 ^ k % 2 = 1 → (s.port n).tx = none ∨ qs.getD k 0 = 0 → halted u k =
        if qs.getD k 0 = 0 then 0 else s.now + s.quantaTicks n (qs.getD k 0)) ∧
      (v / 2 ^ k % 2 = 1 → (s.port n).tx ≠ none → qs.getD k 0 ≠ 0 → halted u k = halted s k ∧
        later u k = qs.getD k 0 + 1))) ∧
    (∀ v qs, 4 ≤ n ∨ pfc = false → Does (.pfc n v qs) s (counted (PORT_RXERR.CTRL n) 255)) ∧
    (∀ k < 8, (halted s k = 0 → Does (.pauseExpiry n k) s (fun u => u = s.silent)) ∧
      (halted s k ≠ 0 → Does (.pauseExpiry n k) s (fun u => quiet u ∧ u.now = max s.now (halted s k) ∧ halted u k = 0 ∧
        ∀ j < 8, j ≠ k → halted u j = halted s j))) ∧
    ((s.port n).xoff = true → low → n < 4 → (pfc && mask != 0) = true ∨ s.on (PORT_CTRL.PAUSE_TX n) = true →
      ((s.port n).tx.isSome = true → Does (.pauseRepeat n) s (fun u => quiet u ∧ (u.port n).tx = (s.port n).tx ∧
        (u.port n).ctl = ctl.takeWhile mac ++ pauses :: ctl.dropWhile mac)) ∧
      ((s.port n).tx = none → ctl.takeWhile mac = [] → s.heldBack n pauses = false → s.on (PORT_LINK.UP n) = true → s.on (PORT_CTRL.EN n) = true →
        Does (.pauseRepeat n) s (fun u => quiet u ∧ (u.port n).tx = some pauses ∧ (u.port n).ctl = (s.port n).ctl))) ∧
    ((s.port n).xoff = false ∨ ¬ low → Does (.pauseRepeat n) s (fun u => u = s.silent)) ∧
    (∀ sp up, sp < 4 → s.on (PORT_LINK.UP n) ≠ up ∨ (up = true ∧ s.rd (PORT_LINK.SPEED n) ≠ sp) → Does (.link n sp up) s (fun u =>
      quiet u ∧ u.on (PORT_LINK.UP n) = up ∧ u.rd (PORT_LINK.SPEED n) = (if up then sp else 0) ∧ u.on PORT_EVT.LINK = true ∧
      (up = false → (u.port n).tx = none))) ∧
    (∀ c cs, s.on (PORT_LINK.UP n) = true → s.on (PORT_CTRL.EN n) = true → (s.port n).ctl = c :: cs →
      s.heldBack n c = false → ∀ b, (s.protect n (padFrame c)).1 = some b → Does (.egressTxEnd n) s (fun u => quiet u ∧
        (u.port n).tx = some b.1 ∧ (u.port n).txSa = b.2 ∧ (u.port n).ctl = cs ∧ u.snow = s.snow)) ∧
    ((s.port n).ctl = [] → (∀ k < 8, ∀ x ∈ s.served n k, s.queue x = []) → Does (.egressTxEnd n) s (fun u => quiet u ∧
      (u.port n).tx = none ∧ u.snow = s.snow)) ∧
    (∀ k < 8, ∀ x data src node ns rest, s.on (PORT_LINK.UP n) = true → s.on (PORT_CTRL.EN n) = true → (s.port n).ctl = [] →
      s.macsec n = false → s.skewed n = false → s.heldBack n data = false → s.paused n k = false → (s.port n).halts = [] →
      (s.served n k).find? (fun q => !(s.queue q).isEmpty) = some x → s.queue x = .pkt data src node ns .clean :: rest →
      (∀ j, k < j → j < 8 → s.paused n j = true ∨ ∀ q ∈ s.served n j, s.queue q = []) →
      Does (.egressTxEnd n) s (fun u => quiet u ∧ (u.port n).tx = some (padFrame data) ∧ u.queue x = rest ∧
        u.rd (SNOW_Q_OCC.OCC x) = s.rd (SNOW_Q_OCC.OCC x) - cellsOf data.length)) ∧
    (Takes s 8 PORT_STAT.addr →
      (p = 5 → Does (.saInstall r) s (fun u => ends ccDenied u ∧ u.ports = s.ports)) ∧
      (5 < p ∨ (p ≠ 5 ∧ 9 < i) → Does (.saInstall r) s (fun u => ends ccRange u ∧ u.ports = s.ports)) ∧
      (p < 5 → i < 10 → s.sakOf (d / 4 % 64) = none → Does (.saInstall r) s (fun u => ends ccNotFound u ∧ u.ports = s.ports)) ∧
      (∀ g key, p < 5 → i < 10 → s.sakOf (d / 4 % 64) = some (g, key) →
        (g ≠ d / 65536 → Does (.saInstall r) s (fun u => ends ccStaleGen u ∧ u.ports = s.ports)) ∧
        (g = d / 65536 → Does (.saInstall r) s (fun u => ends ccOk u ∧ u.on (PORT_SA.VALID p i) = true ∧
          u.on (PORT_SA.ACTIVE p i) = false ∧ u.rd (PORT_SA.AN p i) = d % 4 ∧ u.rd (PORT_SA.SLOT p i) = d / 4 % 64 ∧
          ∃ a, u.sa p i = some a ∧ a.key = key.take 32 ∧ a.an = d % 4 ∧ a.pn = s.rd PORT_DATA3.VALUE ∧
            (2 ≤ i → a.sci = s.rd PORT_DATA1.VALUE + 2 ^ 32 * s.rd PORT_DATA2.VALUE)))) ∧
      (p < 5 → i < 2 → s.on (PORT_SA.VALID p i) = true → Does (.saStartTx r) s (fun u => ends ccOk u ∧
        u.on (PORT_SA.ACTIVE p i) = true ∧ u.on (PORT_SA.ACTIVE p (1 - i)) = false)) ∧
      (p < 5 → i < 2 → s.on (PORT_SA.VALID p i) = false → Does (.saStartTx r) s (fun u => ends ccNotFound u ∧
        u.ports = s.ports)) ∧
      (p < 6 → i < 10 → s.sa p i ≠ none → Does (.saRemove r) s (fun u => ends ccOk u ∧ u.sa p i = none ∧
        u.on (PORT_SA.VALID p i) = false)) ∧
      (s.sa p i = none → Does (.saRemove r) s (fun u => ends ccNotFound u ∧ u.ports = s.ports)))

/-- The SRC commands, L2_AGE and TCAM_SCRUB. -/
def Obligations.SeracTables : Prop :=
  ∀ (s : State) (r : Req) (n : Nat) (bad : Nat),
    let quiet (u : State) : Prop := SameGnor u s ∧ SameMem u s
    let ends (cc idx : Nat) (u : State) : Prop := Done u SRC_STAT.addr SRC_EVT.CMD_DONE cc ∧ quiet u ∧ u.rd SRC_STAT.INDEX = idx % 2 ^ 18
    let same (u : State) : Prop := u.src.nodes = s.src.nodes ∧ u.src.pfx = s.src.pfx ∧ u.src.l2 = s.src.l2
    let t := s.srcTable
    let ra := s.srcRa
    let w := s.srcW
    let i := s.srcIdx
    let mac := ra % 2 ^ 48
    let vlan := ra / 2 ^ 48 % 2 ^ 12
    let e0 := s.srcPfx s.src.use
    let node (eui : Nat) (head short : Nat) (assoc : Bool) : NodeEnt :=
      ⟨eui, head, short, assoc, s.srcStatic || w / 2 ^ 73 % 2 == 1, w / 2 ^ 96 % 2 ^ 12, w / 2 ^ 112 % 2 ^ 12, false, s.src.use, .clean⟩
    let known (p : Nat × NodeEnt) : Bool := p.2.eui == ra
    (∀ k e, Takes s 6 SRC_STAT.addr → t = 0 → e.mark.bad = true →
      (present s.src.nodes).filter (fun p => p.2.eui == ra && !p.2.suspect) = [(k, e)] → Does (.lookup r) s (fun u =>
        ends ccNotFound 0 u ∧ u.nodeEnt k = some { e with suspect := true } ∧ u.rd SRC_PERR.INDEX = k % 2 ^ 18 ∧
        u.on SRC_EVT.PERR = true ∧ u.on SYS_EVT.ECC_UE = true)) ∧
    (Takes s 6 SRC_STAT.addr → NoSrcErr s →
      (∀ k e, (t = 0 ∧ s.nodeByEui ra = some k) ∨ (t = 1 ∧ ra < 2 ^ 22 ∧ s.nodeByShort (ra % 64) (ra / 64) = some k) →
        s.nodeEnt k = some e → e.image < 2 ^ 128 → Does (.lookup r) s (fun u => ends ccOk k u ∧ u.srcW = e.image ∧
          u.src.l2 = s.src.l2 ∧ u.src.pfx = s.src.pfx)) ∧
      ((t = 0 ∧ s.nodeByEui ra = none) ∨ (t = 1 ∧ ra < 2 ^ 22 ∧ s.nodeByShort (ra % 64) (ra / 64) = none) ∨
        (t = 3 ∧ ra < 2 ^ 60 ∧ s.l2Find mac vlan = none) → Does (.lookup r) s (fun u => ends ccNotFound 0 u ∧ same u ∧ u.srcW = w)) ∧
      ((t = 1 ∧ 2 ^ 22 ≤ ra) ∨ (t = 3 ∧ 2 ^ 60 ≤ ra) → Does (.lookup r) s (fun u => ends ccRange 0 u ∧ same u ∧ u.srcW = w)) ∧
      (∀ k e, t = 3 → ra < 2 ^ 60 → s.l2Find mac vlan = some (k, e) → e.port < 8 → Does (.lookup r) s (fun u => ends ccOk k u ∧
        u.srcW = e.port + if e.static then 8 else 0)) ∧
      (t = 0 → ∀ k e, ((present s.src.nodes).find? known).map (·.1) = some k → s.nodeEnt k = some e →
        Does (.insert r) s (fun u => ends ccOk k u ∧ u.nodeEnt k = some (node ra e.head e.short e.assoc) ∧
          u.rd SRC_EVICT.INDEX = s.rd SRC_EVICT.INDEX ∧ ∀ m, m ≠ k → u.nodeEnt m = s.nodeEnt m)) ∧
      (t = 0 → ∀ k, (present s.src.nodes).find? known = none → firstFree 262144 s.src.nodes = some k →
        Does (.insert r) s (fun u => ends ccOk k u ∧ u.nodeEnt k = some (node ra 0 0xFFFE false) ∧
          ∀ m, m ≠ k → u.nodeEnt m = s.nodeEnt m)) ∧
      (t = 0 → (present s.src.nodes).find? known = none → firstFree 262144 s.src.nodes = none →
        (present s.src.nodes).all (fun p => p.2.static) = true → Does (.insert r) s (fun u => ends ccFull 0 u ∧ same u)) ∧
      (t = 1 → Does (.insert r) s (fun u => ends ccDenied 0 u ∧ same u)) ∧
      (t = 2 → 128 < e0.plen → Does (.insert r) s (fun u => ends ccRange 0 u ∧ same u)) ∧
      (t = 2 → e0.plen ≤ 128 → ∀ k, s.src.pfx.findIdx? (fun f => f.sameKey e0) = some k →
        Does (.insert r) s (fun u => ends ccOk k u ∧ u.src.pfx = s.src.pfx.set k e0)) ∧
      (t = 2 → e0.plen ≤ 128 → s.src.pfx.findIdx? (fun f => f.sameKey e0) = none → s.src.pfx.length < 32768 →
        Does (.insert r) s (fun u => Done u SRC_STAT.addr SRC_EVT.CMD_DONE ccOk ∧ quiet u ∧
          u.src.pfx.length = s.src.pfx.length + 1 ∧ u.src.pfx[u.rd SRC_STAT.INDEX]? = some e0 ∧
          s.src.pfx.Sublist u.src.pfx ∧ (pfxSorted s.src.pfx = true → pfxSorted u.src.pfx = true))) ∧
      (t = 3 → ra < 2 ^ 60 → ∀ k, (present s.src.l2).find? (fun p => p.2.mac == mac && p.2.vlan == vlan) = none →
        firstFree 65536 s.src.l2 = some k → Does (.insert r) s (fun u => ends ccOk k u ∧
          u.l2Ent k = some ⟨mac, vlan, w % 8, s.srcStatic || w / 8 % 2 == 1, false, s.src.use, s.now, .clean⟩ ∧
          ∀ m, m ≠ k → u.l2Ent m = s.l2Ent m)) ∧
      (t = 0 → ∀ k, ((present s.src.nodes).find? known).map (·.1) = some k → Does (.delete r) s (fun u => ends ccOk k u ∧
        u.nodeEnt k = none ∧ ∀ m, m ≠ k → u.nodeEnt m = s.nodeEnt m)) ∧
      ((t = 0 ∧ (present s.src.nodes).find? known = none) ∨
        (t = 2 ∧ s.src.pfx.findIdx? (fun f => f.sameKey (s.srcPfx 0)) = none) → Does (.delete r) s (fun u =>
          ends ccNotFound 0 u ∧ same u)) ∧
      (t = 2 → ∀ k, s.src.pfx.findIdx? (fun f => f.sameKey (s.srcPfx 0)) = some k → Does (.delete r) s (fun u =>
        ends ccOk k u ∧ u.src.pfx = s.src.pfx.eraseIdx k)) ∧
      (t = 0 → s.nodeEnt i = none → Does (.srcRead r) s (fun u => ends ccNotFound i u ∧ same u)) ∧
      (∀ e, t = 0 → s.nodeEnt i = some e → e.suspect = true → Does (.srcRead r) s (fun u => ends ccParity i u ∧ same u)) ∧
      (∀ e, t = 0 → s.nodeEnt i = some e → e.suspect = false → e.eui < 2 ^ 64 → e.image < 2 ^ 128 →
        Does (.srcRead r) s (fun u => ends ccOk i u ∧ same u ∧ u.srcRa = e.eui ∧ u.srcW = e.image)) ∧
      (t = 2 ∧ 32768 ≤ i ∨ t = 3 ∧ 65536 ≤ i → Does (.srcRead r) s (fun u => ends ccRange i u ∧ same u) ∧
        Does (.srcWrite r) s (fun u => ends ccRange i u ∧ same u)) ∧
      (t = 2 → i < s.src.pfx.length → pfxSorted (s.src.pfx.set i e0) = false → Does (.srcWrite r) s (fun u =>
        ends ccRange i u ∧ same u)) ∧
      (t = 0 → w / 2 ^ 72 % 2 = 0 → Does (.srcWrite r) s (fun u => ends ccOk i u ∧ u.nodeEnt i = none)) ∧
      (∀ e, t = 0 → w / 2 ^ 72 % 2 = 1 → s.nodeEnt i = some e → Does (.srcWrite r) s (fun u => ends ccOk i u ∧
        u.nodeEnt i = some (node (w % 2 ^ 64) e.head e.short e.assoc) ∧ ∀ m, m ≠ i → u.nodeEnt m = s.nodeEnt m))) ∧
    (n < 65536 → (s.l2Ent n = none → Does (.l2Age n) s (fun u => u = s.silent)) ∧
      ∀ e, s.l2Ent n = some e → (e.static = true ∨ s.rd (SRC_TBL.AGE 2) = 0 → Does (.l2Age n) s (fun u => u = s.silent)) ∧
        (e.static = false → s.rd (SRC_TBL.AGE 2) ≠ 0 → Does (.l2Age n) s (fun u => quiet u ∧ u.l2Ent n = none ∧
          u.now = max s.now (e.seen + ((800000000 * s.rd (SRC_TBL.AGE 2) : Nat) : Int)).toNat ∧ ∀ m, m ≠ n → u.l2Ent m = s.l2Ent m))) ∧
    (NoSrcErr s → Does (.tcamScrub []) s (fun u => u = s.silent)) ∧
    (∀ e, NoSrcErr s → bad < 2 ^ 18 → s.src.pfx[bad]? = some e → e.suspect = false → Does (.tcamScrub [bad]) s (fun u => quiet u ∧
      u.src.pfx = s.src.pfx.set bad { e with suspect := true } ∧ u.rd SRC_PERR.INDEX = bad ∧ u.rd SRC_PERR.TABLE = 1 ∧
      u.on SRC_PERR.VALID = true ∧ u.on SRC_EVT.PERR = true ∧ ∀ a x, ({ e with suspect := true } : PfxEnt).hits a x = false))

/-- Snowpack's admission and the SNOW commands. -/
def Obligations.Snowpack : Prop :=
  ∀ (s : State) (r : Req) (q : Nat) (data : List Byte), q < 4096 →
    let quiet (u : State) : Prop := SameGnor u s ∧ SameMem u s
    let ends (cc : Nat) (u : State) : Prop := Done u SNOW_STAT.addr SNOW_EVT.CMD_DONE cc
    let cells := cellsOf data.length
    let k := s.rd SNOW_KEY.VALUE % 4096
    let quota := s.rd SNOW_DATA0.VALUE % 2 ^ 18
    let res := s.rd SNOW_DATA1.VALUE % 2 ^ 18
    let cons := s.rd SNOW_DATA2.VALUE % 4
    let bad := quota < 36 ∨ 192512 < quota ∨ quota < res ∨ queueReserved k = true ∨ (k < 3072 ∧ cons = 3)
    let sum := s.snow.resSum - s.rd (SNOW_Q_RES.RESERVE k) + res
    let len := s.rd SNOW_DATA0.VALUE % 2 ^ 14
    let open' (x : Nat) : Prop := s.rdy 7 = true ∧ s.rd SNOW_KEY.VALUE < 4096 ∧ s.noticed 2 128 x = true ∧ s.rxbuf 128 ≠ 0
    let addr := s.rd SNOW_KEY.VALUE + 2 ^ 32 * (s.rd SNOW_DATA0.VALUE % 256)
    let rb := s.rd SNOW_DATA1.VALUE
    let pq := rb / 2 ^ 16
    let plen := rb % 2 ^ 14
    let others (u : State) : Prop := ∀ x, x ≠ q → u.queue x = s.queue x
    (s.admits q data.length = .accept → (s.arrive q data r 0).queue q = s.queue q ++ [.pkt data r 0 s.netNs .clean] ∧
      others (s.arrive q data r 0) ∧
      (s.rd (SNOW_Q_OCC.OCC q) + cells < 2 ^ 18 → (s.arrive q data r 0).rd (SNOW_Q_OCC.OCC q) = s.rd (SNOW_Q_OCC.OCC q) + cells)) ∧
    (s.admits q data.length ≠ .accept → others (s.arrive q data r 0) ∧
      (s.arrive q data r 0).rd (SNOW_Q_DROP.DROPS q) =
        (s.rd (SNOW_Q_DROP.DROPS q) + if queueReserved q then 0 else 1) % 2 ^ 32 ∧
      (s.arrive q data r 0).rd (SNOW_Q_OCC.OCC q) = s.rd (SNOW_Q_OCC.OCC q) ∧
      (s.arrive q data r 0).queue q = if s.admits q data.length = .noConsumer then s.queue q else addGap s.netNs data.length (s.queue q)) ∧
    (∀ l, (∀ p o t m c, QItem.gap p o t m c ∉ l) → addGap s.netNs data.length l = l ++ [.gap 1 data.length s.netNs false .clean]) ∧
    (∀ l p o t m c, (∀ a b c e d, QItem.gap a b c e d ∉ l) → addGap s.netNs data.length (l ++ [.gap p o t m c]) =
      l ++ [if c.bad then .gap p o t m c
        else .gap (min (p + 1) 0xFFFF_FFFF) (min (o + data.length) 0xFFFF_FFFF) t m .clean]) ∧
    (Takes s 7 SNOW_STAT.addr →
      (bad → Does (.qCfg r) s (fun u => ends ccRange u ∧ quiet u ∧ u.snow = s.snow)) ∧
      (¬ bad → 192512 < sum → Does (.qCfg r) s (fun u => ends ccFull u ∧ quiet u ∧ u.snow = s.snow)) ∧
      (¬ bad → sum ≤ 192512 → Does (.qCfg r) s (fun u => ends ccOk u ∧ quiet u ∧ u.snow.queues = s.snow.queues ∧
        u.snow.resSum = sum ∧ u.rd (SNOW_Q_CFG.QUOTA k) = quota ∧ u.rd (SNOW_Q_RES.RESERVE k) = res ∧
        (k < 3072 → u.rd (SNOW_Q_CFG.KIND k) = cons ∧ (cons = 1 → u.rd (SNOW_Q_CFG.TID k) = s.rd SNOW_DATA2.VALUE / 4 % 128)) ∧
        (3072 ≤ k → u.rd (SNOW_Q_CFG.KIND k) = s.rd (SNOW_Q_CFG.KIND k)) ∧
        (quota < s.rd (SNOW_Q_OCC.OCC k) → u.on (SNOW_Q_OCC.QUOTA_OVER k) = true ∧ u.on SNOW_EVT.QUOTA_OVER = true) ∧
        (s.rd (SNOW_Q_OCC.OCC k) < quota → u.on (SNOW_Q_OCC.QUOTA_OVER k) = false))) ∧
      (len < 60 ∨ 9216 < len ∨ s.quotasAtLeast (cellsOf len) = false → Does (.maxpktSet r) s (fun u => ends ccRange u ∧
        quiet u ∧ u.rd SNOW_MAXPKT.LEN = s.rd SNOW_MAXPKT.LEN)) ∧
      (60 ≤ len → len ≤ 9216 → s.quotasAtLeast (cellsOf len) = true → Does (.maxpktSet r) s (fun u => ends ccOk u ∧
        quiet u ∧ u.rd SNOW_MAXPKT.LEN = len)) ∧
      (r ≠ 128 → Does (.pop r) s (fun u => ends ccDenied u ∧ quiet u ∧ u.snow = s.snow) ∧
        Does (.push r) s (fun u => ends ccDenied u ∧ quiet u ∧ u.snow = s.snow)) ∧
      (open' k → s.queue k = [] → Does (.pop 128) s (fun u => ends ccNotFound u ∧ quiet u ∧ u.snow = s.snow)) ∧
      (∀ d src node ns rest, open' k → s.queue k = .pkt d src node ns .clean :: rest →
        let cc := (s.dmaWrite (s.rxbuf 128) (rxHeader ns ++ d)).1
        Does (.pop 128) s (fun u => ends cc u ∧ SameGnor u s ∧ u.queue k = rest ∧
          (∀ x, x ≠ k → u.queue x = s.queue x) ∧
          (cc = ccOk → u.rd SNOW_DATA0.VALUE = (d.length + k * 2 ^ 16 + src * 2 ^ 28 + node * 2 ^ 32) % 2 ^ 32) ∧
          u.rd (SNOW_Q_OCC.OCC k) = s.rd (SNOW_Q_OCC.OCC k) - cellsOf d.length ∧
          (d.length < 16384 → s.rxbuf 128 + 16 + d.length ≤ 2 ^ 36 → s.mem.dramPoison = [] →
            (∀ a, s.rxbuf 128 ≤ a → a < s.rxbuf 128 + 16 + d.length → s.protectedAt a = false ∧ s.planeOff a = none) →
            cc = ccOk ∧ ∀ j < d.length, SMap.get zeroByte u.mem.dram (s.rxbuf 128 + 16 + j) = d.getD j 0))) ∧
      (∀ p o ns m rest, open' k → s.queue k = .gap p o ns m .clean :: rest → p < 2 ^ 32 → o < 2 ^ 32 →
        Does (.pop 128) s (fun u => ends ccOk u ∧ SameGnor u s ∧ u.queue k = rest ∧
          u.rd SNOW_DATA0.VALUE = 2 ^ 14 + (if m then 2 ^ 15 else 0) + k * 2 ^ 16 ∧
          u.rd (SNOW_Q_OCC.OCC k) = s.rd (SNOW_Q_OCC.OCC k))) ∧
      (s.rdy 7 = true → (addr % 8 ≠ 0 ∨ 2 ^ 28 ≤ rb ∨ rb / 2 ^ 14 % 4 ≠ 0 ∨ plen = 0 ∨ s.rd SNOW_MAXPKT.LEN < plen) →
        Does (.push 128) s (fun u => ends ccRange u ∧ quiet u ∧ u.snow = s.snow)) ∧
      (∀ bs, s.rdy 7 = true → addr % 8 = 0 → rb / 2 ^ 14 % 4 = 0 → plen ≠ 0 → plen ≤ s.rd SNOW_MAXPKT.LEN →
        addr + plen ≤ 2 ^ 36 → s.rd SNOW_DATA2.VALUE = 0 → pq < 3072 → s.rd (SNOW_Q_CFG.KIND pq) ≠ 0 →
        (s.admits pq plen = .accept → s.dmaRead addr plen = some bs → NoCe s →
          Does (.push 128) s (fun u => ends ccOk u ∧ quiet u ∧ u.queue pq = s.queue pq ++ [.pkt bs 7 0 s.netNs .clean])) ∧
        (s.admits pq plen = .quota → Does (.push 128) s (fun u => ends ccQuota u ∧ quiet u ∧ u.snow = s.snow ∧
          u.rd (SNOW_Q_DROP.DROPS pq) = s.rd (SNOW_Q_DROP.DROPS pq))) ∧
        (s.admits pq plen = .full → Does (.push 128) s (fun u => ends ccFull u ∧ quiet u ∧ u.snow = s.snow))))

/-- Moraine's commands, MOR_CTRL and its events. -/
def Obligations.StreamStore : Prop :=
  ∀ (s : State) (r : Req) (v : Word) (n d : Nat) (x : Stream), n < 256 → d < 16 →
    let quiet (u : State) : Prop := SameGnor u s ∧ SameMem u s
    let ends (cc : Nat) (u : State) : Prop := Done u MOR_STAT.addr MOR_EVT.CMD_DONE cc ∧ SameGnor u s
    let key := s.rd MOR_KEY.VALUE
    let d0 := s.rd MOR_DATA0.VALUE
    let d1 := s.rd MOR_DATA1.VALUE
    let d2 := s.rd MOR_DATA2.VALUE
    let l := (List.range 16).filter (fun k => d0 / 2 ^ k % 2 == 1)
    let cnt (g : Nat) : Nat := (l.filter (fun k => k / 8 == g)).length
    let badMask := cnt 0 ∈ [1, 2, 3] ∨ cnt 1 ∈ [1, 2, 3] ∨ ∃ k ∈ l, s.mor.accepted.contains k = false
    let hi := s.netSec / 2 ^ 32 * 2 ^ 32
    let inRange (y : MRec) : Bool := decide (hi + d0 ≤ y.ns / 1000000000) && decide (y.ns / 1000000000 ≤ hi + d1)
    let clear (a m : Nat) : Prop := NoErr s ∧ ∀ b, a ≤ b → b < a + m → s.protectedAt b = false ∧ s.planeOff b = none
    let runs := s.rdy 21 = true ∧ s.on MOR_CTRL.EN = true ∧ s.holds = true
    let w := v.toNat
    let g := d / 8
    let good (di : DriveId) : Bool := driveFits di && (di.dual || !s.on PAIR_STATUS.PAIRED)
    (∀ room l, (takeBlock room l).1 ++ (takeBlock room l).2 = l ∧ (((takeBlock room l).1.map MRec.size).sum ≤ room)) ∧
    (∀ room l, (fitRecs room l).2 <+: l ∧ (fitRecs room l).1 = (((fitRecs room l).2.map MRec.bytes).flatten) ∧
      (fitRecs room l).1.length ≤ room) ∧
    (Takes s 9 MOR_STAT.addr →
      (s.mode ≠ 2 ∨ s.holds = false → Does (.format r) s (fun u => ends ccDenied u ∧ quiet u ∧ u.mor = s.mor)) ∧
      (s.mode = 2 → s.holds = true → badMask → Does (.format r) s (fun u => ends ccRange u ∧ quiet u ∧ u.mor = s.mor)) ∧
      (s.mode = 2 → s.holds = true → ¬ badMask → Does (.format r) s (fun u => ends ccOk u ∧ quiet u ∧ u.mor.streams = [] ∧
        u.mor.members = l ∧ u.mor.turn = 0 ∧ u.rd (MOR_DURABLE.SEQ n) = 0 ∧ ∀ k < 2, u.rd (MOR_GROUP.DRIVES k) = cnt k ∧
          u.on (MOR_GROUP.FORMED k) = decide (cnt k ≠ 0) ∧ u.on (MOR_GROUP.FAILED k) = false)) ∧
      (256 ≤ key ∨ 2 ≤ d0 ∨ 65536 ≤ d2 → Does (.streamCfg r) s (fun u => ends ccRange u ∧ quiet u ∧ u.mor = s.mor)) ∧
      (key = n → d0 < 2 → d2 < 65536 → Does (.streamCfg r) s (fun u => ends ccOk u ∧ quiet u ∧ ∃ y, u.stream n = some y ∧
        y.isOpen = decide (d0 = 1) ∧ y.quota = d1 ∧ y.retain = d2 ∧ y.overQuota = y.tooBig ∧
        (s.stream n = some x → y.blocks = x.blocks ∧ y.staged = x.staged ∧ y.next = x.next) ∧
        ∀ m, m ≠ n → u.stream m = s.stream m)) ∧
      (s.stream (key % 256) = none →
        Does (.streamInfo r) s (fun u => ends ccNotFound u ∧ quiet u ∧ u.mor = s.mor) ∧
        (s.readDest ≠ none → Does (.readRange r) s (fun u => ends ccNotFound u ∧ quiet u ∧ u.mor = s.mor) ∧
          Does (.readSeq r) s (fun u => ends ccNotFound u ∧ quiet u ∧ u.mor = s.mor))) ∧
      (s.stream (key % 256) = some x → Does (.streamInfo r) s (fun u => ends ccOk u ∧ quiet u ∧ u.mor = s.mor ∧
        u.rd MOR_DATA0.VALUE = x.use / 1000000 % 2 ^ 32 ∧ u.rd MOR_DATA1.VALUE = (if x.overQuota then 1 else 0) ∧
        u.rd MOR_DATA2.VALUE = x.oldest % 2 ^ 32 ∧ u.rd MOR_DATA3.VALUE = s.rd (MOR_DURABLE.SEQ (key % 256)))) ∧
      (s.readDest = none → Does (.readRange r) s (fun u => ends ccRange u ∧ quiet u ∧ u.mor = s.mor) ∧
        Does (.readSeq r) s (fun u => ends ccRange u ∧ quiet u ∧ u.mor = s.mor)) ∧
      (∀ a m y, s.readDest = some (a, m) → s.stream (key % 256) = some x →
        ((s.readable x).find? (fun z => z.seq == d0 + 2 ^ 32 * d1) = none → Does (.readSeq r) s (fun u =>
          ends ccNotFound u ∧ quiet u ∧ u.mor = s.mor)) ∧
        ((s.readable x).find? (fun z => z.seq == d0 + 2 ^ 32 * d1) = some y → y.size ≤ m → clear a m →
          Does (.readSeq r) s (fun u => ends ccOk u ∧ u.mor = s.mor ∧ u.rd MOR_STAT.DONE = 1 ∧
            (∀ j < y.bytes.length, SMap.get zeroByte u.mem.dram (a + j) = y.bytes.getD j 0) ∧
            ∀ b, b < a ∨ a + m ≤ b → SMap.get zeroByte u.mem.dram b = SMap.get zeroByte s.mem.dram b)) ∧
        (key / 256 % 2 = 0 → (s.readable x).filter inRange = [] → Does (.readRange r) s (fun u => ends ccNotFound u ∧
          quiet u ∧ u.mor = s.mor)) ∧
        (key / 256 % 2 = 0 → (s.readable x).filter inRange ≠ [] → clear a m →
          let f := fitRecs m ((s.readable x).filter inRange)
          Does (.readRange r) s (fun u => ends ccOk u ∧ u.mor.streams = s.mor.streams ∧
            u.rd MOR_STAT.DONE = f.2.length % 2 ^ 20 ∧
            (∀ j < f.1.length, SMap.get zeroByte u.mem.dram (a + j) = f.1.getD j 0) ∧
            (∀ z, f.2.getLast? = some z → SMap.get (fun _ => none) u.mor.cursor r = some (key % 256, z.seq)) ∧
            ∀ b, b < a ∨ a + m ≤ b → SMap.get zeroByte u.mem.dram b = SMap.get zeroByte s.mem.dram b))) ∧
      let slot := key % 16
      (s.on (MOR_DRIVE.FAILED slot) = false ∨ s.mor.accepted.contains slot = false ∨ s.holds = false ∨
        s.on (MOR_GROUP.FAILED (slot / 8)) = true → Does (.rebuild r) s (fun u => ends ccDenied u ∧ quiet u ∧ u.mor = s.mor)) ∧
      (s.on (MOR_DRIVE.FAILED slot) = true → s.mor.accepted.contains slot = true → s.holds = true →
        s.on (MOR_GROUP.FAILED (slot / 8)) = false →
        (s.on (MOR_DRIVE.REBUILDING d) = true → Does (.rebuild r) s (fun u => ends ccBusy u ∧ quiet u ∧ u.mor = s.mor)) ∧
        ((∀ k < 16, s.on (MOR_DRIVE.REBUILDING k) = false) → Does (.rebuild r) s (fun u => ends ccOk u ∧ quiet u ∧
          u.on (MOR_DRIVE.REBUILDING slot) = true ∧ u.mor.rebuild = some ⟨slot, 0, s.ctr⟩ ∧
          u.mor.streams = s.mor.streams)))) ∧
    (s.blkReady 9 = true → Does (.morEnable r v) s (fun u => quiet u ∧ u.mor = s.mor ∧
      u.on MOR_CTRL.AUTO_REBUILD = decide (w / 2 % 2 = 1) ∧
      u.rd MOR_CTRL.REBUILD_PCT = (if w / 256 % 256 = 0 then 1 else min (w / 256 % 256) 50) ∧
      (w % 2 = 0 → u.on MOR_CTRL.EN = false) ∧
      (w % 2 = 1 → s.morBase + morSize ≤ 2 ^ 36 → u.on MOR_CTRL.EN = true) ∧
      (w % 2 = 1 → s.on MOR_CTRL.EN = false → 2 ^ 36 < s.morBase + morSize → u.on MOR_CTRL.EN = false ∧
        u.on MOR_EVT.CFG_ERR = true))) ∧
    (∀ k left new, s.stream n = some x → runs → x.staged ≠ [] →
      let t := takeBlock 65536 x.staged
      let size := packedSize ((t.1.map MRec.bytes).flatten)
      s.extentFor x size = some (k, left, new) →
      Does (.blockWrite n) s (fun u => quiet u ∧ s.now ≤ u.now ∧ u.mor.turn = (if new then 1 - k else s.mor.turn) ∧
        (t.2 = [] → u.now = max s.now (s.time.up + ((x.staged.head?.map MRec.came).getD 0 + 400000000))) ∧
        (∀ y, t.1.getLast? = some y → u.rd (MOR_DURABLE.SEQ n) = y.seq % 2 ^ 32) ∧
        (∀ m, m ≠ n → u.stream m = s.stream m) ∧ ∃ y, u.stream n = some y ∧ y.staged = t.2 ∧ y.overQuota = y.tooBig ∧
          y.ext = some (k, left) ∧
          let all := x.blocks ++ [⟨k, t.1, size⟩]
          (x.overQuota = false → y.blocks = all) ∧ y.blocks <:+ all ∧
          u.out = (s.liveSlots k).flatMap (fun j => [.nvme j .write, .nvme j .flush]) ++
            (all.take (all.length - y.blocks.length)).flatMap (fun b =>
              (s.liveSlots b.group).map (fun j => .nvme j .deallocate)))) ∧
    (s.stream n = none → Does (.blockWrite n) s (fun u => u = s.silent) ∧ Does (.trim n) s (fun u => u = s.silent)) ∧
    (∀ b rest, s.stream n = some x → x.blocks = b :: rest → runs →
      (x.overQuota = false → x.retain = 0 → Does (.trim n) s (fun u => u = s.silent)) ∧
      (x.overQuota = true ∨ x.retain ≠ 0 → Does (.trim n) s (fun u => quiet u ∧ s.now ≤ u.now ∧
        u.out = (s.liveSlots b.group).map (fun j => .nvme j .deallocate) ∧
        ∃ y, u.stream n = some y ∧ y.blocks = rest ∧ y.staged = x.staged ∧ y.overQuota = y.tooBig))) ∧
    (s.rdy 21 = true → ∀ di : DriveId,
      (∀ k drives, k < 4 → drives.getD (d % 4) none = some di → k = d / 4 → Does (.storLinkUp k drives) s (fun u => quiet u ∧
        u.on (MOR_DRIVE.PRESENT d) = true ∧ u.on MOR_EVT.DRIVE_FOUND = true ∧ (d ∈ u.mor.accepted ↔ good di = true) ∧
        (good di = false → u.on (MOR_DRIVE.FAILED d) = true) ∧
        (good di = true → (u.on (MOR_DRIVE.FAILED d) = true ↔ d ∈ s.mor.lost)))) ∧
      Does (.driveInserted d di) s (fun u => quiet u ∧ u.out.head? = some (.nvme d .identify) ∧
        (s.mode = 4 → s.holds = false → u.out = [.nvme d .identify]) ∧
        (good di = true → s.mode ≠ 4 ∨ s.holds = true → .nvme d (.setQueues (min 64 di.queues)) ∈ u.out) ∧
        u.on (MOR_DRIVE.PRESENT d) = true ∧ u.on MOR_EVT.DRIVE_FOUND = true ∧
        (good di = false → u.on (MOR_DRIVE.FAILED d) = true) ∧
        (good di = true → d ∈ s.mor.lost → s.on MOR_CTRL.AUTO_REBUILD = true → s.holds = true →
          s.on (MOR_GROUP.FAILED g) = false → (∀ k < 16, s.on (MOR_DRIVE.REBUILDING k) = false) →
          u.on (MOR_DRIVE.REBUILDING d) = true ∧ u.on (MOR_DRIVE.FAILED d) = true))) ∧
    (s.rdy 21 = true → s.on (MOR_DRIVE.PRESENT d) = true → Does (.smartPoll d w false) s (fun u => quiet u ∧
      u.rd (MOR_DRIVE.WEAR d) = min w 255 ∧ u.out = [.nvme d .smartLog] ∧ u.mor = s.mor)) ∧
    (s.rdy 21 = true → s.mor.accepted.contains d = true → Does (.driveLost d) s (fun u =>
      u.on (MOR_DRIVE.FAILED d) = true ∧ u.on (MOR_DRIVE.REBUILDING d) = false ∧ u.on MOR_EVT.DRIVE_LOST = true ∧
      u.mor.accepted.contains d = false ∧ u.mor.streams = s.mor.streams ∧
      u.on (MOR_GROUP.DEGRADED g) = decide (u.lostSlots g ≠ []) ∧
      (3 ≤ (u.lostSlots g).length → u.on (MOR_GROUP.FAILED g) = true))) ∧
    (s.on (MOR_DRIVE.REBUILDING d) = true → s.holds = true → Does (.rebuilt d) s (fun u => quiet u ∧
      u.on (MOR_DRIVE.REBUILDING d) = false ∧ u.on (MOR_DRIVE.FAILED d) = false ∧ u.on MOR_EVT.REBUILT = true ∧
      u.on (MOR_GROUP.DEGRADED g) = decide (u.lostSlots g ≠ []) ∧ u.mor.lost.contains d = false ∧
      u.mor.streams = s.mor.streams ∧ u.mor.accepted = s.mor.accepted)) ∧
    (s.on (MOR_DRIVE.REBUILDING d) = false ∨ s.holds = false → Does (.rebuilt d) s (fun u => u = s.silent))

/-- The pair's commands and events. -/
def Obligations.Pair : Prop :=
  ∀ (s : State) (r : Req) (v : Word) (h : Heartbeat) (ho : Handover) (cable : PairCable)
    (seq n c fail : Nat) (inB : Bool),
    let still (i : Instr) : Prop := Does i s (fun u => u = s.silent)
    let quiet (u : State) : Prop := SameGnor u s ∧ SameMem u s
    let hb := s.rails = true ∧ s.rdy 23 = true
    let x := v.toNat
    let own := s.holds = false ∧ s.holdIn = false ∧ (s.mode = 2 ∨ s.mode = 3 ∨ s.mode = 5 ∧ s.on SYS_MODE_RES.NO_OUT = false)
    let stand := s.mode = 4 ∧ s.rdy 23 = true ∧ s.on PAIR_STATUS.COMPAT = true
    let may := s.mayClaim = true ∧ s.on PAIR_STATUS.COMPAT = true ∧ s.on PAIR_CTRL.TAKEOVER_EN = true ∧
      s.on PAIR_STATUS.ILK_OPEN = false ∧ s.on PAIR_STATUS.PAIRED = true
    let announced (u : State) (drill f : Nat) : Prop := ∃ t, u.pair.handover = some ⟨t, true, drill, none⟩ ∧
      u.out = [.handover t drill f] ∧ s.netNs + 50000000 ≤ 1000000000 * t
    let ends (cc : Nat) (u : State) : Prop := Done u PAIR_STAT.addr PAIR_EVT.CMD_DONE cc ∧ quiet u
    let pages := x % 2 ^ 20
    let base := s.rd (PAIR_MREG_LO.BASE_LO n) * 4096 + s.rd (PAIR_MREG_HI.BASE_HI n) * 2 ^ 32
    let total := (List.range 16).foldl (fun a k => a + if k = n then pages else s.rd (PAIR_MREG_SIZE.PAGES k)) 0
    let ready := s.pairBusy = false ∧ s.mayHandOver = true
    (hb → Does .heartbeatSend s (fun u => u.out = [.heartbeat s.ownHeartbeat] ∧ u.regs = s.regs ∧ quiet u)) ∧
    (¬ hb → still .heartbeatSend ∧ still (.heartbeat h)) ∧
    (hb → Does (.heartbeat h) s (fun u => u.pair.hb = some h ∧ u.pair.hbAt = s.ctr ∧ u.on PAIR_STATUS.PEER_ALIVE = true ∧
      u.on PAIR_STATUS.COMPAT = (h.maj == s.pairMaj) ∧ u.on PAIR_STATUS.ROLE_CLASH = (h.role == s.rd PAIR_STATUS.ROLE) ∧
      (s.on PAIR_STATUS.PEER_ALIVE = false → u.on PAIR_EVT.PEER_FOUND = true) ∧ u.pair.acked = max s.pair.acked h.applied)) ∧
    (s.on PAIR_STATUS.PEER_ALIVE = false → still .peerLost) ∧
    (s.on PAIR_STATUS.PEER_ALIVE = true → Does .peerLost s (fun u => u.on PAIR_STATUS.PEER_ALIVE = false ∧
      u.on PAIR_EVT.PEER_LOST = true ∧ s.now ≤ u.now ∧ s.time.up + s.pair.hbAt + 4000000 ≤ u.now)) ∧
    (may → Does (.takeover false inB) s (fun u => u.holds = true ∧ u.mode = s.inheritedMode ∧ u.on PAIR_EVT.TAKEOVER = true ∧
      u.on PAIR_STATUS.DRILL = false ∧ u.pair.handover = none ∧ u.pair.holdOut = true ∧ s.now + 3200 ≤ u.now ∧
      (s.on (SYS_CTR.FALLBACK 0) = false → ∀ k < 4,
        u.on (SYS_CTR.OWN k) = decide (SMap.get (fun _ => 0) s.pair.ctr k % 2 = 1) ∧
        u.on (SYS_CTR.CMD k) = decide (SMap.get (fun _ => 0) s.pair.ctr k / 2 % 2 = 1)))) ∧
    (may → s.secondary = true → s.on PAIR_STATUS.ROLE_CLASH = false → Does (.takeover true inB) s (fun u =>
      u.holds = false ∧ u.mode = 4 ∧ u.pair.holdOut = false ∧ quiet u)) ∧
    (may → s.secondary = false → Does (.takeover true true) s (fun u => u.holds = false ∧ u.mode = 4 ∧
      ∃ e, u.pair.retry = some e ∧ u.ctr + 800000 ≤ e ∧ e ≤ u.ctr + 6400000)) ∧
    (s.mayClaim = false ∨ s.on PAIR_STATUS.COMPAT = false ∨ s.on PAIR_CTRL.TAKEOVER_EN = false ∨
      s.on PAIR_STATUS.ILK_OPEN = true ∨ (s.on PAIR_STATUS.PAIRED = false ∧ s.on PAIR_STATUS.PEER_ALIVE = true) →
      still (.takeover false inB)) ∧
    (s.pair.retry = none → still (.claimRetry false inB)) ∧
    (s.pair.retry = some c → s.mayClaim = true → Does (.claimRetry false inB) s (fun u => u.holds = true ∧ u.pair.retry = none ∧
      u.mode = s.inheritedMode ∧ u.on PAIR_EVT.TAKEOVER = true ∧ s.time.up + c + 3200 ≤ u.now)) ∧
    (s.pair.retry = some c → s.mayClaim = false →
      (¬ own → Does (.claimRetry false inB) s (fun u => u.regs = s.regs ∧ quiet u ∧
        u.pair.retry = none ∧ u.now = max s.now (s.time.up + c))) ∧
      (own → Does (.claimRetry false inB) s (fun u => u.holds = true ∧ u.pair.retry = none ∧ u.mode = s.mode ∧ quiet u ∧
        s.time.up + c + 3200 ≤ u.now))) ∧
    (s.blkReady 10 = true → Does (.wdogKick r v) s (fun u => quiet u ∧ u.rd PAIR_WDOG.TIMEOUT = max 2 (x % 16) ∧
      u.pair.kick = s.ctr)) ∧
    (s.holds = false → still .wdogExpiry) ∧
    (s.holds = true → s.rails = true → Does .wdogExpiry s (fun u => u.holds = false ∧
      u.on PAIR_EVT.RELEASED = true ∧ s.time.up + s.pair.kick + 800000 * s.rd PAIR_WDOG.TIMEOUT ≤ u.now)) ∧
    (∀ item, s.mode ≠ 4 ∨ s.on PAIR_STATUS.COMPAT = false ∨ seq ≤ s.pair.applied → still (.mirrorUpdate seq item)) ∧
    (∀ item, stand → s.pair.applied < seq → Does (.mirrorUpdate seq item) s (fun u => SameGnor u s ∧ u.pair.applied = seq ∧
      u.out = [.mirrorAck seq] ∧ u.now = s.now ∧ (∀ d, item = .bytes n d → n + d.length ≤ 2 ^ 36 → ∀ j < d.length,
        (∀ k < d.length, s.planeOff (n + k) = none) → SMap.get zeroByte u.mem.dram (n + j) = d.getD j 0) ∧
      (item = .reg n v → mirroredReg n = true → u.reg n = v) ∧ (item = .noSurge n → ∀ g ∈ u.firn.surges, g.ep ≠ n) ∧
      (∀ own cmd, item = .ctr n own cmd → SMap.get (fun _ => 0) u.pair.ctr n = (if own then 1 else 0) + if cmd then 2 else 0) ∧
      (∀ e, item = .l2 n e → u.l2Ent n = e.map (fun x => { x with seen := s.now - x.seen })) ∧
      (∀ e, item = .node n e → u.nodeEnt n = e) ∧ (∀ m, item = .mac n m → u.mac n = m.map (fun x => x.aged s.ctr)) ∧
      (∀ p, item = .plan (some p) none → u.rd SAST_PLAN_STAT.VERSION = p.version % 2 ^ 16 ∧
        u.on SAST_PLAN_STAT.ACTIVE = true ∧ u.on SAST_PLAN_STAT.PENDING = false) ∧
      (item = .clear → u.firn = {} ∧ u.planes = {} ∧ u.src = {} ∧ u.mor.streams = []))) ∧
    (s.holds = true → s.pair.acked < s.pair.sent → s.on PAIR_STATUS.COMPAT = true → Does .mirrorAckTimeout s (fun u => quiet u ∧
      u.on PAIR_STATUS.MIRROR_SYNC = false ∧ u.on PAIR_EVT.MIRROR_LOST = true ∧ u.pair.copying = true ∧
      u.pair.acked = s.pair.sent ∧ u.now = max s.now (s.time.up + (s.pair.sentAt + 400000)))) ∧
    (s.holds = false ∨ s.pair.sent ≤ s.pair.acked → still .mirrorAckTimeout) ∧
    (s.pair.copying = true → s.on PAIR_STATUS.COMPAT = true → s.on PAIR_STATUS.PEER_ALIVE = true → Does .bulkCopyDone s (fun u =>
      quiet u ∧ u.on PAIR_STATUS.MIRROR_SYNC = true ∧ u.on PAIR_EVT.MIRROR_SYNC = true ∧ u.pair.copying = false ∧
      u.out.head? = (if s.holds then some (.mirror (s.pair.sent + 1) .clear) else none))) ∧
    (s.pair.copying = false → still .bulkCopyDone) ∧
    (s.blkReady 10 = true → n < 16 →
      (2 ^ 20 < total ∨ (pages ≠ 0 ∧ 2 ^ 36 < base + 4096 * pages) → still (.mregSizeWrite r n v)) ∧
      (total ≤ 2 ^ 20 → pages = 0 ∨ base + 4096 * pages ≤ 2 ^ 36 → Does (.mregSizeWrite r n v) s (fun u => quiet u ∧
        u.rd (PAIR_MREG_SIZE.PAGES n) = pages ∧ (pages ≠ s.rd (PAIR_MREG_SIZE.PAGES n) → s.on PAIR_STATUS.COMPAT = true →
          s.on PAIR_STATUS.PEER_ALIVE = true → u.pair.copying = true)))) ∧
    (∀ i d, (i, d) = (Instr.pairHandover r, 0) ∨ (i, d) = (Instr.drill r, 1) → Takes s 10 PAIR_STAT.addr →
      (s.pairBusy = true → Does i s (fun u => ends ccBusy u ∧ u.pair = s.pair)) ∧
      (s.pairBusy = false → s.mayHandOver = false → Does i s (fun u => ends ccDenied u ∧ u.pair = s.pair)) ∧
      (ready → Does i s (fun u => ends ccOk u ∧ announced u d 0 ∧ u.holds = true ∧ (d = 1 → u.on PAIR_STATUS.DRILL = true)))) ∧
    (s.mode ≠ 4 ∨ s.on PAIR_STATUS.COMPAT = false → still (.handoverMsg n c fail)) ∧
    (stand → Does (.handoverMsg n c fail) s (fun u => quiet u ∧ u.pair.handover = some ⟨n, false, c, none⟩ ∧ u.out = [.handoverAck n] ∧
      (c = 2 → u.rd PAIR_DRILL_STAT.FAIL = fail % 16 ∧ u.on PAIR_DRILL_STAT.PASS = decide (fail % 16 = 0)))) ∧
    (s.pair.handover = some ho → ho.releases = false → still .handoverRelease) ∧
    (s.pair.handover = some ho → ho.releases = true → s.holds = false ∨ (s.mode ≠ 2 ∧ s.mode ≠ 3) → Does .handoverRelease s
      (fun u => quiet u ∧ u.pair.handover = none ∧ u.on PAIR_STATUS.DRILL = false ∧ u.mode = s.mode ∧ u.now = s.now)) ∧
    (s.pair.handover = some ho → ho.releases = true → s.holds = true → s.mode = 2 ∨ s.mode = 3 →
      ((∀ k, s.firn.commit = some k → k.epoch ≠ ho.sec) → ho.judged.getD (!s.copying) = true → Does .handoverRelease s (fun u => u.mode = 4 ∧
        u.holds = false ∧ u.on PAIR_EVT.HANDOVER = true ∧ u.on PAIR_EVT.RELEASED = true ∧ u.pair.handover = none ∧
        s.now + 800 ≤ u.now ∧ u.on PAIR_STATUS.DRILL = decide (ho.drill = 1))) ∧
      ((∃ k, s.firn.commit = some k ∧ k.epoch = ho.sec) ∨ ho.judged.getD (!s.copying) = false →
        Does .handoverRelease s (fun u => u.regs = s.regs ∧ quiet u ∧
        u.pair.handover = some ⟨ho.sec + 1, true, ho.drill, none⟩ ∧ u.out = [.handover (ho.sec + 1) ho.drill 0]))) ∧
    (s.pair.handover = none → still .handoverRelease) ∧
    (s.pair.revertFrom = none → still .revert) ∧
    (s.pair.revertFrom = some c → ready → Does .revert s (fun u => u.regs = s.regs ∧ quiet u ∧
      (∃ t, u.pair.handover = some ⟨t, true, 0, none⟩ ∧ u.out = [.handover t 0 0] ∧ u.netNs + 50000000 ≤ 1000000000 * t) ∧
      u.now = max s.now (s.time.up + (c + 800000000 * s.rd PAIR_REVERT.DELAY)))) ∧
    (s.rd PAIR_DRILL_CFG.PERIOD = 0 ∨ s.holds = false ∨ s.rdy 4 = false → still .drillSchedule) ∧
    (s.rd PAIR_DRILL_CFG.PERIOD ≠ 0 → s.rdy 4 = true → ready → Does .drillSchedule s (fun u => quiet u ∧ s.now ≤ u.now ∧
      u.on PAIR_STATUS.DRILL = true ∧ ∃ t, u.pair.handover = some ⟨t, true, 1, none⟩ ∧ u.out = [.handover t 1 0])) ∧
    (s.pair.drillEnd = none → still (.drillEnd fail)) ∧
    (s.pair.drillEnd = some c → s.holds = false ∨ (fail % 16 = 0 ∧ s.mayHandOver = false) → Does (.drillEnd fail) s (fun u =>
      quiet u ∧ u.regs = s.regs ∧ u.pair = s.pair)) ∧
    (s.pair.drillEnd = some c → s.holds = true → fail % 16 ≠ 0 → s.mayHandOver = false → Does (.drillEnd fail) s (fun u =>
      u.pair.drillEnd = none ∧ u.on PAIR_EVT.DRILL_FAIL = true ∧ u.on PAIR_STATUS.DRILL = false ∧ u.now = s.now)) ∧
    (s.pair.drillEnd = some c → s.mayHandOver = true → Does (.drillEnd fail) s (fun u => u.pair.drillEnd = none ∧ s.now ≤ u.now ∧
      u.rd PAIR_DRILL_STAT.FAIL = fail % 16 ∧ u.on PAIR_DRILL_STAT.PASS = decide (fail % 16 = 0) ∧
      (fail % 16 = 0 → u.on PAIR_EVT.DRILL_DONE = true ∧ u.now = max s.now (s.time.up + c)) ∧
      (fail % 16 ≠ 0 → u.on PAIR_EVT.DRILL_FAIL = true) ∧
      ∃ t, u.pair.handover = some ⟨t, true, 2, none⟩ ∧ OutMsg.handover t 2 (fail % 16) ∈ u.out)) ∧
    (still (.holdInChange s.holdIn)) ∧
    (s.holdIn = false → Does (.holdInChange true) s (fun u => u.on PAIR_STATUS.HOLD_IN = true ∧
      ∀ k < 4, u.on (SYS_CTR.FALLBACK k) = false)) ∧
    (s.holdIn = true → s.mode ≠ 4 → Does (.holdInChange false) s (fun u => u.on PAIR_STATUS.HOLD_IN = false ∧
      u.pair.inSince = s.now ∧ u.now = s.now ∧ quiet u)) ∧
    (s.holdIn = true → s.mode = 4 → s.pair.handover = some ho → ho.releases = false → 1000000000 * ho.sec ≤ s.netNs →
      Does (.holdInChange false) s (fun u =>
      u.holds = true ∧ u.mode = s.inheritedMode ∧ u.on PAIR_EVT.HANDOVER = true ∧ u.pair.handover = none ∧
      (ho.drill = 1 → u.on PAIR_STATUS.DRILL = true ∧ u.pair.drillEnd ≠ none))) ∧
    (s.holdIn = true → s.mode = 4 → s.faults.cur = none → s.pair.handover = none ∨ (s.pair.handover = some ho ∧
      (ho.releases = true ∨ s.netNs < 1000000000 * ho.sec)) → Does (.holdInChange false) s (fun u =>
      u.on PAIR_STATUS.HOLD_IN = false ∧ u.holds = s.holds ∧ u.mode = 4 ∧ u.pair.handover = none ∧
      u.pair.window = some s.ctr ∧ u.now = s.now)) ∧
    Does (.peerPresentChange cable) s (fun u => u.on PAIR_STATUS.PAIRED = cable.present ∧
      u.rd PAIR_STATUS.ROLE = (if cable.secondary then 1 else 0) ∧ u.now = s.now)

/-- The floe's commands and events. -/
def Obligations.Floe : Prop :=
  ∀ (s : State) (r : Req) (b : Beacon) (h : RingHdr) (viaW : Bool) (term id kind target sec ns n c code : Nat) (o : Order) (m : Member),
    let still (i : Instr) : Prop := Does i s (fun u => u = s.silent)
    let quiet (u : State) : Prop := SameGnor u s ∧ SameMem u s
    let sent (u : State) (f : FloeMsg) : Prop := ∀ p ∈ s.ringPorts, ∃ q, OutMsg.ring p 0 q f ∈ u.out
    let own := s.ownIndex
    let epoch := sec * 1000000000 + ns
    let on := s.floeOn = true
    let key := s.rd PAIR_KEY.VALUE
    let wrap := if viaW then FLOE_STATUS.WRAPPED_W else FLOE_STATUS.WRAPPED_E
    let onward := if viaW then (if s.on FLOE_STATUS.WRAPPED_E then 3 else 2) else (if s.on FLOE_STATUS.WRAPPED_W then 2 else 3)
    let fresh := s.rd FLOE_CHANGE.STATE ≠ 1 ∧ s.floe.wait = none ∧ s.faults.cur = none
    let timely := s.netNs + 300000000 ≤ epoch ∧ epoch ≤ s.netNs + 60000000000
    let heard := on ∧ h.src ≠ own ∧ s.fromLead h.src term = true ∧ s.rd FLOE_CHANGE_ID.ID ≠ id ∧ s.isActive = true ∧ s.mode ≠ 4 ∧
      s.on FLOE_STATUS.MEMBER = true
    let rules := on ∧ s.leads = true ∧ s.floe.order = some o
    let mode := s.rd PAIR_DATA0.VALUE % 8
    let when' := (s.rd PAIR_DATA1.VALUE + s.rd PAIR_DATA2.VALUE % 65536 * 2 ^ 32) * 1000000000 + key % 2 ^ 30
    let bad := (mode ≠ 2 ∧ mode ≠ 3 ∧ mode ≠ 5) ∨ 1000000000 ≤ key % 2 ^ 30 ∨ when' < s.netNs + 500000000 ∨
      s.netNs + 60000000000 < when'
    let ends (cc : Nat) (u : State) : Prop := Done u PAIR_STAT.addr PAIR_EVT.CMD_DONE cc ∧ quiet u
    (¬ on → still .ringBeaconSend ∧ still (.prepare h term id kind target sec ns) ∧ still (.ready h id) ∧ still (.refuse h id code) ∧
      still (.floeAbort h term id) ∧ still (.set h term target n) ∧ still (.spanBreak viaW) ∧ still .leadChange) ∧
    (on → Does .ringBeaconSend s (fun u =>
        let clash := s.floe.self ≠ some own ∧ s.member own ≠ none
        u.on FLOE_STATUS.MEMBER = decide (¬ clash) ∧ u.on FLOE_STATUS.INDEX_CLASH = decide clash ∧
        (clash → s.on FLOE_STATUS.INDEX_CLASH = false → u.on PAIR_EVT.INDEX_CLASH = true)) ∧
      Does .ringBeaconSend s (fun u => ∀ p ∈ s.ringPorts, ∃ q x, OutMsg.ring p 0 q (.beacon x) ∈ u.out ∧ x.src = own ∧ x.seq = q ∧
        x.hops = 0 ∧ x.mode = s.mode ∧ x.maj = s.floeMaj ∧ x.term = s.rd FLOE_TERM.TERM ∧ x.image = s.runVersion)) ∧
    (on → b.src < 1024 → b.src ≠ own → b.maj = s.floeMaj → s.clashes viaW b.src b.hops = true → Does (.ringBeacon viaW b) s (fun u =>
      quiet u ∧ u.regs = s.regs ∧ u.floe.members = s.floe.members)) ∧
    (on → b.src < 1024 → b.src ≠ own → b.maj = s.floeMaj → s.clashes viaW b.src b.hops = false → Does (.ringBeacon viaW b) s (fun u =>
      u.on (FLOE_MEMBER.PRESENT b.src) = true ∧ (∃ x, u.member b.src = some x ∧ x.b = b ∧
        (if viaW then x.wAt else x.eAt) = some s.ctr ∧ (if viaW then x.wHops else x.eHops) = b.hops) ∧
      (s.ringSeen b.src b.seq = false → b.hops < 1023 →
        OutMsg.ring onward (b.hops + 1) b.seq (.beacon { b with hops := b.hops + 1 }) ∈ u.out) ∧
      ∀ k, k ≠ b.src → u.member k = s.member k)) ∧
    (on → b.src = own → own < 1024 → s.ringSeen b.src b.seq = true → Does (.ringBeacon viaW b) s (fun u => u.regs = s.regs ∧
      quiet u ∧ u.out = [] ∧ u.floe.members = s.floe.members)) ∧
    (n < 1024 → (s.member n = none → still (.memberTimeout n)) ∧
      (on → s.member n = some m → n ≠ own → Does (.memberTimeout n) s (fun u => u.member n = none ∧
        u.on (FLOE_MEMBER.PRESENT n) = false ∧ s.time.up + (max (m.eAt.getD 0) (m.wAt.getD 0) + 24000000) ≤ u.now ∧
        ∀ k, k ≠ n → u.member k = s.member k))) ∧
    (s.on wrap = true → still (.spanBreak viaW)) ∧
    (on → s.on wrap = false → Does (.spanBreak viaW) s (fun u => u.on wrap = true ∧ u.on PAIR_EVT.SPAN_BREAK = true ∧
      u.floe.members = s.floe.members)) ∧
    (s.on wrap = false → still (.spanRestored viaW)) ∧
    (on → s.on wrap = true → (if viaW then s.floe.crossW else s.floe.crossE) = some c → Does (.spanRestored viaW) s (fun u => quiet u ∧
      u.on wrap = false ∧ u.on PAIR_EVT.SPAN_RESTORED = true ∧ u.now = max s.now (s.time.up + (c + 800000000)))) ∧
    (on → s.leadNow = some n → ∀ k < n, k < 1024 → lowest ((s.candidates.filter (fun x => decide (x.1 < n))).map (·.1)) = some k →
      Does .leadChange s (fun u => u.leadNow = some k ∧ u.on PAIR_EVT.LEAD_CHANGE = true ∧
        (u.leads = true → u.rd FLOE_TERM.TERM = (s.floe.maxTerm + 1) % 2 ^ 32))) ∧
    (on → s.leadNow = none → ∀ k < 1024, s.leadBy = some k → Does .leadChange s (fun u => u.leadNow = some k ∧
      u.on PAIR_EVT.LEAD_CHANGE = true)) ∧
    (s.rd FLOE_CHANGE.STATE = 1 ∨ s.floe.wait ≠ none ∨ s.faults.cur ≠ none → s.prepareCode kind target epoch = some ccBusy) ∧
    (fresh → (epoch < s.netNs + 300000000 → s.prepareCode kind target epoch = some ccLate) ∧
      (s.netNs + 60000000000 < epoch → s.prepareCode kind target epoch = some ccRange) ∧
      (timely → kind = 1 → (target ∉ [2, 3, 5] → s.prepareCode kind target epoch = some ccRange) ∧
        (target ∈ [2, 3, 5] → s.prepareCode kind target epoch =
          some (if target = s.mode ∨ floeListed s.mode target = true then ccOk else ccDenied))) ∧
      (timely → kind = 2 → s.mode = 5 → s.prepareCode kind target epoch = some ccDenied) ∧
      (timely → kind = 2 → s.mode ≠ 5 → s.prepareCode kind target epoch = if s.floeSealedAt epoch then some ccOk else none)) ∧
    (heard → s.prepareCode kind target epoch = some ccOk → sec < 2 ^ 48 → ns < 1000000000 → id < 2 ^ 32 → kind < 4 →
      Does (.prepare h term id kind target sec ns) s (fun u => quiet u ∧ sent u (.ready own id) ∧ u.on PAIR_EVT.PREPARE = true ∧
        u.rd FLOE_CHANGE.STATE = 1 ∧ u.rd FLOE_CHANGE_ID.ID = id ∧ u.changeEpoch = epoch ∧ u.rd FLOE_CHANGE.KIND = kind)) ∧
    (heard → s.prepareCode kind target epoch = some code → code ≠ ccOk → Does (.prepare h term id kind target sec ns) s (fun u =>
      quiet u ∧ sent u (.refuse own id code) ∧ (s.rd FLOE_CHANGE.STATE = 1 → u.rd FLOE_CHANGE.STATE = 1))) ∧
    (heard → s.prepareCode kind target epoch = none → Does (.prepare h term id kind target sec ns) s (fun u => quiet u ∧
      u.floe.wait = some (s.ctr + 160000000))) ∧
    (on → h.src = own ∨ s.fromLead h.src term = false → Does (.prepare h term id kind target sec ns) s (fun u => u.regs = s.regs ∧
      quiet u ∧ u.floe.order = s.floe.order) ∧ Does (.floeAbort h term id) s (fun u => u.regs = s.regs ∧ quiet u ∧
        u.floe.order = s.floe.order)) ∧
    (rules → o.id = id → o.parts.any (fun p => p.1 == h.src) = true → s.clashes h.viaW h.src h.hops = false →
      Does (.ready h id) s (fun u => u.regs = s.regs ∧ quiet u ∧
        u.floe.order = some { o with readies := NSet.add o.readies h.src }) ∧
      (o.aborted = false → Does (.refuse h id code) s (fun u => sent u (.abort own (s.rd FLOE_TERM.TERM) o.id) ∧
        u.floe.order = some { o with aborted := true } ∧
        (s.rd FLOE_CHANGE_ID.ID = id → s.rd FLOE_CHANGE.STATE = 1 → s.floe.late = false → s.netNs + 100000000 < s.changeEpoch →
          u.rd FLOE_CHANGE.STATE = 3)))) ∧
    (rules → o.aborted = false → o.parts.all (fun p => o.readies.contains p.1) = false → Does .prepareTimeout s (fun u =>
      sent u (.abort own (s.rd FLOE_TERM.TERM) o.id) ∧ u.floe.order = some { o with aborted := true } ∧
      s.time.up + (o.sentAt + 200000000) ≤ u.now)) ∧
    (s.floe.order = some o → o.parts.all (fun p => o.readies.contains p.1) = true → still .prepareTimeout) ∧
    (s.floe.wait = none → still .prepareWaitExpiry) ∧
    (s.floe.wait = some c → Does .prepareWaitExpiry s (fun u => quiet u ∧ u.floe.wait = none ∧ u.rd FLOE_CHANGE.STATE = 2 ∧
      u.now = max s.now (s.time.up + c) ∧ sent u (.refuse own (s.rd FLOE_CHANGE_ID.ID) (if s.firn.hadCommit then
        s.rd FIRN_COMMIT_STAT.LAST_CC else ccLate)))) ∧
    (on → h.src ≠ own → s.fromLead h.src term = true → s.rd FLOE_CHANGE_ID.ID = id → s.floe.wait = none →
      s.rd FLOE_CHANGE.STATE = 1 → s.rd FLOE_CHANGE.KIND = 1 → s.floe.late = false → Does (.floeAbort h term id) s (fun u => quiet u ∧
        (s.netNs + 100000000 < s.changeEpoch → u.rd FLOE_CHANGE.STATE = 3 ∧ u.on PAIR_EVT.CHANGE_DONE = true) ∧
        (s.changeEpoch ≤ s.netNs + 100000000 → u.rd FLOE_CHANGE.STATE = 1))) ∧
    (on → s.leads = true → Does .abortRepeat s (fun u => u.regs = s.regs ∧ quiet u ∧ u.floe.order = s.floe.order ∧
      (∀ x ∈ s.floe.aborts, s.netNs ≤ x.2 + 1000000000 → sent u (.abort own (s.rd FLOE_TERM.TERM) x.1)) ∧
      (s.floe.order = some o → o.aborted = true → s.netNs ≤ o.epoch + 1000000000 →
        sent u (.abort own (s.rd FLOE_TERM.TERM) o.id)))) ∧
    (¬ on ∨ s.leads = false ∨ s.abortsDue = [] → still .abortRepeat) ∧
    (s.rd FLOE_CHANGE.STATE ≠ 1 → still .floeEpoch) ∧
    (s.rd FLOE_CHANGE.STATE = 1 → s.rails = true → Does .floeEpoch s (fun u => u.rd FLOE_CHANGE.STATE = 4 ∧
      u.on PAIR_EVT.CHANGE_DONE = true ∧ s.now ≤ u.now ∧ (s.rd FLOE_CHANGE.KIND ≠ 1 ∨ s.mode = 4 → u.mode = s.mode) ∧
      (s.rd FLOE_CHANGE.KIND = 1 → s.mode ≠ 4 → floeListed s.mode (s.rd FLOE_CHANGE.MODE) = true →
        s.canEnter (s.rd FLOE_CHANGE.MODE) = true → u.mode = s.rd FLOE_CHANGE.MODE))) ∧
    (on → n = own → s.fromLead h.src term = true → s.on FLOE_STATUS.MEMBER = true → Does (.set h term target n) s (fun u =>
      u.on FLOE_STATUS.SKEW = true ∧ (s.on FLOE_STATUS.SKEW = false → u.on PAIR_EVT.SKEW = true) ∧ u.floe.skewTo = target ∧
      (target = s.mode ∨ floeListed s.mode target = false → u.mode = s.mode) ∧
      (target ≠ s.mode → floeListed s.mode target = true → s.canEnter target = true → u.mode = target))) ∧
    (on → n ≠ own ∨ s.fromLead h.src term = false → Does (.set h term target n) s (fun u => u.regs = s.regs ∧ quiet u)) ∧
    (rules → o.intended own = none ∨ o.intended own = some s.mode →
      (o.checked = false → Does .skewCheck s (fun u => u.regs = s.regs ∧ quiet u ∧ u.floe.order = some { o with
          checked := true
          sets := s.disagree o } ∧
        ∀ p ∈ s.disagree o, sent u (.set own (s.rd FLOE_TERM.TERM) p.2 p.1))) ∧
      (o.checked = true → still .skewCheck ∧ ((∀ p ∈ s.setsDue o, p.1 ≠ own) → Does .setRepeat s (fun u => u.regs = s.regs ∧
          quiet u ∧ u.floe.order = some { o with sets := s.setsDue o } ∧
          ∀ p ∈ s.setsDue o, sent u (.set own (s.rd FLOE_TERM.TERM) p.2 p.1))))) ∧
    (s.floe.order = some o → o.checked = false → still .setRepeat) ∧
    (Takes s 10 PAIR_STAT.addr →
      (s.leads = false → Does (.floeMode r) s (fun u => ends ccDenied u ∧ u.floe = s.floe)) ∧
      (s.leads = true → s.changePending = true → Does (.floeMode r) s (fun u => ends ccBusy u ∧ u.floe = s.floe)) ∧
      (s.leads = true → s.changePending = false → bad → Does (.floeMode r) s (fun u => ends ccRange u ∧ u.floe = s.floe)) ∧
      (s.leads = true → s.changePending = false → ¬ bad → Does (.floeMode r) s (fun u =>
        Done u PAIR_STAT.addr PAIR_EVT.CMD_DONE ccOk ∧ SameGnor u s ∧
        sent u (.prepare own (s.rd FLOE_TERM.TERM) s.nextId 1 mode when') ∧
        ∃ x, u.floe.order = some x ∧ x.id = s.nextId ∧ x.target = mode ∧ x.epoch = when' ∧ x.parts = s.partsNow)) ∧
      (s.member (key % 1024) = none → Does (.memberInfo r) s (fun u => ends ccNotFound u ∧ u.floe = s.floe)) ∧
      (s.member (key % 1024) = some m → Does (.memberInfo r) s (fun u => ends ccOk u ∧ u.floe = s.floe ∧
        u.rd PAIR_DATA0.VALUE = m.b.maj % 256 + m.b.min % 256 * 256 ∧ u.rd PAIR_DATA1.VALUE = m.b.image % 2 ^ 32 ∧
        u.rd PAIR_DATA2.VALUE = m.b.frame % 2 ^ 32)))

/-- The commands and events of Rime, the RTC and the icecore. -/
def Obligations.RimeAndIcecore : Prop :=
  ∀ (s : State) (r : Req) (v : Word) (raw : List Nat) (n c : Nat) (y : Int) (low a b : Bool) (t1 : Tamper1) (t2 : Tamper2),
    let still (i : Instr) : Prop := Does i s (fun u => u = s.silent)
    let quiet (u : State) : Prop := SameGnor u s ∧ SameMem u s
    let live := s.rime.stopped = false
    let room := s.rails = true ∧ s.on RIME_ICE_CFG.H2 = false ∧ s.ice.buf.length < 910
    let noted (trig : Nat) (base : Bool) (u : State) : Prop := ∃ x, u.ice.buf = s.ice.buf ++ [x] ∧ x.trigger = trig ∧
      x.source = 129 ∧ x.seq = s.iceSeq ∧ x.base = base ∧ x.mark = true
    let rt := s.rd RIME_RTC_TIME.SEC + 60 * s.rd RIME_RTC_TIME.MIN + 3600 * s.rd RIME_RTC_TIME.HOUR
    let day := s.rd RIME_RTC_DATE.DAY
    let month := s.rd RIME_RTC_DATE.MONTH
    let year := s.rd RIME_RTC_DATE.YEAR
    let t := v &&& 0x071F_3F3F#32
    let d := s.rime.heldDate.getD (s.reg RIME_RTC_DATE.addr)
    let w := v.toNat % 2 ^ 25
    let en := w / 512 % 2
    let ends (cc : Nat) (u : State) : Prop := Done u RIME_STAT.addr RIME_EVT.CMD_DONE cc ∧ quiet u
    let key := s.rd RIME_KEY.VALUE
    let addr := s.rd RIME_DATA0.VALUE + s.rd RIME_DATA1.VALUE % 256 * 2 ^ 32
    let badRec := (key % 256 ∉ [1, 2, 3, 4, 0x41, 0x50]) ∨ (key / 2 ^ 16 % 2 = 1 ∧ key % 256 ≠ 0x41) ∨ addr % 8 ≠ 0 ∨ 2 ^ 36 < addr + 156
    (¬ live → still (.rimeSample raw) ∧ still .powerFailWarning ∧ still .extWake ∧ still (.tamper1 t1) ∧ still (.tamper2 t2) ∧
      Does .rimeColdStart s (fun u => quiet u ∧ u.rime.stopped = false ∧ u.rime.rules = [])) ∧
    (live → still .rimeColdStart) ∧
    (live → Does (.rimeSample raw) s (fun u => SameMem u s ∧ s.now ≤ u.now ∧
      (∀ i < 13, u.rd (RIME_IN.VALUE i) = min ((raw[i]?).getD (s.rd (RIME_IN.VALUE i))) 65535) ∧
      u.on RIME_PWR.FEED_A_OK = decide (4000 ≤ u.rd (RIME_IN.VALUE 0)) ∧
      u.rd (RIME_IN.VALUE 13) = (if s.holdIn then 1 else 0) ∧
      (n < 32 → s.on (RIME_RULE.EN n) = true → s.on (RIME_RULE.FILT n) = true → (s.rule n).y = some y →
        let i := s.rd (RIME_RULE.INPUT n)
        (u.rule n).y = some (y + (inputVal i (u.rd (RIME_IN.VALUE i)) - y) / (2 ^ (s.rd (RIME_RULE.K n) + 1) : Nat))))) ∧
    (n < 32 → (s.rule n).since = none → still (.ruleChange n)) ∧
    (n < 32 → live → s.on (RIME_RULE.EN n) = true → (s.rule n).since = some c → (s.rule n).y = some y →
      Does (.ruleChange n) s (fun u => SameMem u s ∧ u.ruleActive n = !s.ruleActive n ∧ u.on RIME_EVT.RULE = true ∧
        u.now = max s.now (c + 80000000 * s.rd (RIME_RULE_DW.DWELL n)) ∧ ∀ k < 32, k ≠ n → u.ruleActive k = s.ruleActive k)) ∧
    (s.rails = true → n < 32 → s.on (RIME_RULE.EN n) = false →
      (en = 0 ∨ ruleBad w (s.reg (RIME_RULE.addr n + 4)).toNat = false → Does (.ruleWrite r n 0 v) s (fun u => quiet u ∧
        u.reg (RIME_RULE.addr n) = BitVec.ofNat 32 w ∧ u.rule n = {})) ∧
      (en = 1 → ruleBad w (s.reg (RIME_RULE.addr n + 4)).toNat = true → Does (.ruleWrite r n 0 v) s (fun u => quiet u ∧
        u.on (RIME_RULE.EN n) = false ∧ u.on RIME_EVT.CFG_ERR = true)) ∧
      Does (.ruleWrite r n 1 v) s (fun u => quiet u ∧ u.reg (RIME_RULE.addr n + 4) = v) ∧
      Does (.ruleWrite r n 2 v) s (fun u => quiet u ∧ u.rd (RIME_RULE_DW.DWELL n) = v.toNat % 65536)) ∧
    (live → s.on RIME_PWR.PFW = false → Does .powerFailWarning s (fun u => quiet u ∧ u.on RIME_PWR.PFW = true ∧
      u.on RIME_EVT.PFW = true ∧ u.on RIME_PWR.FEED_A_OK = false ∧ u.on RIME_PWR.FEED_B_OK = false ∧ u.rime.feedOk = s.rime.feedOk ∧
      (s.rails = true → u.rime.holdupEnd = some (s.now + 9600000)) ∧
      (room → noted 0x20 false u ∧ u.on RIME_ICE_STAT.FLUSHING = true))) ∧
    (s.on RIME_PWR.PFW = true → still .powerFailWarning) ∧
    (s.on RIME_PWR.PFW = true → live → Does .pfwClear s (fun u => quiet u ∧ u.on RIME_PWR.PFW = false ∧
      (u.on RIME_PWR.FEED_A_OK = true ∨ u.on RIME_PWR.FEED_B_OK = true) ∧ u.rime.feedOk = s.rime.feedOk ∧
      (s.rails = true → s.rime.holdupEnd ≠ none → u.on RIME_EVT.PFW_CLEAR = true ∧ u.rime.holdupEnd = none) ∧
      (s.rails = false → s.rime.feedOk = true → s.on RIME_WAKE.PENDING = true → u.on RIME_WAKE.PENDING = false ∧
        u.rime.pwronAt = some s.now))) ∧
    (s.on RIME_PWR.PFW = false ∨ ¬ live → still .pfwClear) ∧
    (s.rime.holdupEnd = none → still .holdupEnd) ∧
    (s.rime.holdupEnd = some c → s.rails = true → Does .holdupEnd s (fun u => u.mode = 0 ∧ u.rails = false ∧ u.holds = false ∧
      max s.now c ≤ u.now ∧ u.rime.holdupEnd = none ∧ u.rime.byHoldup = true)) ∧
    Does (.feedRestore a b) s (fun u => quiet u ∧ u.on RIME_PWR.FEED_A_OK = a ∧ u.on RIME_PWR.FEED_B_OK = b ∧
      u.rime.feedOk = (a || b) ∧ (s.rails = false → live → (a || b) = true → s.on RIME_WAKE.PENDING = true →
        u.on RIME_WAKE.PENDING = false ∧ u.rime.pwronAt = some s.now) ∧
      (s.rails = false → live → (a || b) = true → s.on RIME_WAKE.FEED = true → s.rime.byHoldup = true → s.rime.feedOk = false →
        u.rd RIME_WAKE.CAUSE % 2 = 1 ∧ u.rime.pwronAt = some s.now)) ∧
    Does (.rtcLockout low) s (fun u => u.regs = s.regs ∧ quiet u ∧ u.rime.locked = low) ∧
    Does (.scapLow low) s (fun u => quiet u ∧ u.on RIME_PWR.SCAP_LOW = low ∧
      (low = true → s.on RIME_PWR.SCAP_LOW = false → u.on RIME_EVT.SCAP_LOW = true)) ∧
    Does (.coinLow low) s (fun u => quiet u ∧ u.on RIME_PWR.COIN_LOW = low ∧
      (low = true → s.on RIME_PWR.COIN_LOW = false → u.on RIME_EVT.COIN_LOW = true)) ∧
    (s.on RIME_WAKE.EXT = false → still .extWake) ∧
    (live → s.on RIME_WAKE.EXT = true → Does .extWake s (fun u => quiet u ∧ (room → noted 0x21 false u) ∧
      (s.rails = false → u.rd RIME_WAKE.CAUSE / 32 % 2 = 1 ∧ u.rime.pwronExt = true ∧
        (s.feedGood = true → u.rime.pwronAt = some s.now ∧ u.on RIME_WAKE.PENDING = false) ∧
        (s.feedGood = false → u.on RIME_WAKE.PENDING = true)))) ∧
    (s.rime.rtcOff = true → still .rtcSecond) ∧
    (s.rime.rtcOff = false → Does .rtcSecond s (fun u => quiet u ∧ u.now = max s.now (s.rime.secTick + s.rtcTicks) ∧ u.rime.secTick = u.now ∧
      (live → u.alarmMatch 0 = true → u.on RIME_EVT.ALM0 = true) ∧
      (s.rd RIME_RTC_TIME.SEC < 60 → s.rd RIME_RTC_TIME.MIN < 60 → s.rd RIME_RTC_TIME.HOUR < 24 →
        u.rd RIME_RTC_TIME.SEC + 60 * u.rd RIME_RTC_TIME.MIN + 3600 * u.rd RIME_RTC_TIME.HOUR = (rt + 1) % 86400 ∧
        (rt < 86399 → u.rd RIME_RTC_DATE.DAY = day ∧ u.rd RIME_RTC_DATE.MONTH = month ∧ u.rd RIME_RTC_DATE.YEAR = year) ∧
        (rt = 86399 → u.rd RIME_RTC_TIME.WDAY = (s.rd RIME_RTC_TIME.WDAY + 1) % 7 ∧
          (day < daysIn year month → u.rd RIME_RTC_DATE.DAY = day + 1 ∧ u.rd RIME_RTC_DATE.MONTH = month ∧
            u.rd RIME_RTC_DATE.YEAR = year) ∧
          (daysIn year month ≤ day → u.rd RIME_RTC_DATE.DAY = 1 ∧
            u.rd RIME_RTC_DATE.MONTH = (if month < 12 then month + 1 else 1) ∧
            (month < 12 → u.rd RIME_RTC_DATE.YEAR = year) ∧ (12 ≤ month → u.rd RIME_RTC_DATE.YEAR = (year + 1) % 128)))))) ∧
    (s.rails = true → (s.rime.locked = true → still (.rtcSet r v)) ∧
      (s.rime.locked = false → rtcReal d.toNat t.toNat = true → Does (.rtcSet r v) s (fun u => quiet u ∧
        u.reg RIME_RTC_TIME.addr = t ∧ u.reg RIME_RTC_DATE.addr = d ∧ u.rime.heldDate = none ∧ u.rime.secTick = s.now)) ∧
      (s.rime.locked = false → rtcReal d.toNat t.toNat = false → Does (.rtcSet r v) s (fun u => quiet u ∧
        u.reg RIME_RTC_TIME.addr = s.reg RIME_RTC_TIME.addr ∧ u.reg RIME_RTC_DATE.addr = s.reg RIME_RTC_DATE.addr ∧
        u.on RIME_EVT.CFG_ERR = true))) ∧
    (s.on (tamper1Bit t1) = true ∨ s.lightMeets t1 true = false → still (.tamper1 t1)) ∧
    (live → s.on (tamper1En t1) = false → s.on (tamper1Bit t1) = false → s.lightMeets t1 true = true → Does (.tamper1 t1) s (fun u => quiet u ∧ u.ice = s.ice ∧
      u.on (tamper1Bit t1) = true ∧ u.on RIME_TAMP.C1 = s.on RIME_TAMP.C1 ∧
      u.on RIME_EVT.TAMPER1 = s.on RIME_EVT.TAMPER1)) ∧
    (live → s.on (tamper1En t1) = true → s.on (tamper1Bit t1) = false → s.lightMeets t1 true = true → Does (.tamper1 t1) s (fun u => quiet u ∧
      u.on (tamper1Bit t1) = true ∧ u.on RIME_TAMP.C1 = true ∧ u.on RIME_EVT.TAMPER1 = true ∧ (room → noted 0x10 true u))) ∧
    (s.lightMeets t1 false = false → still (.tamper1Release t1)) ∧
    (s.lightMeets t1 false = true → Does (.tamper1Release t1) s (fun u => quiet u ∧ u.on (tamper1Bit t1) = false ∧
      u.on RIME_TAMP.C1 = s.on RIME_TAMP.C1)) ∧
    (live → Does (.tamper2 t2) s (fun u => u.on (tamper2Bit t2) = true ∧ u.on RIME_TAMP.C2 = true ∧
      u.on RIME_EVT.TAMPER2 = true ∧ u.on VLT_STATUS.PROVISIONED = false ∧ ∀ k < 64, (u.slot k).key = [])) ∧
    (s.on RIME_ICE_STAT.FLUSHING = false → still .iceFlushed) ∧
    (s.on RIME_ICE_STAT.FLUSHING = true → Does .iceFlushed s (fun u => quiet u ∧ u.ice.buf = [] ∧ u.on RIME_EVT.ICE_FLUSHED = true ∧
      u.on RIME_ICE_STAT.FLUSHING = false ∧ (s.ice.cmdFlush = true → ends ccOk u))) ∧
    (s.rails = true → SMap.get (fun _ => none) s.latch (latchKey r (RIME_ICE_WIN.addr 71)) = none →
      Does (.iceWinRead r 71) s (fun u => u.regs = s.regs ∧ quiet u ∧ (s.cursor r < 28672 →
        u.cursor r = if s.cursor r = 28671 then 14336 else s.cursor r + 1))) ∧
    (s.rails = true → SMap.get (fun _ => none) s.latch (latchKey r (RIME_ICE_WIN.addr 0)) = none →
      Does (.iceWinRead r 0) s (fun u => u.regs = s.regs ∧ quiet u ∧ u.cursor r = s.cursor r ∧
        ∀ k < 71, SMap.get (fun _ => none) u.latch (latchKey r (RIME_ICE_WIN.addr (k + 1))) =
          some (s.iceWord (s.cursor r) (k + 1)))) ∧
    (Takes s 14 RIME_STAT.addr →
      (s.on RIME_ICE_CFG.H2 = true → s.ice.buf = [] → Does (.rimeFlush r) s (fun u => ends ccOk u ∧ u.ice.buf = [] ∧
        u.on RIME_EVT.ICE_FLUSHED = true)) ∧
      (s.on RIME_ICE_CFG.H2 = true → s.ice.buf ≠ [] → Does (.rimeFlush r) s (fun u => quiet u ∧ u.busy RIME_STAT.addr = true ∧
        u.ice = { s.ice with cmdFlush := true })) ∧
      (s.on RIME_ICE_CFG.H2 = false → Does (.rimeFlush r) s (fun u => quiet u ∧ u.busy RIME_STAT.addr = true ∧
        u.on RIME_ICE_STAT.FLUSHING = true ∧ u.ice.cmdFlush = true)) ∧
      (r ≠ 128 → Does (.record r) s (fun u => ends ccDenied u ∧ u.ice = s.ice)) ∧
      (badRec → Does (.record 128) s (fun u => ends ccRange u ∧ u.ice = s.ice)) ∧
      (¬ badRec → NoErr s → room → Does (.record 128) s (fun u => ends ccOk u ∧ ∃ x, u.ice.buf = s.ice.buf ++ [x] ∧
        x.trigger = key % 256 ∧ x.source = 128 ∧ x.cls = key / 256 % 256 ∧ x.seq = s.iceSeq)) ∧
      (s.mode ≠ 2 → Does (.ringClear r) s (fun u => ends ccDenied u ∧ u.ice = s.ice)) ∧
      (s.mode = 2 → Does (.ringClear r) s (fun u => ends ccOk u ∧ u.rd RIME_ICE_HEAD.HEAD = 14336 ∧
        (∀ k < 14336, SMap.get (fun _ => none) u.ice.mram k = SMap.get (fun _ => none) s.ice.mram k) ∧
        ∀ k x, 14336 ≤ k → SMap.get (fun _ => none) u.ice.mram k = some x → x.mark = false))) ∧
    (s.rime.pwronAt = none → still .pwronNRelease) ∧
    (s.rime.pwronAt = some c → Does .pwronNRelease s (fun u => u.regs = s.regs ∧ quiet u ∧ u.rime.pwronAt = none ∧
      u.now = max s.now (c + 80000000))) ∧
    (s.rails = true → still (.rimeStop low)) ∧
    (s.rails = false → live → Does (.rimeStop low) s (fun u => quiet u ∧ u.rime.stopped = true ∧ u.ice.buf = [] ∧
      u.rime.feedOk = false ∧ (∀ k < 4, u.on (SYS_CTR.FALLBACK k) = false) ∧
      (low = true → u.rime.rtcOff = true ∧ (s.rime.rtcOff = false → u.reg RIME_RTC_DATE.addr = 0x101#32 ∧ u.reg RIME_RTC_TIME.addr = 0x5000000#32)))) ∧
    (s.rails = false → ¬ live → low = true ∧ s.rime.rtcOff = false → Does (.rimeStop low) s (fun u => quiet u ∧
      u.rime.stopped = true ∧ u.rime.rtcOff = true ∧ u.reg RIME_RTC_DATE.addr = 0x101#32 ∧
      u.reg RIME_RTC_TIME.addr = 0x5000000#32)) ∧
    (s.rails = false → ¬ live → low = false ∨ s.rime.rtcOff = true → still (.rimeStop low)) ∧
    (s.on RIME_ICE_CFG.H2 = false ∨ s.ice.buf = [] → still .h2WriteDone) ∧
    (∀ x xs, s.on RIME_ICE_CFG.H2 = true → s.ice.buf = x :: xs → Does .h2WriteDone s (fun u => quiet u ∧ u.ice.buf = xs ∧
      (∀ e, s.ice.h2At[5]? = some e → u.now = max s.now (e + 800000000)) ∧
      (xs = [] → s.ice.cmdFlush = true → ends ccOk u ∧ u.on RIME_EVT.ICE_FLUSHED = true) ∧
      (x.base = false → s.mem.blkUe = [] → SMap.get (fun _ => none) u.ice.mram (s.rd RIME_ICE_HEAD.HEAD) = some x)))

/-- The commands and events of modes, contactors and board. -/
def Obligations.ModesAndBoard : Prop :=
  ∀ (s : State) (r : Req) (v : Word) (n bit c : Nat) (b : Bool), n < 4 →
    let still (i : Instr) : Prop := Does i s (fun u => u = s.silent)
    let quiet (u : State) : Prop := SameGnor u s ∧ SameMem u s
    let up := s.rails = true
    let new := v.toNat % 8
    let noOut := v.getLsbD 3
    let asks := up ∧ r ≠ 129 ∧ s.on SYS_MODE_RES.BUSY = false
    let same := new = s.mode ∧ (new ≠ 5 ∨ noOut = s.on SYS_MODE_RES.NO_OUT)
    let legal := new ≤ 5 ∧ (noOut = true → new = 5)
    let serve := new = 3 ∧ (s.mode = 1 ∨ s.mode = 2)
    let runs := s.modeReq = some ⟨new, noOut, c⟩
    (¬ legal → s.modeCode new noOut = ccRange) ∧
    (legal → same → s.modeCode new noOut = ccOk) ∧
    (legal → ¬ same → s.permitted new = false → s.modeCode new noOut = ccDenied) ∧
    (legal → ¬ same → s.permitted new = true → s.pairBusy = true ∨ s.floeHolds new = true ∨ s.canEnter new = false →
      s.modeCode new noOut = ccBusy) ∧
    (legal → ¬ same → s.permitted new = true → s.pairBusy = false → s.floeHolds new = false → s.canEnter new = true →
      s.modeCode new noOut = ccOk) ∧
    (up → r = 129 → still (.modeRequest r v)) ∧
    (up → r ≠ 129 → s.on SYS_MODE_RES.BUSY = true → Does (.modeRequest r v) s (fun u => quiet u ∧ u.mode = s.mode ∧
      u.on SYS_MODE_RES.OVERRUN = true)) ∧
    (asks → Does (.modeRequest r v) s (fun u => quiet u ∧ u.mode = s.mode ∧ u.holds = s.holds ∧
      u.on SYS_MODE_RES.BUSY = true ∧ u.modeReq = some ⟨new, noOut, s.ctr⟩)) ∧
    (s.modeReq = none → still (.commandComplete 0)) ∧
    (runs → s.modeCode new noOut ≠ ccOk ∨ same → Does (.commandComplete 0) s (fun u => quiet u ∧ u.mode = s.mode ∧
      u.modeReq = none ∧ u.on SYS_MODE_RES.BUSY = false ∧ u.rd SYS_MODE_RES.CC = s.modeCode new noOut ∧
      u.rd SYS_MODE_RES.RESULT = s.mode ∧ u.holds = s.holds)) ∧
    (runs → s.modeCode new noOut = ccOk → ¬ same → Does (.commandComplete 0) s (fun u => u.modeReq = none ∧
      (new = 0 → u.mode = 0 ∧ u.rails = false ∧ u.holds = false) ∧
      (new ≠ 0 → u.rd SYS_MODE_RES.CC = ccOk ∧ u.rd SYS_MODE_RES.RESULT = u.mode ∧ u.on SYS_EVT.MODE_CHANGED = true ∧
        u.on SYS_MODE_RES.BUSY = false ∧ (serve → s.holdIn = true → u.mode = 4) ∧
        (serve → s.holdIn = false → s.holds = true ∨ s.on PAIR_STATUS.PAIRED = false → u.mode = 3 ∧ u.holds = true) ∧
        (serve → (u.mode = 3 ∧ u.holds = true) ∨ (u.mode = 4 ∧ u.holds = false)) ∧ (¬ serve → u.mode = new) ∧ (new = 1 ∨ new = 4 → u.holds = false) ∧
        (new = 5 → u.on SYS_MODE_RES.NO_OUT = noOut ∧ (noOut = true → u.holds = false))))) ∧
    (up → s.mode = 2 → Does (.outPermitWrite r v) s (fun u => quiet u ∧ u.rd ⟨SYS_OUT_PERMIT.addr, 0, 4⟩ = v.toNat % 16)) ∧
    (up → s.mode ≠ 2 → still (.outPermitWrite r v)) ∧
    (∀ i, i = Instr.ctrOwnWrite r n v ∨ i = Instr.ctrCmdWrite r n v → up →
      (s.holds = false → still i) ∧
      (v.getLsbD 0 = true → 128 ≤ r → still i) ∧
      (s.holds = true → v.getLsbD 0 = true → r < 128 → s.on (SYS_CTR.OWN n) = false → Does i s (fun u => quiet u ∧
        u.on (SYS_CTR.OWN n) = true ∧ u.on (SYS_CTR.CMD n) = s.rimeOut n)) ∧
      (s.holds = true → v.getLsbD 0 = true → r < 128 → s.on (SYS_CTR.OWN n) = true → Does i s (fun u => quiet u ∧
        u.on (SYS_CTR.OWN n) = true ∧ u.on (SYS_CTR.CMD n) = v.getLsbD 1)) ∧
      (s.holds = true → v.getLsbD 0 = false → Does i s (fun u => quiet u ∧ u.on (SYS_CTR.OWN n) = false ∧
        u.on (SYS_CTR.CMD n) = v.getLsbD 1))) ∧
    (up → (v.getLsbD 31 = true → Does (.eccCeClear r v) s (fun u => quiet u ∧ u.rd SYS_ECC_CE.COUNT = 0)) ∧
      (v.getLsbD 31 = false → still (.eccCeClear r v))) ∧
    (up ∨ s.feedGood = false ∨ s.rime.stopped = true ∨ s.pwronLow = false → still .pwronN) ∧
    (s.rails = false → s.feedGood = true → s.rime.stopped = false → s.pwronLow = true → Does .pwronN s (fun u => u.mode = 1 ∧ u.rails = true ∧
      u.holds = false ∧ u.gnor = State.reset.gnor ∧ SameBytes u State.reset ∧ u.time.up = s.now ∧
      u.now = s.now ∧ u.ctr = 0 ∧ (∀ k, k ≠ s.rd RIME_ICE_HEAD.HEAD → SMap.get (fun _ => none) u.ice.mram k =
        SMap.get (fun _ => none) s.ice.mram k) ∧ (s.rd RIME_WAKE.CAUSE ≠ 0 → u.on RIME_EVT.WAKE = true))) ∧
    (up → bit < 26 → bit ≠ 9 → s.rdy bit = false → s.rd SYS_BOOT.TARGET ∈ [2, 3] → Does (.islandReady bit) s (fun u =>
      (u.rails = true → u.rdy bit = true ∧ u.on SYS_EVT.READY_CHANGED = true) ∧
      (s.mode ≠ 1 ∨ s.crq.phase ≠ 1 → u.rails = true))) ∧
    (s.holds = true ∨ s.holdIn = true ∨ s.on (SYS_CTR.FALLBACK 0) = true ∨ s.rime.stopped = true → still .fallback) ∧
    (s.holds = false → s.holdIn = false → s.on (SYS_CTR.FALLBACK 0) = false → s.rime.stopped = false → Does .fallback s (fun u =>
      quiet u ∧ u.now = max s.now (max s.pair.offSince s.pair.inSince + 40000000) ∧
      ∀ k < 4, u.on (SYS_CTR.FALLBACK k) = true ∧ u.on (SYS_CTR.OWN k) = false ∧ u.on (SYS_CTR.CMD k) = s.on (SYS_CTR.CMD k))) ∧
    (s.pair.autoSince = none → still .autoIsland ∧ still .autoReturn) ∧
    (s.pair.autoSince = some c → s.mode = 3 → s.autoCond = true → s.rd FLOE_CHANGE.STATE ≠ 1 → Does .autoIsland s (fun u =>
      u.mode = 5 ∧ u.on SYS_MODE_RES.AUTO = true ∧ u.on SYS_MODE_RES.NO_OUT = !s.on SYS_ISL_CFG.AUTO_OUT ∧
      s.time.up + (c + 800000000 * s.rd SYS_ISL_CFG.DELAY) ≤ u.now)) ∧
    (s.pair.autoSince = some c → s.mode = 5 → s.autoCond = true → s.canEnter 3 = true → Does .autoReturn s (fun u =>
      u.mode = 3 ∧ u.on SYS_MODE_RES.AUTO = false ∧ s.time.up + (c + 800000000 * s.rd SYS_ISL_CFG.DELAY) ≤ u.now)) ∧
    (s.ctrDrive n = false → still (.coilOver n) ∧ still (.coilOpen n)) ∧
    (s.ctrDrive n = true → Does (.coilOver n) s (fun u => quiet u ∧ u.on (SYS_COIL.OVER n) = true ∧ u.ctrDrive n = false ∧
        SMap.get (fun _ => none) u.board.off n = some (s.now + 800000000)) ∧
      (up → Does (.coilOpen n) s (fun u => quiet u ∧ u.on (SYS_COIL.OPEN n) = true ∧ u.ctrDrive n = true))) ∧
    (SMap.get (fun _ => none) s.board.off n = none → still (.coilRetry n b)) ∧
    (SMap.get (fun _ => none) s.board.off n = some c →
      Does (.coilRetry n true) s (fun u => quiet u ∧ u.on (SYS_COIL.OVER n) = false ∧
        SMap.get (fun _ => none) u.board.off n = none ∧ u.now = max s.now c + 800000000) ∧
      Does (.coilRetry n false) s (fun u => quiet u ∧ SMap.get (fun _ => none) u.board.off n = some (max s.now c + 800000000))) ∧
    (s.rails = false → still (.nocoilv b) ∧ still .trayRemoved ∧ still .trayFitted) ∧
    (up → Does (.nocoilv b) s (fun u => quiet u ∧ ∀ k < 4, u.on (SYS_COIL.NOCOILV k) = b) ∧
      (s.rd SYS_FAN.DUTY < 30 → still (.fanFail n)) ∧
      (n < 3 → 30 ≤ s.rd SYS_FAN.DUTY → Does (.fanFail n) s (fun u => quiet u ∧ u.rd SYS_FAN.DUTY = 100 ∧ s.rd SYS_FAN.FAIL ||| 2 ^ n = u.rd SYS_FAN.FAIL)) ∧
      Does .trayRemoved s (fun u => quiet u ∧ u.on SYS_FAN.TRAY = false ∧ u.rd SYS_FAN.FAIL = 7) ∧
      Does .trayFitted s (fun u => quiet u ∧ u.on SYS_FAN.TRAY = true ∧ u.rd SYS_FAN.FAIL = 0))

/-- Cirque's events and the management protocol. -/
def Obligations.CirqueAndManagement : Prop :=
  ∀ (s : State) (seq a m rcv isl i c : Nat) (v : Word) (d : List Byte) (ws : List Word) (temps : List Int) (coils : List Nat)
    (rpm ia ib : Nat) (f g : FaultRec) (gs : List FaultRec) (p : Nat × Nat), isl < 21 → i < 21 →
    let still (j : Instr) : Prop := Does j s (fun u => u = s.silent)
    let quiet (u : State) : Prop := SameGnor u s ∧ SameMem u s
    let up := s.rails = true
    let run := up ∧ s.rdy 2 = true
    let limited (t : State) (x : Bool) (k : Nat) : Prop := s.atFloor x k = false → t.limit x k =
      some (max (s.floorClock k) (min ((s.limit x k).getD (s.wantClock k)) (s.wantClock k) - 100))
    let session := up ∧ s.on CRQ_MGMT.SESSION = true
    let serves := session ∧ s.on VLT_STATUS.PROVISIONED = true ∧ s.crq.plainMgmt = false
    let replies (j : Instr) (typ cc : Nat) (data : List Byte) : Prop := Does j s (fun u => u.out = [.reply typ cc seq data] ∧ SameGnor u s)
    let clear (b n : Nat) : Prop := NoErr s ∧ b + n ≤ 2 ^ 36 ∧ ∀ e, b ≤ e → e < b + n → s.protectedAt e = false ∧ s.planeOff e = none
    let idle := s.faults.cur = none ∧ s.faults.deferred = []
    (¬ run → still (.thermalSample temps coils rpm ia ib) ∧ still .throttleStep) ∧
    (run → Does (.thermalSample temps coils rpm ia ib) s (fun u => s.now ≤ u.now ∧ (u.rails = true →
      (∀ x, temps[i]? = some x → u.temp i = some (match s.temp i with
        | some o => tempFilter o (x * 65536) | none => x * 65536)) ∧
      (∀ k < 4, ∀ x, coils[k]? = some x → u.rd (SYS_COIL.CURRENT k) = min x 1023 ∧ (10 ≤ x → u.on (SYS_COIL.OPEN k) = false)) ∧
      u.rd SYS_FAN.MINRPM = min rpm 65535 ∧ u.rd SYS_FEED.IA = min ia 4095 ∧ u.rd SYS_FEED.IB = min ib 4095))) ∧
    (s.crq.crossings = [] → (∀ q ∈ crossingPairs, s.crossDiff q ≤ 30 * degC) → s.crossStep = s) ∧
    (p ∈ crossingPairs → 30 * degC < s.crossDiff p → s.crossStep.crq.crossings.contains (crossKey p) = true ∧
      limited s.crossStep true (s.hotter p)) ∧
    (run → s.rd CRQ_HOT.HOT = 0 → Does .throttleStep s (fun u => quiet u ∧ u.now = max s.now (s.time.up + (s.crq.stepAt + 800000000)) ∧
      u.limit false i = match s.limit false i with
        | some n => if s.wantClock i ≤ n + 100 then none else some (n + 100)
        | none => none)) ∧
    (run → i < 8 → s.rd CRQ_HOT.HOT = 2 ^ i → (∃ t, s.temp i = some t ∧ 103 * degC ≤ t) → Does .throttleStep s (fun u => quiet u ∧
      limited u false i)) ∧
    (SMap.get (fun _ => none) s.crq.dwell (8 * isl + 4) = none → still (.shutdown isl)) ∧
    (up → SMap.get (fun _ => none) s.crq.dwell (8 * isl + 4) = some c → s.faults.cur = none → Does (.shutdown isl) s (fun u =>
      u.mode = 0 ∧ u.rails = false ∧ u.holds = false ∧ s.time.up + (c + s.shutDwell) ≤ u.now)) ∧
    (s.rails = false → still (.vddFault isl m)) ∧
    (up → s.crq.vddBad.contains isl = false → offBy 5 m (s.setPoint isl) = false → Does (.vddFault isl m) s (fun u => quiet u ∧
      u.rd (SYS_ISL.VDD isl) = min m 4095 ∧ u.faults = s.faults ∧ u.crq = s.crq)) ∧
    (up → s.crq.vddBad.contains isl = true → Does (.vddFault isl m) s (fun u => quiet u ∧ u.rd (SYS_ISL.VDD isl) = min m 4095 ∧
      u.faults = s.faults ∧ u.crq.vddBad.contains isl = offBy 4 m (s.setPoint isl))) ∧
    (up → s.faults.cur = none → s.crq.vddBad.contains isl = false → offBy 5 m (s.setPoint isl) = true →
      Does (.vddFault isl m) s (fun u => u.rd (SYS_ISL.VDD isl) = min m 4095 ∧ u.on CRQ_EVT.VDD_FAULT = true ∧
      (∃ x, u.faults.cur = some x ∧ x.cause = 0x08 ∧ x.island = isl) ∧ (islandBit isl ≠ none → u.islandUp isl = false))) ∧
    (idle → still .recoveryComplete) ∧
    (s.faults.cur = some f → f.cause = 0x08 → s.islandUp f.island = false → still .recoveryComplete) ∧
    (s.faults.cur = some f → f.cause = 0x08 → s.islandUp f.island = true → s.faults.deferred = [] → Does .recoveryComplete s (fun u =>
      quiet u ∧ u.faults.cur = none ∧ u.on CRQ_FAULT.BUSY = false)) ∧
    (s.faults.cur = none → s.faults.deferred = g :: gs → g.cause = 0x08 → s.causeGone g = false → Does .recoveryComplete s (fun u =>
      u.faults.cur = some g ∧ u.faults.deferred = gs)) ∧
    (s.faults.cur = some f → f.cls = 2 → f.cause ∉ [0x08, 0x09] → s.faults.step2 = false → s.faults.deferred = [] → s.canEnter 3 = true →
      s.mode ≠ 5 → Does .recoveryComplete s (fun u => quiet u ∧ u.mode = s.mode ∧ u.faults.cur = none)) ∧
    (s.faults.cur = none → still .islandRestartTimeout) ∧
    (up → s.faults.cur = some f → f.cause = 0x08 → f.cls < 2 → s.islandUp f.island = false → Does .islandRestartTimeout s (fun u =>
      u.holds = false ∧ s.time.up + (s.faults.start + 4000000000) ≤ u.now ∧
      ∃ x, u.faults.cur = some x ∧ x.cause = 0x14 ∧ x.island = f.island)) ∧
    (¬ session → still .mgmtDisconnect ∧ still (.mgmtRead seq a m) ∧ still (.mgmtWrite seq a ws) ∧ still (.mbxSend seq rcv v) ∧
      still (.mbxRecv seq rcv) ∧ still (.dbTake seq v) ∧ still (.iceRead seq a m) ∧ still (.imagePush seq a d) ∧
      still (.mgmtProvision seq d) ∧ still (.mgmtStatus seq)) ∧
    (up → s.on CRQ_MGMT.EN = true → s.on CRQ_MGMT.SESSION = false →
      (s.on VLT_STATUS.PROVISIONED = false → Does .mgmtConnect s (fun u => quiet u ∧ u.on CRQ_MGMT.SESSION = true ∧
        u.on CRQ_EVT.MGMT = true ∧ u.crq.plainMgmt = true)) ∧
      (s.on VLT_STATUS.PROVISIONED = true → s.mgmtIdentity = false → still .mgmtConnect) ∧
      (s.on VLT_STATUS.PROVISIONED = true → s.mgmtIdentity = true → Does .mgmtConnect s (fun u => quiet u ∧
        ((u.on CRQ_MGMT.SESSION = true ∧ u.on CRQ_EVT.MGMT = true ∧ u.crq.plainMgmt = false) ∨
          (u.regs = s.regs ∧ u.crq = s.crq))))) ∧
    (s.on CRQ_MGMT.EN = false ∨ s.on CRQ_MGMT.SESSION = true → still .mgmtConnect) ∧
    (session → Does .mgmtDisconnect s (fun u => quiet u ∧ u.on CRQ_MGMT.SESSION = false ∧ u.on CRQ_EVT.MGMT = true)) ∧
    (session → s.on VLT_STATUS.PROVISIONED = false ∨ s.crq.plainMgmt = true → replies (.mgmtRead seq a m) 1 ccDenied [] ∧ replies (.mgmtWrite seq a ws) 2 ccDenied [] ∧
      replies (.mbxSend seq rcv v) 3 ccDenied [] ∧ replies (.mbxRecv seq rcv) 4 ccDenied [] ∧ replies (.dbTake seq v) 5 ccDenied [] ∧
      replies (.iceRead seq a m) 6 ccDenied []) ∧
    (serves →
      (m = 0 ∨ 256 < m → replies (.mgmtRead seq a m) 1 ccRange []) ∧
      (m ≠ 0 → m ≤ 256 → s.mem.dramPoison = [] → a + 4 * m ≤ 2 ^ 36 → replies (.mgmtRead seq a m) 1 ccOk (s.dramBytes a (4 * m))) ∧
      (clear a (4 * ws.length) → Does (.mgmtWrite seq a ws) s (fun u => u.out = [.reply 2 ccOk seq []] ∧ SameGnor u s ∧ u.regs = s.regs ∧
        (∀ k < ws.length, ∀ b < 4, SMap.get zeroByte u.mem.dram (a + 4 * k + b) = (leBytes 4 (ws.getD k 0).toNat).getD b 0) ∧
        ∀ e, e < a ∨ a + 4 * ws.length ≤ e → SMap.get zeroByte u.mem.dram e = SMap.get zeroByte s.mem.dram e)) ∧
      (2 ^ 36 < a + 4 → isReg a = false → replies (.mgmtWrite seq a [v]) 2 ccDenied [] ∧ replies (.mgmtRead seq a 1) 1 ccDenied []) ∧
      Does (.mbxSend seq rcv v) s (fun u => u.out = [.reply 3 (s.mbxSend 35 rcv 131 v).1 seq []] ∧
        u.lum.mbx = (s.mbxSend 35 rcv 131 v).2.lum.mbx) ∧
      Does (.mbxRecv seq rcv) s (fun u => u.out = [.reply 4 (s.mbxRecv rcv 35).1 seq (leBytes 4 (s.mbxRecv rcv 35).2.1.toNat)] ∧
        u.lum.mbx = (s.mbxRecv rcv 35).2.2.lum.mbx) ∧
      Does (.dbTake seq v) s (fun u => u.out = [.reply 5 ccOk seq (leBytes 4 (s.rd (MBX_DB.PEND 35)))] ∧ quiet u ∧
        u.rd (MBX_DB.PEND 35) = s.rd (MBX_DB.PEND 35) &&& (~~~ v).toNat) ∧
      (m = 0 ∨ 64 < m ∨ 28672 < a + m → replies (.iceRead seq a m) 6 ccRange []) ∧
      (m ≠ 0 → m ≤ 64 → a + m ≤ 28672 → replies (.iceRead seq a m) 6 ccOk (((List.range m).map (fun k => s.slotBytes (a + k))).flatten))) ∧
    (session → Does (.imagePush seq a d) s (fun u => OutMsg.reply 7 (s.imagePush a d).1 seq [] ∈ u.out) ∧
      (s.rdy 25 = false → replies (.imagePush seq a d) 7 ccBusy []) ∧
      (s.rdy 3 = false → replies (.mgmtProvision seq d) 8 ccBusy []) ∧
      (s.rdy 3 = true → s.mayProvision = false → replies (.mgmtProvision seq d) 8 ccDenied []) ∧
      (s.rdy 3 = true → s.mayProvision = true → d.length < 97 ∨ pointOf (d.take 97) = none → replies (.mgmtProvision seq d) 8 ccRange []) ∧
      (s.rdy 3 = true → s.mayProvision = true → 97 ≤ d.length → pointOf (d.take 97) ≠ none → s.mode = 2 →
        Does (.mgmtProvision seq d) s (fun u => (∃ pub, u.out = [.reply 8 ccOk seq pub]) ∧ (u.slot 0).typ = 3 ∧ (u.slot 1).typ = 4 ∧
          (u.slot 1).key = d.take 97 ∧ u.on VLT_STATUS.PROVISIONED = true ∧ u.on RIME_TAMP.C1 = false ∧ u.on RIME_TAMP.C2 = false)) ∧
      Does (.mgmtStatus seq) s (fun u => quiet u ∧ u.regs = s.regs ∧ u.out = [.reply 9 ccOk seq
        ([SYS_MODE.addr, SYS_READY.addr, ICF_SLOT.addr 0, ICF_SLOT_VER.addr 0, ICF_SLOT.addr 1, ICF_SLOT_VER.addr 1,
          ICF_SLOT.addr 2, ICF_SLOT_VER.addr 2].flatMap (fun x => leBytes 4 (s.reg x).toNat) ++ leBytes 8 Config.serial)]))

/-- The commands of the vault (R413 to R418, R436). -/
def Obligations.VaultCommands : Prop :=
  ∀ (s : State) (r : Req), Takes s 12 VLT_STAT.addr →
    let ends (cc : Nat) (u : State) : Prop := Done u VLT_STAT.addr VLT_EVT.CMD_DONE cc ∧ SameGnor u s
    let quiet (u : State) : Prop := (NoCe s → SameMem u s) ∧ u.vlt.slots = s.vlt.slots
    let op := s.rd VLT_DATA2.VALUE % 64
    let key := s.rd VLT_KEY.VALUE
    let a := s.vltAddr
    let w : Wide := BitVec.ofNat 128 (s.rd (VLT_W.W 0) + 2 ^ 32 * s.rd (VLT_W.W 1) + 2 ^ 64 * s.rd (VLT_W.W 2) + 2 ^ 96 * s.rd (VLT_W.W 3))
    let clear (b m : Nat) : Prop := NoErr s ∧ b + m ≤ 2 ^ 36 ∧ ∀ e, b ≤ e → e < b + m → s.protectedAt e = false ∧ s.planeOff e = none
    let open' := (s.mode = 1 ∨ s.mode = 2) ∧ (s.slot 0).typ = 0 ∧ s.on RIME_TAMP.LID = true
    let len := s.rd VLT_DATA2.VALUE % 2 ^ 13
    let boots := s.rd SYS_BOOT.TARGET ∈ [2, 3] ∧ s.crq.phase ≠ 1
    (∀ cc z, s.kopStart none (r < 128) op key a w = (some cc, z) → Does (.vltOp r) s (fun u => ends cc u ∧ quiet u ∧
      u.vlt.ops = s.vlt.ops ∧ u.rd VLT_DATA0.VALUE = 0 ∧ u.rd VLT_DATA1.VALUE = 0)) ∧
    (∀ z, s.kopStart none (r < 128) op key a w = (none, z) → Does (.vltOp r) s (fun u => SameGnor u s ∧ quiet u ∧
      u.busy VLT_STAT.addr = true ∧ ∃ o : VOp, u.vlt.ops = s.vlt.ops ++ [o] ∧ o.tid = none ∧ o.op = op ∧
        o.src = s.slot (key % 64) ∧ o.w = w)) ∧
    (¬ open' → s.mode ≠ 1 → Does (.provision r) s (fun u => ends ccDenied u ∧ quiet u)) ∧
    (¬ open' → s.mode = 1 → boots → Does (.provision r) s (fun u => Done u VLT_STAT.addr VLT_EVT.CMD_DONE ccDenied ∧
      u.vlt.slots = s.vlt.slots)) ∧
    (open' → s.mode = 2 → (a % 8 ≠ 0 → Does (.provision r) s (fun u => ends ccRange u ∧ quiet u)) ∧
      (a % 8 = 0 → 2 ^ 36 < a + 97 → Does (.provision r) s (fun u => ends ccDenied u ∧ quiet u ∧ u.on SYS_EVT.ACCESS_FAULT = true)) ∧
      (a % 8 = 0 → a + 97 ≤ 2 ^ 36 → s.mem.dramPoison = [] → pointOf (s.dramBytes a 97) = none → Does (.provision r) s (fun u =>
        ends ccRange u ∧ quiet u))) ∧
    (open' → a % 8 = 0 → clear a 225 → pointOf (s.dramBytes a 97) ≠ none → s.mode = 2 ∨ boots →
      Does (.provision r) s (fun u => Done u VLT_STAT.addr VLT_EVT.CMD_DONE ccOk ∧
        (u.slot 0).typ = 3 ∧ (u.slot 1).typ = 4 ∧ (u.slot 1).key = s.dramBytes a 97 ∧ (u.slot 0).gen = nextGen (s.slot 0).gen ∧
        (∀ k, 2 ≤ k → u.slot k = s.slot k) ∧ u.on VLT_STATUS.PROVISIONED = true ∧ u.on VLT_EVT.PROVISIONED = true ∧
        u.on RIME_TAMP.C1 = false ∧ u.on RIME_TAMP.C2 = false ∧ (s.mode = 2 → SameGnor u s ∧ u.mode = 2 ∧
          ∀ i, i < 97 → SMap.get zeroByte u.mem.dram (a + 128 + i) = (pubOf (ofBe (u.slot 0).key)).getD i 0))) ∧
    (s.faults.cur = none → Does (.zeroise r) s (fun u => Done u VLT_STAT.addr VLT_EVT.CMD_DONE ccOk ∧
      (∀ k, k < 64 → (u.slot k).typ = 0 ∧ (u.slot k).key = []) ∧ u.vlt.ops = [] ∧ u.on VLT_STATUS.PROVISIONED = false ∧
      u.on VLT_EVT.ZEROISED = true ∧ u.mode = 1 ∧ u.holds = false)) ∧
    (s.faults.cur = none → (∀ o ∈ s.vlt.ops, s.now < o.ends) → Does (.zeroise r) s (fun u => SameMem u s ∧
      (∀ k, k < 64 → u.slot k = ⟨0, 0, nextGen (s.slot k).gen, []⟩))) ∧
    (clear a 32 → Does (.challenge r) s (fun u => ends ccOk u ∧ u.vlt.slots = s.vlt.slots ∧ ∃ n : List Byte, n.length = 32 ∧
      u.vlt.nonce = some (n, s.ctr + 240000000000) ∧ ∀ i < 32, SMap.get zeroByte u.mem.dram (a + i) = n.getD i 0)) ∧
    (s.vlt.nonce = none → Does (.clearTamper r) s (fun u => ends ccLate u ∧ quiet u ∧ u.on RIME_TAMP.C1 = s.on RIME_TAMP.C1)) ∧
    (∀ n t, s.vlt.nonce = some (n, t) →
      let digest := sha384 (n ++ leBytes 8 Config.serial)
      let good := ∃ sig q, s.dmaRead a 96 = some sig ∧ pointOf (s.slot 1).key = some q ∧ ecdsaVerify q digest sig = true
      (t < s.ctr → Does (.clearTamper r) s (fun u => ends ccLate u ∧ quiet u ∧ u.vlt.nonce = none ∧
        u.on RIME_TAMP.C1 = s.on RIME_TAMP.C1)) ∧
      (s.ctr ≤ t → 2 ^ 36 < a + 96 → Does (.clearTamper r) s (fun u => ends ccDenied u ∧ quiet u ∧ u.vlt.nonce = none ∧
        u.on RIME_TAMP.C1 = s.on RIME_TAMP.C1 ∧ u.on SYS_EVT.ACCESS_FAULT = true)) ∧
      (s.ctr ≤ t → s.mem.blkUe = [] → good → Does (.clearTamper r) s (fun u => ends ccOk u ∧ quiet u ∧ u.vlt.nonce = none ∧
        u.on RIME_TAMP.C1 = false ∧ u.on VLT_EVT.C1_CLEARED = true)) ∧
      (s.ctr ≤ t → s.mem.blkUe = [] → a + 96 ≤ 2 ^ 36 → s.mem.dramPoison = [] → ¬ good → Does (.clearTamper r) s (fun u => ends ccSigFail u ∧ quiet u ∧ u.vlt.nonce = none ∧
        u.on RIME_TAMP.C1 = s.on RIME_TAMP.C1))) ∧
    (s.on VLT_STATUS.PROVISIONED = false → Does (.certSet r) s (fun u => ends ccDenied u ∧ quiet u ∧ u.vlt = s.vlt)) ∧
    (s.on VLT_STATUS.PROVISIONED = true → (4096 < len → Does (.certSet r) s (fun u => ends ccRange u ∧ quiet u ∧ u.vlt = s.vlt)) ∧
      (len ≤ 4096 → 2 ^ 36 < a + len → Does (.certSet r) s (fun u => ends ccDenied u ∧ quiet u ∧ u.vlt = s.vlt ∧
        u.on SYS_EVT.ACCESS_FAULT = true))) ∧
    (s.on VLT_STATUS.PROVISIONED = true → len ≤ 4096 → a + len ≤ 2 ^ 36 → s.mem.dramPoison = [] → Does (.certSet r) s (fun u =>
      ends ccOk u ∧ quiet u ∧ u.vlt.cert = s.dramBytes a len))

/-- The commands and events of the CAN ports (R440 to R448). -/
def Obligations.CanPorts : Prop :=
  ∀ (s : State) (r : Req) (v : Word) (n tec rec lec : Nat) (cf : CanFrame) (f : LFrame) (st : CanState), n < 4 →
    let still (i : Instr) : Prop := Does i s (fun u => u = s.silent)
    let quiet (u : State) : Prop := SameGnor u s ∧ SameMem u s
    let x := v.toNat
    let d0 := s.rd CAN_DATA0.VALUE
    let addr := s.rd CAN_KEY.VALUE + 2 ^ 32 * (d0 % 256)
    let len := d0 / 256 % 2 ^ 14
    let p := d0 / 2 ^ 22 % 4
    let ns := s.rd CAN_DATA3.VALUE
    let at' := (s.rd CAN_DATA1.VALUE + 2 ^ 32 * (s.rd CAN_DATA2.VALUE % 65536)) * 1000000000 + ns
    let late := decide (d0 / 2 ^ 24 % 2 = 1)
    let frame := s.dramBytes addr len
    let bad := 2 ^ 25 ≤ d0 ∨ addr % 8 ≠ 0 ∨ 2 ^ 36 < addr + len ∨ len = 0 ∨ 9216 < len ∨ 1000000000 ≤ ns ∨
      (at' ≠ 0 ∧ s.netNs + 16000000000 < at') ∨ s.canRange p frame = true
    let past := at' ≠ 0 ∧ at' < s.netNs ∧ late = false
    let full := s.lqRoom (16 + p) len = false
    let denied := s.on (CAN_CTRL.EN p) = false ∨ s.on (CAN_CTRL.LISTEN p) = true ∨ (txFlag frame 0 = true ∧ s.gate 3 = false)
    let ends (cc : Nat) (u : State) : Prop := Done u CAN_STAT.addr CAN_EVT.CMD_DONE cc ∧ quiet u
    let size := s.rd (CAN_RX_SIZE.SIZE n)
    let head := s.rd (CAN_RX_HEAD.HEAD n)
    let base := s.rd (CAN_RX_LO.BASE_LO n) * 64 + s.rd (CAN_RX_HI.BASE_HI n) * 2 ^ 32
    let enters := s.on (CAN_CTRL.ACCEPT_ALL n) = true ∨ ∃ k < 32, s.on (CAN_FLT_ID.EN n k) = true ∧
      s.on (CAN_FLT_ID.IDE n k) = cf.ide ∧ (cf.id ^^^ s.rd (CAN_FLT_ID.ID n k)) &&& s.rd (CAN_FLT_MASK.MASK n k) = 0
    let takes := s.rdy 22 = true ∧ s.on (CAN_CTRL.EN n) = true ∧ (cf.fdf = true → s.on (CAN_CTRL.FD n) = true) ∧ enters
    let result (code : Nat) (u : State) : Prop := quiet u ∧ u.rd (CAN_TXST.RESULT n) = code ∧ (u.can' n).tx = none ∧
      u.rd (CAN_TXTKT.TICKET n) = f.ticket % 2 ^ 32 ∧ u.lq (16 + n) = s.lq (16 + n) ∧
      (code = 0 → u.rd (CAN_TXCNT.SENT n) = min (s.rd (CAN_TXCNT.SENT n) + 1) 65535) ∧
      (code ≠ 0 → u.rd (CAN_TXCNT.FAIL n) = min (s.rd (CAN_TXCNT.FAIL n) + 1) 65535 ∧ u.on (canEvt CAN_EVT.TX_FAIL n) = true)
    let t := if n < 2 then (s.wr (CAN_CTRL.TRIPLE n) (x / 2)).wr (CAN_CTRL.FD n) (x / 4) else s.wr (CAN_CTRL.FD n) (x / 4)
    (Takes s 11 CAN_STAT.addr →
      (s.rdy 4 = false → Does (.canSend r) s (fun u => ends ccBusy u ∧ u.time = s.time)) ∧
      (s.rdy 4 = true → NoErr s →
        (bad → Does (.canSend r) s (fun u => ends ccRange u ∧ u.time = s.time)) ∧
        (¬ bad → denied → Does (.canSend r) s (fun u => ends ccDenied u ∧ u.time = s.time)) ∧
        (¬ bad → ¬ denied → past → Does (.canSend r) s (fun u => ends ccLate u ∧ u.time = s.time)) ∧
        (¬ bad → ¬ denied → ¬ past → full → Does (.canSend r) s (fun u => ends ccFull u ∧ u.time = s.time)) ∧
        (¬ bad → ¬ denied → ¬ past → ¬ full → Does (.canSend r) s (fun u => ends ccOk u ∧
          u.rd CAN_DATA0.VALUE = s.time.ticket % 2 ^ 32 ∧ (∀ q, q ≠ 16 + p → u.lq q = s.lq q) ∧
          u.lq (16 + p) = lqInsert ⟨s.time.ticket, if at' = 0 then none else some at', late, frame⟩ (s.lq (16 + p)))))) ∧
    (s.blkReady 11 = true →
      Does (.canEnable r n v) s (fun u => quiet u ∧ u.on (CAN_CTRL.ACCEPT_ALL n) = v.getLsbD 3 ∧ u.on (CAN_CTRL.TERM n) = v.getLsbD 5 ∧
        (s.on (CAN_CTRL.EN n) = false → u.on (CAN_CTRL.FD n) = v.getLsbD 2 ∧ u.on (CAN_CTRL.LISTEN n) = v.getLsbD 4) ∧
        (s.on (CAN_CTRL.EN n) = true → u.on (CAN_CTRL.FD n) = s.on (CAN_CTRL.FD n) ∧
          u.on (CAN_CTRL.LISTEN n) = s.on (CAN_CTRL.LISTEN n) ∧ u.on (CAN_CTRL.TRIPLE n) = s.on (CAN_CTRL.TRIPLE n)) ∧
        (v.getLsbD 0 = false → u.on (CAN_CTRL.EN n) = false ∧ u.lq (16 + n) = [] ∧ ∀ q, q ≠ 16 + n → u.lq q = s.lq q) ∧
        (v.getLsbD 0 = true → s.on (CAN_CTRL.EN n) = true → u.on (CAN_CTRL.EN n) = true) ∧
        (v.getLsbD 0 = true → s.on (CAN_CTRL.EN n) = false → t.canCfgOk n = true → u.on (CAN_CTRL.EN n) = true ∧
          u.rd (CAN_RX_HEAD.HEAD n) = 0 ∧ u.rd (CAN_RX_TAIL.TAIL n) = 0) ∧
        (v.getLsbD 0 = true → s.on (CAN_CTRL.EN n) = false → t.canCfgOk n = false → u.on (CAN_CTRL.EN n) = false ∧
          u.on (canEvt CAN_EVT.CFG_ERR n) = true)) ∧
      (size ≤ x % 4096 → still (.rxTailWrite r n v)) ∧
      (x % 4096 < size → Does (.rxTailWrite r n v) s (fun u => quiet u ∧ u.rd (CAN_RX_TAIL.TAIL n) = x % 4096))) ∧
    (¬ takes → still (.canRx n cf)) ∧
    (takes → size ≠ 0 → size ≤ 4096 →
      ((head + 1) % size = s.rd (CAN_RX_TAIL.TAIL n) → Does (.canRx n cf) s (fun u => quiet u ∧ u.rd (CAN_RX_HEAD.HEAD n) = head ∧
        u.rd (CAN_RX_DROP.COUNT n) = (s.rd (CAN_RX_DROP.COUNT n) + 1) % 2 ^ 32 ∧ u.on (canEvt CAN_EVT.RX_OVF n) = true)) ∧
      ((head + 1) % size ≠ s.rd (CAN_RX_TAIL.TAIL n) → NoErr s → base + 80 * head + 80 ≤ 2 ^ 36 →
        (∀ e, base + 80 * head ≤ e → e < base + 80 * head + 80 → s.protectedAt e = false ∧ s.planeOff e = none) →
        Does (.canRx n cf) s (fun u => SameGnor u s ∧ u.rd (CAN_RX_HEAD.HEAD n) = (head + 1) % size ∧ u.on (canEvt CAN_EVT.RX n) = true ∧
          (∀ i < 80, SMap.get zeroByte u.mem.dram (base + 80 * head + i) = (canRecord cf s.netNs).getD i 0) ∧
          ∀ e, e < base + 80 * head ∨ base + 80 * head + 80 ≤ e → SMap.get zeroByte u.mem.dram e = SMap.get zeroByte s.mem.dram e))) ∧
    ((s.can' n).tx = none → ∀ o, still (.txAttemptEnd n o)) ∧
    ((s.can' n).tx = some f → Does (.txAttemptEnd n .acked) s (result 0) ∧
      ∀ o c, (o = TxOutcome.lostArbitration ∧ c = 1) ∨ (o = TxOutcome.error lec ∧ c = 2) →
        (txFlag f.data 1 = true → Does (.txAttemptEnd n o) s (result c)) ∧
        (txFlag f.data 1 = false → s.on (CAN_CTRL.EN n) = false → Does (.txAttemptEnd n o) s (result 5)) ∧
        (txFlag f.data 1 = false → s.on (CAN_CTRL.EN n) = true → txFlag f.data 0 = true → s.gate 3 = false →
          Does (.txAttemptEnd n o) s (result 4)) ∧
        (txFlag f.data 1 = false → s.on (CAN_CTRL.EN n) = true → txFlag f.data 0 = false ∨ s.gate 3 = true →
          Does (.txAttemptEnd n o) s (fun u => quiet u ∧ (u.can' n).tx = none ∧ u.lq (16 + n) = f :: s.lq (16 + n) ∧
            (c = 2 → u.rd (CAN_ERR.LEC n) = lec % 8)))) ∧
    (s.rdy 22 = false → still (.busOff n tec rec lec st)) ∧
    (s.rdy 22 = true → Does (.busOff n tec rec lec st) s (fun u => quiet u ∧ u.rd (CAN_ERR.TEC n) = min tec 255 ∧
      u.rd (CAN_ERR.REC n) = min rec 127 ∧ u.on (CAN_ERR.RP n) = decide (128 ≤ rec) ∧ u.rd (CAN_ERR.LEC n) = lec % 8 ∧
      u.rd (CAN_ERR.STATE n) = canStateCode st ∧
      (s.rd (CAN_ERR.STATE n) ≠ canStateCode st → u.on (canEvt CAN_EVT.STATE n) = true) ∧
      (st = .busOff → s.rd (CAN_ERR.STATE n) ≠ 2 → (u.can' n).tx = none ∧ (s.rails = true → s.on RIME_ICE_CFG.H2 = false →
        s.ice.buf.length < 910 → s.faults.cur = none → ∃ y, u.ice.buf = s.ice.buf ++ [y] ∧ y.trigger = 1 ∧ y.source = 128))))

/-- The ICF commands (R424, R425, R428, R430, R432, R433, R437). -/
def Obligations.IcefallCommands : Prop :=
  ∀ (s : State) (r : Req), Takes s 15 ICF_STAT.addr →
    let ends (cc : Nat) (u : State) : Prop := Done u ICF_STAT.addr ICF_EVT.CMD_DONE cc ∧ SameGnor u s ∧ SameMem u s
    let fails (i : Instr) (cc : Nat) : Prop := Does i s (fun u => ends cc u ∧ u.icf = s.icf)
    let key := s.rd ICF_KEY.VALUE
    let k := key % 8
    let floe := key % 2 = 1
    let a := key / 2 % 2
    let e := key % 4
    let sec := s.rd ICF_DATA0.VALUE + s.rd ICF_DATA1.VALUE % 65536 * 2 ^ 32
    let near := sec * 1000000000 < s.netNs + 10000000000 ∨ s.netNs + 604800000000000 < sec * 1000000000
    let ver := s.rd (ICF_SLOT_VER.VERSION a)
    let cores := (List.range 32).filter (fun c => key / 2 ^ c % 2 == 1)
    let held := ∃ c ∈ cores, ∃ j < 4, ∃ p, s.prim (4 * c + j) = some p ∧ ∀ x y, p ≠ .wait x y
    let load := s.loadImage (s.programOf 2 (some cores))
    let n := s.rd ICF_DATA0.VALUE % 256
    let partner := s.on PAIR_STATUS.PEER_ALIVE = true ∧ s.peer (·.mode == 1) = true
    let header (p j : Nat) : OutMsg := .relay (s.relayPort p) (.header s.ownIndex (hdrId (s.storeOf j).header) (s.storeOf j).header)
    let barred := s.on (ICF_SLOT.RUNNING e) = true ∨ (s.on (ICF_SLOT.NEXT e) = true ∧ s.icf.act ≠ none)
    (s.leads = false → fails (.relay r) ccDenied) ∧
    (s.leads = true → s.slotValid k = false → fails (.relay r) ccNotFound) ∧
    (s.leads = true → s.slotValid k = true → s.icf.job ≠ none → fails (.relay r) ccBusy) ∧
    (s.leads = true → s.slotValid k = true → s.icf.job = none → Does (.relay r) s (fun u => ends ccOk u ∧
      u.icf.job = some ⟨k, 0, [2, 3]⟩ ∧ header 2 k ∈ u.out ∧ header 3 k ∈ u.out)) ∧
    (floe → s.leads = false → fails (.activate r) ccDenied) ∧
    ((floe → s.leads = true) → (near → fails (.activate r) ccRange) ∧
      (¬ near → s.slotValid a = false → fails (.activate r) ccNotFound) ∧
      (¬ near → s.slotValid a = true → s.notRolledBack (s.storeOf a).header = false → fails (.activate r) ccRollback) ∧
      (¬ near → s.slotValid a = true → s.notRolledBack (s.storeOf a).header = true → s.icf.act ≠ none → fails (.activate r) ccBusy) ∧
      (¬ near → s.slotValid a = true → s.notRolledBack (s.storeOf a).header = true → s.icf.act = none → Does (.activate r) s (fun u =>
        ends ccOk u ∧ (∃ b, u.icf.act = some ⟨b, ver, false, false⟩ ∧ (b = true ↔ floe)) ∧ u.rd64 ICF_ACT_LO.S_LO ICF_ACT_HI.S_HI = sec ∧
        u.rd ICF_ACT_HI.SLOT = a ∧ u.on ICF_ACT_HI.PENDING = true ∧ u.rd (ICF_SLOT.FAILS a) = 0 ∧ u.on ICF_EVT.ACT_PENDING = true ∧
        (floe → u.out = [.relay (s.relayPort 2) (.act s.ownIndex a sec ver), .relay (s.relayPort 3) (.act s.ownIndex a sec ver)]) ∧
        (¬ floe → s.on PAIR_STATUS.PAIRED = true → u.out = [.actPartner a sec]) ∧
        (¬ floe → s.on PAIR_STATUS.PAIRED = false → u.out = [])))) ∧
    (s.icf.act = none → fails (.actCancel r) ccNotFound) ∧
    (∀ x, s.icf.act = some x → s.actOpen = false → fails (.actCancel r) ccLate) ∧
    (∀ x, s.icf.act = some x → s.actOpen = true → Does (.actCancel r) s (fun u => ends ccOk u ∧ u.icf.act = none ∧
      u.on ICF_ACT_HI.PENDING = false ∧ (x.floe = true → u.out = [.relay (s.relayPort 2) (.actCancel s.ownIndex),
        .relay (s.relayPort 3) (.actCancel s.ownIndex)]) ∧ (x.floe = false → u.out = [.relay 4 (.actCancel s.ownIndex)]))) ∧
    (s.slotValid 2 = false → fails (.progLoad r) ccNotFound) ∧
    (s.slotValid 2 = true → held → fails (.progLoad r) ccDenied) ∧
    (s.slotValid 2 = true → ¬ held → load.1 ≠ ccOk → fails (.progLoad r) load.1) ∧
    (s.slotValid 2 = true → ¬ held → load.1 = ccOk → Does (.progLoad r) s (fun u => Done u ICF_STAT.addr ICF_EVT.CMD_DONE ccOk ∧
      u.mem = load.2.mem ∧ u.gnor = load.2.gnor ∧ u.icf = s.icf ∧
      u.rd (ICF_AR.VERSION 1) = max (s.rd (ICF_AR.VERSION 1)) (s.rd (ICF_SLOT_VER.VERSION 2)))) ∧
    ((∀ j, s.runningSlot = some j → s.on (ICF_SLOT.CONFIRMED j) = true → n < s.rd ICF_SVN.COUNT ∨ s.rd (ICF_SLOT.SVN j) < n) →
      fails (.svnBurn r) ccRange) ∧
    (∀ j, s.runningSlot = some j → s.on (ICF_SLOT.CONFIRMED j) = true → s.rd ICF_SVN.COUNT ≤ n → n ≤ s.rd (ICF_SLOT.SVN j) →
      Does (.svnBurn r) s (fun u => ends ccOk u ∧ u.icf = s.icf ∧ u.rd ICF_SVN.COUNT = n)) ∧
    (¬ partner → fails (.pushPartner r) ccDenied) ∧
    (partner → s.icf.job ≠ none → fails (.pushPartner r) ccBusy) ∧
    (partner → s.icf.job = none → s.runningSlot = none → fails (.pushPartner r) ccDenied) ∧
    (∀ j, partner → s.icf.job = none → s.runningSlot = some j → Does (.pushPartner r) s (fun u => ends ccOk u ∧
      u.icf.job = some ⟨j, 0, [4]⟩ ∧ header 4 j ∈ u.out)) ∧
    (e = 3 → fails (.slotErase r) ccRange) ∧
    (e < 3 → barred → fails (.slotErase r) ccDenied) ∧
    (e < 3 → ¬ barred → Does (.slotErase r) s (fun u => ends ccOk u ∧ u.storeOf e = {} ∧ u.rd (ICF_SLOT.STATE e) = 0 ∧
      u.rd (ICF_SLOT.FAILS e) = 0 ∧ u.on (ICF_SLOT.CONFIRMED e) = false ∧ u.rd (ICF_SLOT_VER.VERSION e) = 0 ∧
      (∀ j, j ≠ e → u.storeOf j = s.storeOf j) ∧ (∀ x, s.icf.rx = some x → x.slot = e → u.icf.rx = none) ∧
      (∀ x, s.icf.rx = some x → x.slot ≠ e → u.icf.rx = some x)))

/-- The receipt, the relay and the activation of images (R423 to R432). -/
def Obligations.IcefallEvents : Prop :=
  ∀ (s : State) (port src id i part slot sec ver : Nat) (d : List Byte) (r : Receipt), port < 5 → slot < 2 → sec < 2 ^ 48 →
    let still (j : Instr) : Prop := Does j s (fun u => u = s.silent)
    let quiet (u : State) : Prop := SameGnor u s ∧ SameMem u s
    let utters (u : State) (p : Nat) (m : RelayMsg) : Prop := OutMsg.relay (s.relayPort p) m ∈ u.out
    let takes := s.relayFrom port = true
    let room (e m : Nat) : Prop := NoErr s ∧ e + m ≤ 2 ^ 36 ∧ ∀ z, e ≤ z → z < e + m → s.protectedAt z = false ∧ s.planeOff z = none
    let target := s.rxSlot (hdrKind d)
    let k := target.2
    let new := takes ∧ s.icf.rx = none ∧ s.hasImage id = false ∧ d.length = 4096 ∧ hdrId d = id
    let x := s.storeOf r.slot
    let c := hdrChunks x.header
    let gets := takes ∧ s.icf.rx = some r ∧ r.id = id ∧ r.source ≠ 1 ∧ r.slot < 5
    let ps := SMap.set r.leafParts part d
    let leaves := (((List.range (divUp (48 * c) 8192)).map (fun n => (SMap.get? ps n).getD [])).flatten).take (48 * c)
    let key (n : Nat) : Nat := (8 * i + n) * 3 + dirOf port
    let qs := SMap.set r.parts (key part) d
    let whole := ∀ n < 8, SMap.get? qs (key n) ≠ none
    let w := ((List.range 8).map (fun n => (SMap.get? qs (key n)).getD [])).flatten
    let right := w.length = 65536 ∧ sha384 w = cut x.leaves (48 * i) 48
    let y := SMap.set x.chunks i (if r.slot < 3 then w else [])
    let wants := gets ∧ r.ok = true ∧ part < 8 ∧ i < c ∧ SMap.get? x.chunks i = none ∧ r.stopped.contains (dirOf port) = false
    let count := SMap.get (fun _ => 0) r.fails (3 * i + dirOf port) + 1
    let gone := port = 4 ∨ (∀ q < 2, (NSet.add r.stopped (dirOf port)).contains q = true)
    let ended (u : State) : Prop := u.icf.rx = none ∧ u.on ICF_RX.ACTIVE = false
    let asleep (u : State) : Prop := u.mode = 1 ∧ u.holds = false ∧ u.icf.act = none ∧ u.icf.rx = none ∧ u.on SYS_EVT.MODE_CHANGED = true
    let restarted (j : Nat) (u : State) : Prop := asleep u ∧ (j < 2 → u.bootNext = j ∧ u.rd (ICF_SLOT.FAILS j) = 0)
    let sl := s.rd ICF_ACT_HI.SLOT
    let good := s.slotValid sl = true ∧ s.imageGood sl = true
    (¬ new → still (.header port src id d)) ∧
    (new → hdrShape d = false ∨ target.1 ≠ ccOk → still (.header port src id d)) ∧
    (new → hdrShape d = true → target.1 = ccOk → s.headerCode d = ccOk → k < 3 ∨ room (s.nodeArea k) 4096 → Does (.header port src id d) s (fun u => SameGnor u s ∧
      u.icf.rx = some ⟨k, port, false, 0, [], id, [], [], [], []⟩ ∧ u.storeOf k = { header := d } ∧ u.on ICF_RX.ACTIVE = true ∧
      u.rd ICF_RX.SOURCE = port ∧ u.rd ICF_RX.DONE = 0 ∧ (k < 3 → SameMem u s ∧ u.rd (ICF_SLOT.STATE k) = 1 ∧
        u.rd (ICF_SLOT.FAILS k) = 0 ∧ u.on (ICF_SLOT.CONFIRMED k) = false ∧ u.rd (ICF_SLOT_VER.VERSION k) = hdrVersion d) ∧
      ∀ p ∈ opposite port, utters u p (.header s.ownIndex id d))) ∧
    (new → hdrShape d = true → target.1 = ccOk → s.headerCode d ≠ ccOk → Does (.header port src id d) s (fun u => quiet u ∧ ended u ∧
      (k < 3 → u.rd (ICF_SLOT.STATE k) = 3))) ∧
    (¬ takes ∨ s.icf.rx = none → still (.leaves port src id part d) ∧ still (.chunk port src id i part d)) ∧
    (s.icf.rx = some r → r.id ≠ id ∨ r.source = 1 → still (.leaves port src id part d) ∧ still (.chunk port src id i part d)) ∧
    (s.icf.rx = some r → r.ok = true → still (.leaves port src id part d)) ∧
    (gets → r.ok = false → leaves.length < 48 * c → Does (.leaves port src id part d) s (fun u => quiet u ∧ u.regs = s.regs ∧
      u.icf = { s.icf with rx := some { r with leafParts := ps } })) ∧
    (gets → r.ok = false → leaves.length = 48 * c → sha384 leaves ≠ hdrRoot x.header → Does (.leaves port src id part d) s (fun u =>
      quiet u ∧ ended u ∧ (r.slot < 3 → u.rd (ICF_SLOT.STATE r.slot) = 3))) ∧
    (gets → r.ok = false → leaves.length = 48 * c → sha384 leaves = hdrRoot x.header → x.chunks.length < c →
      r.slot < 3 ∨ room (s.nodeArea r.slot + 4096) (48 * c) →
      Does (.leaves port src id part d) s (fun u => SameGnor u s ∧ (r.slot < 3 → SameMem u s) ∧ u.on ICF_EVT.HDR_OK = true ∧
        u.icf.rx = some { r with leafParts := [], ok := true } ∧ (u.storeOf r.slot).leaves = leaves ∧
        (∀ p ∈ opposite port, ∀ q ∈ partsOf leaves, utters u p (.leaves s.ownIndex id q.1 q.2)) ∧
        (s.leads = true → s.on ICF_CTRL.RELAY_EN = true → (s.icf.job = none → u.icf.job = some ⟨r.slot, 0, [2, 3]⟩) ∧
          (s.icf.job ≠ none → u.icf.job = s.icf.job ∧ u.icf.jobs = s.icf.jobs ++ [⟨r.slot, 0, [2, 3]⟩])))) ∧
    (s.icf.rx = some r → r.ok = false → still (.chunk port src id i part d)) ∧
    (wants → ¬ whole → Does (.chunk port src id i part d) s (fun u => quiet u ∧ u.regs = s.regs ∧
      u.icf = { s.icf with rx := some { r with parts := qs } })) ∧
    (wants → whole → right → (r.slot < 3 → y.length < c → Does (.chunk port src id i part d) s (fun u => quiet u ∧
        u.storeOf r.slot = { x with chunks := y } ∧ u.rd ICF_RX.DONE = y.length % 4096 ∧
        u.icf.queue = s.icf.queue ++ (opposite port).map (fun p => (r.slot, i, p)))) ∧
      (c ≤ y.length → (s.mode ≠ 1 ∨ 2 ≤ r.slot) → r.slot < 3 ∨ room (s.chunkAddr r.slot i) 65536 → Does (.chunk port src id i part d) s (fun u => SameGnor u s ∧ ended u ∧
        u.on ICF_EVT.IMG_DONE = true ∧ (r.slot < 3 → SameMem u s ∧ u.rd (ICF_SLOT.STATE r.slot) = 2))) ∧
      (c ≤ y.length → s.mode = 1 → r.slot < 2 → Does (.chunk port src id i part d) s (fun u => restarted r.slot u ∧
        u.rd (ICF_SLOT.STATE r.slot) = 2))) ∧
    (wants → whole → ¬ right → Does (.chunk port src id i part d) s (fun u => quiet u ∧ utters u port (.nack s.ownIndex id i) ∧
      (count < 3 → ∃ z, u.icf.rx = some z ∧ SMap.get (fun _ => 0) z.fails (3 * i + dirOf port) = count ∧ z.stopped = r.stopped) ∧
      (3 ≤ count → u.on ICF_EVT.CHUNK_FAIL = true) ∧
      (3 ≤ count → ¬ gone → ∃ z, u.icf.rx = some z ∧ z.stopped = NSet.add r.stopped (dirOf port)) ∧
      (3 ≤ count → gone → ended u ∧ (r.slot < 3 → u.rd (ICF_SLOT.STATE r.slot) = 3)))) ∧
    (∀ n < 5, s.rdy 25 = true → (∀ m < n, ¬ (hdrId (s.storeOf m).header = id ∧ s.hasChunk m i = true)) →
      hdrId (s.storeOf n).header = id → s.hasChunk n i = true → Does (.nack port src id i) s (fun u => quiet u ∧ u.regs = s.regs ∧
        u.icf = { s.icf with queue := s.icf.queue ++ [(n, i, port)] })) ∧
    (s.rdy 25 = false ∨ (∀ m < 5, ¬ (hdrId (s.storeOf m).header = id ∧ s.hasChunk m i = true)) → still (.nack port src id i)) ∧
    (s.actFrom src = false ∨ (s.on ICF_ACT_HI.PENDING = true ∧ s.actSec = sec ∧ sl = slot) → still (.act src slot sec ver)) ∧
    (s.actFrom src = true → ¬ (s.on ICF_ACT_HI.PENDING = true ∧ s.actSec = sec ∧ sl = slot) → Does (.act src slot sec ver) s (fun u =>
      quiet u ∧ u.icf.act = some ⟨s.isLead src, ver, false, false⟩ ∧ u.on ICF_ACT_HI.PENDING = true ∧ u.actSec = sec ∧
      u.rd ICF_ACT_HI.SLOT = slot ∧ u.rd (ICF_SLOT.FAILS slot) = 0 ∧ u.on ICF_EVT.ACT_PENDING = true ∧
      (s.isLead src = true → utters u 2 (.act src slot sec ver) ∧ utters u 3 (.act src slot sec ver)) ∧
      (s.isLead src = false → ∀ p m, OutMsg.relay p m ∉ u.out))) ∧
    (s.actFrom src = false ∨ s.icf.act = none ∨ s.actOpen = false → still (.relayActCancel src)) ∧
    (s.actFrom src = true → s.icf.act ≠ none → s.actOpen = true → Does (.relayActCancel src) s (fun u => quiet u ∧ u.icf.act = none ∧
      u.on ICF_ACT_HI.PENDING = false ∧
      (s.isLead src = true → utters u 2 (.actCancel src) ∧ utters u 3 (.actCancel src)) ∧
      (s.isLead src = false → ∀ p m, OutMsg.relay p m ∉ u.out))) ∧
    (s.icf.act = none → still .actCheck ∧ still .activation ∧ still .actPartnerTimeout) ∧
    (∀ a, s.icf.act = some a →
      (a.checked = true → still .actCheck) ∧
      (a.checked = false → good → s.rd (ICF_SLOT_VER.VERSION sl) = a.version → Does .actCheck s (fun u => quiet u ∧ s.now ≤ u.now ∧
        u.regs = s.regs ∧ u.icf.act = some { a with checked := true })) ∧
      (a.checked = false → ¬ (good ∧ s.rd (ICF_SLOT_VER.VERSION sl) = a.version) → Does .actCheck s (fun u => quiet u ∧
        u.icf.act = none ∧ u.on ICF_ACT_HI.PENDING = false ∧ u.on ICF_EVT.ACT_FAIL = true)) ∧
      (a.checked = true → s.on PAIR_STATUS.PAIRED = false ∨ s.holds = false → Does .activation s (restarted sl)) ∧
      (a.checked = true → s.on PAIR_STATUS.PAIRED = true → s.holds = true → s.partnerReady = false →
        ((s.storeOf sl).header.getD 28 0).toNat = s.pairMaj → Does .activation s (fun u => quiet u ∧
          u.icf.act = some { a with waits := true } ∧ s.now ≤ u.now)) ∧
      (a.waits = false → still .actPartnerTimeout) ∧
      (a.waits = true → Does .actPartnerTimeout s (restarted sl))) ∧
    (s.icf.runFrom = none ∨ s.runningSlot = none → still .confirmed) ∧
    (∀ n j, s.icf.runFrom = some n → s.runningSlot = some j → Does .confirmed s (fun u => quiet u ∧ u.icf.runFrom = none ∧
      u.now = max s.now (s.time.up + (n + 800000000 * s.rd ICF_CTRL.CONFIRM)) ∧ u.rd (ICF_SLOT.FAILS j) = 0 ∧
      u.on (ICF_SLOT.CONFIRMED j) = true ∧ u.on ICF_EVT.CONFIRMED = true ∧
      u.rd (ICF_AR.VERSION 0) = max (s.rd (ICF_AR.VERSION 0)) (s.rd (ICF_SLOT_VER.VERSION j)) ∧
      u.rd ICF_SVN.COUNT = if s.on ICF_CTRL.SVN_AUTO then max (s.rd ICF_SVN.COUNT) (s.rd (ICF_SLOT.SVN j)) else s.rd ICF_SVN.COUNT)) ∧
    (s.rdy 25 = false ∨ (s.icf.queue = [] ∧ s.icf.job = none) → still .relayChunkSend) ∧
    (∀ n p rest b, s.rdy 25 = true → s.icf.queue = (n, i, p) :: rest → s.chunkOf n i = some b → Does .relayChunkSend s (fun u =>
      SameGnor u s ∧ (n < 3 ∨ NoCe s → SameMem u s) ∧ u.icf.queue = rest ∧ max s.now (s.time.up + s.icf.relayAt) = u.now ∧ u.icf.relayAt = u.ctr + s.relayGap ∧
      (chunkGood (s.storeOf n).leaves i b = true →
        u.out = (partsOf b).map (fun q => .relay (s.relayPort p) (.chunk s.ownIndex (hdrId (s.storeOf n).header) i q.1 q.2))) ∧
      (chunkGood (s.storeOf n).leaves i b = false → u.out = []))) ∧
    (∀ j, s.rdy 25 = true → s.icf.queue = [] → s.icf.job = some j →
      let all := hdrChunks (s.storeOf j.slot).header
      let follows (u : State) : Prop := u.icf.job = s.icf.jobs.head? ∧ u.icf.jobs = s.icf.jobs.tail
      (all ≤ j.next → Does .relayChunkSend s (fun u => quiet u ∧ u.regs = s.regs ∧ u.out = [] ∧ follows u)) ∧
      (j.next < all → s.hasChunk j.slot j.next = false → still .relayChunkSend) ∧
      (∀ b, j.next < all → s.chunkOf j.slot j.next = some b → Does .relayChunkSend s (fun u => SameGnor u s ∧
        (j.slot < 3 ∨ NoCe s → SameMem u s) ∧ (all ≤ j.next + 1 → follows u) ∧
        (j.next + 1 < all → u.icf.job = some { j with next := j.next + 1 } ∧ u.icf.jobs = s.icf.jobs) ∧
        (chunkGood (s.storeOf j.slot).leaves j.next b = true → ∀ p ∈ j.ports, ∀ q ∈ partsOf b,
          utters u p (.chunk s.ownIndex (hdrId (s.storeOf j.slot).header) j.next q.1 q.2)) ∧
        (chunkGood (s.storeOf j.slot).leaves j.next b = false → u.out = []))))

/-- The reset state: register values by their tables, the rest by log entries 5 and 14 of the model. -/
def Obligations.ResetState : Prop :=
  let s := State.reset
  s.pending = [] ∧ s.mode = 1 ∧ s.holds = false ∧ s.rails = true ∧ (∀ b < 26, s.rdy b = false) ∧ (∀ a, s.reg a = resetOf a) ∧
    (∀ k < 16, (s.reg (blockBase k + 12)).toNat = 0x200 ∧ (s.reg (blockBase k + 4)).toNat = 0) ∧
    (∀ t < 128, s.thState t = thStopped) ∧ reservedZero s ∧ Mem.wf s.mem = true ∧ NoErr s ∧ s.mem.blkUe = [] ∧ s.mem.blkCe = [] ∧ s.mem.dcache = [] ∧
    (∀ n, (s.slot n).key = []) ∧ (∀ k, s.storeOf k = {}) ∧ (∀ q, s.lq q = []) ∧ s.out = [] ∧
    s.rd SYS_BOOT.TARGET = 2 ∧ s.rd FIRN_DERATE_CFG.DWELL = 10 ∧ s.rd SAST_SUPERVISION.TIMEOUT = 300 ∧ s.rd MELT_CTRL.INTERVAL = 15 ∧
    s.on TIME_CTRL.SERVO = true ∧ s.on TIME_SYNC.STEP_ARMED = true ∧ s.rd SNOW_POOL.FREE = 192512 ∧ s.rd PAIR_WDOG.TIMEOUT = 8 ∧
    s.rd RIME_CTRL.SAMPLE = 10 ∧ s.rd RIME_ICE_HEAD.HEAD = 14336 ∧ s.rd CRQ_SHUT.TRIP = 120 ∧ s.rd ICF_CTRL.RELAY_RATE = 20 ∧
    s.rd MOR_CTRL.REBUILD_PCT = 10

/-- The encodings of R143 to R150, R156, R159, R167 and R419: the decoder drops no bit of a word. -/
def Obligations.GnorRoundTrip : Prop :=
  (∀ (t : Tid) (w : BitVec 32) (i : Instr), decodeGnor t w = some i → encode i = w ∧ decodeGnor t (encode i) = some i) ∧
  (∀ (t : Tid) (rd ra rb : GReg) (wd wa wb : WReg) (imm : Imm16) (off : BitVec 26) (k : BitVec 4) (n : BitVec 6),
    (∀ i ∈ [Instr.add t rd ra rb, .popc t rd ra, .addi t rd ra imm, .lui t rd imm, .srai t rd ra n, .mul t rd ra rb, .lb t rd ra imm,
        .sd t rd ra imm, .aswpd t rd ra rb, .flush t ra imm, .inval t ra imm, .beq t rd ra imm, .bccz t imm, .j t off, .jalr t rd ra imm,
        .wld t wd ra imm, .wadd t wd wa wb, .wlerp t wd wa wb k, .wsll t wd wa k, .wsum t rd wa, .mfs t rd ra, .mts t rd ra, .trap t rb,
        .qpush t ra rb wd, .commit t wd, .wait t rd ra, .log t ra rb wd, .info t rd ra rb wd],
      decodeGnor t (encode i) = some i)) ∧
  ∀ t : Tid, decodeGnor t 0x1020012C#32 = some (.addi t 1 0 300) ∧ decodeGnor t 0xEC042800#32 = some (.surge t 4 5) ∧
    decodeGnor t 0xC99400C5#32 = some (.wlerp t 3 1 2 5) ∧ decodeGnor t 0x00000013#32 = none ∧ decodeGnor t 0xFFFFFFFF#32 = none

/-- The invariant `reservedZero` is kept by every instruction that acts on a core alone (major opcodes 0x00 to 0x0C, 0x1C, 0x1D,
0x20 to 0x2A, 0x32, 0x3C and 0x3D). -/
def Obligations.ReservedBitsStayZero : Prop :=
  ∀ (t : Tid) (w : BitVec 32) (i : Instr) (s u : State), decodeGnor t w = some i →
    w.toNat / 2 ^ 26 ≤ 0x0C ∨ w.toNat / 2 ^ 26 ∈ [0x1C, 0x1D] ∨ (0x20 ≤ w.toNat / 2 ^ 26 ∧ w.toNat / 2 ^ 26 ≤ 0x2A) ∨
      w.toNat / 2 ^ 26 ∈ [0x32, 0x3C, 0x3D] →
    reservedZero s → step { s with pending := i :: s.pending } = .next u → reservedZero u

end
end

