-- ==== Sys2Proof/Laws/Sparse.lean ====
section
/-!
SUPPORT. Sys2Proof/Laws/Sparse.lean: the laws of sparse tables: a read after a write, and the canonical form kept.
-/

namespace Sys2Proof.Machine

variable {β : Type}

theorem SMap.get_erase_same (d : Nat → β) (m : SMap β) (k : Nat) : SMap.get d (SMap.erase m k) k = d k := by
  induction m with
  | nil => rfl
  | cons p m ih => obtain ⟨a, v⟩ := p; by_cases h : a = k <;> simp [SMap.erase, SMap.get, h, ih]

theorem SMap.get_erase_ne (d : Nat → β) (m : SMap β) {k j : Nat} (hj : j ≠ k) :
    SMap.get d (SMap.erase m k) j = SMap.get d m j := by
  induction m with
  | nil => rfl
  | cons p m ih =>
    obtain ⟨a, v⟩ := p
    by_cases h : a = k
    · simp [SMap.erase, SMap.get, h, ih, Ne.symm hj]
    · by_cases h2 : a = j <;> simp_all [SMap.erase, SMap.get]

theorem SMap.get_insert_same (d : Nat → β) (m : SMap β) (k : Nat) (v : β)
    (h : ∀ p ∈ m, p.1 ≠ k) : SMap.get d (SMap.insert m k v) k = v := by
  induction m with
  | nil => simp [SMap.insert, SMap.get]
  | cons p m ih =>
    obtain ⟨a, w⟩ := p
    have ha : a ≠ k := h (a, w) (by simp)
    by_cases hlt : k < a
    · simp [SMap.insert, SMap.get, hlt]
    · simp [SMap.insert, SMap.get, hlt, ha]
      exact ih (fun p hp => h p (by simp [hp]))

theorem SMap.get_insert_ne (d : Nat → β) (m : SMap β) {k j : Nat} (v : β) (hj : j ≠ k) :
    SMap.get d (SMap.insert m k v) j = SMap.get d m j := by
  induction m with
  | nil => simp [SMap.insert, SMap.get, Ne.symm hj]
  | cons p m ih =>
    obtain ⟨a, w⟩ := p
    by_cases hlt : k < a
    · simp [SMap.insert, SMap.get, hlt, Ne.symm hj]
    · simp [SMap.insert, SMap.get, hlt, ih]

theorem SMap.mem_erase {m : SMap β} {k : Nat} {p : Nat × β} (h : p ∈ SMap.erase m k) : p ∈ m ∧ p.1 ≠ k := by
  induction m with
  | nil => simp [SMap.erase] at h
  | cons q m ih =>
    obtain ⟨a, v⟩ := q
    by_cases ha : a = k
    · simp only [SMap.erase, ha, if_true] at h; have := ih h; simp [this.1]; exact this.2
    · simp only [SMap.erase, ha, if_false, List.mem_cons] at h
      rcases h with rfl | h
      · exact ⟨by simp, ha⟩
      · have := ih h; simp [this.1]; exact this.2

variable [DecidableEq β]

/-- Reading the key just written gives the value written. -/
@[simp] theorem SMap.get_put_same (d : Nat → β) (m : SMap β) (k : Nat) (v : β) :
    SMap.get d (SMap.put d m k v) k = v := by
  by_cases h : v = d k
  · simp [SMap.put, h, SMap.get_erase_same]
  · simp only [SMap.put, h, if_false]
    exact SMap.get_insert_same d _ k v (fun p hp => (SMap.mem_erase hp).2)

/-- Reading any other key gives what it gave before. -/
theorem SMap.get_put_ne (d : Nat → β) (m : SMap β) {k j : Nat} (v : β) (h : j ≠ k) :
    SMap.get d (SMap.put d m k v) j = SMap.get d m j := by
  by_cases hv : v = d k
  · simp [SMap.put, hv, SMap.get_erase_ne d m h]
  · simp [SMap.put, hv, SMap.get_insert_ne d _ v h, SMap.get_erase_ne d m h]

omit [DecidableEq β] in
theorem SMap.rising_mono {b c : Nat} {m : SMap β} (h : SMap.rising c m = true) (hb : b ≤ c) :
    SMap.rising b m = true := by
  cases m with
  | nil => rfl
  | cons p m => obtain ⟨a, v⟩ := p; simp [SMap.rising] at *; exact ⟨by omega, h.2⟩

omit [DecidableEq β] in
theorem SMap.rising_erase {b : Nat} {m : SMap β} (k : Nat) (h : SMap.rising b m = true) :
    SMap.rising b (SMap.erase m k) = true := by
  induction m generalizing b with
  | nil => rfl
  | cons p m ih =>
    obtain ⟨a, v⟩ := p
    simp only [SMap.rising, Bool.and_eq_true, decide_eq_true_eq] at h
    by_cases ha : a = k
    · simp only [SMap.erase, ha, if_true]; exact ih (SMap.rising_mono h.2 (by omega))
    · simp only [SMap.erase, ha, if_false, SMap.rising, Bool.and_eq_true, decide_eq_true_eq]
      exact ⟨h.1, ih h.2⟩

omit [DecidableEq β] in
theorem SMap.rising_insert {b k : Nat} {m : SMap β} (v : β) (h : SMap.rising b m = true) (hb : b ≤ k)
    (hk : ∀ p ∈ m, p.1 ≠ k) : SMap.rising b (SMap.insert m k v) = true := by
  induction m generalizing b with
  | nil => simp [SMap.insert, SMap.rising, hb]
  | cons p m ih =>
    obtain ⟨a, w⟩ := p
    have ha : a ≠ k := hk (a, w) (by simp)
    simp only [SMap.rising, Bool.and_eq_true, decide_eq_true_eq] at h
    by_cases hlt : k < a
    · simp only [SMap.insert, hlt, if_true, SMap.rising, Bool.and_eq_true, decide_eq_true_eq]
      exact ⟨hb, by omega, h.2⟩
    · simp only [SMap.insert, hlt, if_false, SMap.rising, Bool.and_eq_true, decide_eq_true_eq]
      exact ⟨h.1, ih h.2 (by omega) (fun p hp => hk p (by simp [hp]))⟩

omit [DecidableEq β] in
theorem SMap.mem_insert {m : SMap β} {k : Nat} {v : β} {p : Nat × β} (h : p ∈ SMap.insert m k v) :
    p ∈ m ∨ p = (k, v) := by
  induction m with
  | nil => simp [SMap.insert] at h; exact .inr h
  | cons q m ih =>
    obtain ⟨a, w⟩ := q
    by_cases hlt : k < a
    · simp only [SMap.insert, hlt, if_true, List.mem_cons] at h
      rcases h with rfl | rfl | h
      · exact .inr rfl
      · exact .inl (by simp)
      · exact .inl (by simp [h])
    · simp only [SMap.insert, hlt, if_false, List.mem_cons] at h
      rcases h with rfl | h
      · exact .inl (by simp)
      · rcases ih h with h | h
        · exact .inl (by simp [h])
        · exact .inr h

/-- A write keeps the canonical form. -/
theorem SMap.wf_put (d : Nat → β) {m : SMap β} (k : Nat) (v : β) (h : SMap.wf d m = true) :
    SMap.wf d (SMap.put d m k v) = true := by
  simp only [SMap.wf, Bool.and_eq_true, List.all_eq_true, decide_eq_true_eq] at h ⊢
  have he := SMap.rising_erase k h.1
  by_cases hv : v = d k
  · simp only [SMap.put, hv, if_true]
    exact ⟨he, fun p hp => h.2 p (SMap.mem_erase hp).1⟩
  · simp only [SMap.put, hv, if_false]
    refine ⟨SMap.rising_insert v he (Nat.zero_le _) (fun p hp => (SMap.mem_erase hp).2), fun p hp => ?_⟩
    rcases SMap.mem_insert hp with hp | rfl
    · exact h.2 p (SMap.mem_erase hp).1
    · exact hv

theorem SMap.rising_filter {b : Nat} {m : SMap β} (p : Nat × β → Bool) (h : SMap.rising b m = true) :
    SMap.rising b (m.filter p) = true := by
  induction m generalizing b with
  | nil => rfl
  | cons e m ih =>
    obtain ⟨a, v⟩ := e
    simp only [SMap.rising, Bool.and_eq_true, decide_eq_true_eq] at h
    by_cases hp : p (a, v) = true
    · rw [List.filter_cons_of_pos hp]
      simp only [SMap.rising, Bool.and_eq_true, decide_eq_true_eq]; exact ⟨h.1, ih h.2⟩
    · rw [List.filter_cons_of_neg hp]; exact ih (SMap.rising_mono h.2 (by omega))

/-- Dropping some entries keeps the canonical form. -/
theorem SMap.wf_filter (d : Nat → β) {m : SMap β} (p : Nat × β → Bool) (h : SMap.wf d m = true) :
    SMap.wf d (m.filter p) = true := by
  simp only [SMap.wf, Bool.and_eq_true, List.all_eq_true] at h ⊢
  exact ⟨SMap.rising_filter p h.1, fun e he => h.2 e (List.mem_filter.1 he).1⟩

/-- Writing a run of keys keeps the canonical form. -/
theorem SMap.wf_putList (d : Nat → β) (m : SMap β) (k : Nat) (vs : List β) (h : SMap.wf d m = true) :
    SMap.wf d (SMap.putList d m k vs) = true := by
  induction vs generalizing m k with
  | nil => exact h
  | cons v vs ih => exact ih _ _ (SMap.wf_put d k v h)

theorem SMap.get_putList_lt (d : Nat → β) (m : SMap β) (k : Nat) (vs : List β) {j : Nat} (h : j < k) :
    SMap.get d (SMap.putList d m k vs) j = SMap.get d m j := by
  induction vs generalizing m k with
  | nil => rfl
  | cons v vs ih => rw [SMap.putList, ih _ _ (by omega), SMap.get_put_ne d m v (by omega)]

/-- A run of writes leaves every key outside the run as it was. -/
theorem SMap.get_putList_out (d : Nat → β) (m : SMap β) (k : Nat) (vs : List β) {j : Nat}
    (h : j < k ∨ k + vs.length ≤ j) : SMap.get d (SMap.putList d m k vs) j = SMap.get d m j := by
  induction vs generalizing m k with
  | nil => rfl
  | cons v vs ih =>
    simp only [List.length_cons] at h
    rw [SMap.putList, ih _ _ (by omega), SMap.get_put_ne d m v (by omega)]

/-- Reading a run just written gives the values written. -/
theorem SMap.getList_putList (d : Nat → β) (m : SMap β) (k : Nat) (vs : List β) :
    SMap.getList d (SMap.putList d m k vs) k vs.length = vs := by
  induction vs generalizing m k with
  | nil => rfl
  | cons v vs ih =>
    simp only [List.length_cons, SMap.getList, SMap.putList]
    rw [SMap.get_putList_lt d _ _ _ (by omega), SMap.get_put_same, ih]

end Sys2Proof.Machine
end

