-- ==== Sys2Proof/Laws/State.lean ====
section
/-!
SUPPORT. Sys2Proof/Laws/State.lean: what each update of the state leaves as it was, one lemma per field per update.
-/

namespace Sys2Proof.Machine

/-! `setReg` -/
@[simp] theorem State.setReg_pending (s : State) (a : Nat) (v : Word) : (s.setReg a v).pending = s.pending := rfl
@[simp] theorem State.setReg_now (s : State) (a : Nat) (v : Word) : (s.setReg a v).now = s.now := rfl
@[simp] theorem State.setReg_free (s : State) (a : Nat) (v : Word) : (s.setReg a v).free = s.free := rfl
@[simp] theorem State.setReg_latch (s : State) (a : Nat) (v : Word) : (s.setReg a v).latch = s.latch := rfl
@[simp] theorem State.setReg_gnor (s : State) (a : Nat) (v : Word) : (s.setReg a v).gnor = s.gnor := rfl
@[simp] theorem State.setReg_mem (s : State) (a : Nat) (v : Word) : (s.setReg a v).mem = s.mem := rfl
@[simp] theorem State.setReg_lum (s : State) (a : Nat) (v : Word) : (s.setReg a v).lum = s.lum := rfl
@[simp] theorem State.setReg_crq (s : State) (a : Nat) (v : Word) : (s.setReg a v).crq = s.crq := rfl
@[simp] theorem State.setReg_time (s : State) (a : Nat) (v : Word) : (s.setReg a v).time = s.time := rfl
@[simp] theorem State.setReg_melt (s : State) (a : Nat) (v : Word) : (s.setReg a v).melt = s.melt := rfl
@[simp] theorem State.setReg_can (s : State) (a : Nat) (v : Word) : (s.setReg a v).can = s.can := rfl
@[simp] theorem State.setReg_planes (s : State) (a : Nat) (v : Word) : (s.setReg a v).planes = s.planes := rfl
@[simp] theorem State.setReg_firn (s : State) (a : Nat) (v : Word) : (s.setReg a v).firn = s.firn := rfl
@[simp] theorem State.setReg_sast (s : State) (a : Nat) (v : Word) : (s.setReg a v).sast = s.sast := rfl
@[simp] theorem State.setReg_snow (s : State) (a : Nat) (v : Word) : (s.setReg a v).snow = s.snow := rfl
@[simp] theorem State.setReg_src (s : State) (a : Nat) (v : Word) : (s.setReg a v).src = s.src := rfl
@[simp] theorem State.setReg_mor (s : State) (a : Nat) (v : Word) : (s.setReg a v).mor = s.mor := rfl
@[simp] theorem State.setReg_ports (s : State) (a : Nat) (v : Word) : (s.setReg a v).ports = s.ports := rfl
@[simp] theorem State.setReg_pair (s : State) (a : Nat) (v : Word) : (s.setReg a v).pair = s.pair := rfl
@[simp] theorem State.setReg_floe (s : State) (a : Nat) (v : Word) : (s.setReg a v).floe = s.floe := rfl
@[simp] theorem State.setReg_vlt (s : State) (a : Nat) (v : Word) : (s.setReg a v).vlt = s.vlt := rfl
@[simp] theorem State.setReg_icf (s : State) (a : Nat) (v : Word) : (s.setReg a v).icf = s.icf := rfl
@[simp] theorem State.setReg_board (s : State) (a : Nat) (v : Word) : (s.setReg a v).board = s.board := rfl
@[simp] theorem State.setReg_rime (s : State) (a : Nat) (v : Word) : (s.setReg a v).rime = s.rime := rfl
@[simp] theorem State.setReg_ice (s : State) (a : Nat) (v : Word) : (s.setReg a v).ice = s.ice := rfl
@[simp] theorem State.setReg_faults (s : State) (a : Nat) (v : Word) : (s.setReg a v).faults = s.faults := rfl
@[simp] theorem State.setReg_out (s : State) (a : Nat) (v : Word) : (s.setReg a v).out = s.out := rfl

/-! `wr` -/
@[simp] theorem State.wr_pending (s : State) (f : Fld) (v : Nat) : (s.wr f v).pending = s.pending := rfl
@[simp] theorem State.wr_now (s : State) (f : Fld) (v : Nat) : (s.wr f v).now = s.now := rfl
@[simp] theorem State.wr_free (s : State) (f : Fld) (v : Nat) : (s.wr f v).free = s.free := rfl
@[simp] theorem State.wr_latch (s : State) (f : Fld) (v : Nat) : (s.wr f v).latch = s.latch := rfl
@[simp] theorem State.wr_gnor (s : State) (f : Fld) (v : Nat) : (s.wr f v).gnor = s.gnor := rfl
@[simp] theorem State.wr_mem (s : State) (f : Fld) (v : Nat) : (s.wr f v).mem = s.mem := rfl
@[simp] theorem State.wr_lum (s : State) (f : Fld) (v : Nat) : (s.wr f v).lum = s.lum := rfl
@[simp] theorem State.wr_crq (s : State) (f : Fld) (v : Nat) : (s.wr f v).crq = s.crq := rfl
@[simp] theorem State.wr_time (s : State) (f : Fld) (v : Nat) : (s.wr f v).time = s.time := rfl
@[simp] theorem State.wr_melt (s : State) (f : Fld) (v : Nat) : (s.wr f v).melt = s.melt := rfl
@[simp] theorem State.wr_can (s : State) (f : Fld) (v : Nat) : (s.wr f v).can = s.can := rfl
@[simp] theorem State.wr_planes (s : State) (f : Fld) (v : Nat) : (s.wr f v).planes = s.planes := rfl
@[simp] theorem State.wr_firn (s : State) (f : Fld) (v : Nat) : (s.wr f v).firn = s.firn := rfl
@[simp] theorem State.wr_sast (s : State) (f : Fld) (v : Nat) : (s.wr f v).sast = s.sast := rfl
@[simp] theorem State.wr_snow (s : State) (f : Fld) (v : Nat) : (s.wr f v).snow = s.snow := rfl
@[simp] theorem State.wr_src (s : State) (f : Fld) (v : Nat) : (s.wr f v).src = s.src := rfl
@[simp] theorem State.wr_mor (s : State) (f : Fld) (v : Nat) : (s.wr f v).mor = s.mor := rfl
@[simp] theorem State.wr_ports (s : State) (f : Fld) (v : Nat) : (s.wr f v).ports = s.ports := rfl
@[simp] theorem State.wr_pair (s : State) (f : Fld) (v : Nat) : (s.wr f v).pair = s.pair := rfl
@[simp] theorem State.wr_floe (s : State) (f : Fld) (v : Nat) : (s.wr f v).floe = s.floe := rfl
@[simp] theorem State.wr_vlt (s : State) (f : Fld) (v : Nat) : (s.wr f v).vlt = s.vlt := rfl
@[simp] theorem State.wr_icf (s : State) (f : Fld) (v : Nat) : (s.wr f v).icf = s.icf := rfl
@[simp] theorem State.wr_board (s : State) (f : Fld) (v : Nat) : (s.wr f v).board = s.board := rfl
@[simp] theorem State.wr_rime (s : State) (f : Fld) (v : Nat) : (s.wr f v).rime = s.rime := rfl
@[simp] theorem State.wr_ice (s : State) (f : Fld) (v : Nat) : (s.wr f v).ice = s.ice := rfl
@[simp] theorem State.wr_faults (s : State) (f : Fld) (v : Nat) : (s.wr f v).faults = s.faults := rfl
@[simp] theorem State.wr_out (s : State) (f : Fld) (v : Nat) : (s.wr f v).out = s.out := rfl

/-! `up` -/
@[simp] theorem State.up_pending (s : State) (f : Fld) : (s.up f).pending = s.pending := rfl
@[simp] theorem State.up_now (s : State) (f : Fld) : (s.up f).now = s.now := rfl
@[simp] theorem State.up_free (s : State) (f : Fld) : (s.up f).free = s.free := rfl
@[simp] theorem State.up_latch (s : State) (f : Fld) : (s.up f).latch = s.latch := rfl
@[simp] theorem State.up_gnor (s : State) (f : Fld) : (s.up f).gnor = s.gnor := rfl
@[simp] theorem State.up_mem (s : State) (f : Fld) : (s.up f).mem = s.mem := rfl
@[simp] theorem State.up_lum (s : State) (f : Fld) : (s.up f).lum = s.lum := rfl
@[simp] theorem State.up_crq (s : State) (f : Fld) : (s.up f).crq = s.crq := rfl
@[simp] theorem State.up_time (s : State) (f : Fld) : (s.up f).time = s.time := rfl
@[simp] theorem State.up_melt (s : State) (f : Fld) : (s.up f).melt = s.melt := rfl
@[simp] theorem State.up_can (s : State) (f : Fld) : (s.up f).can = s.can := rfl
@[simp] theorem State.up_planes (s : State) (f : Fld) : (s.up f).planes = s.planes := rfl
@[simp] theorem State.up_firn (s : State) (f : Fld) : (s.up f).firn = s.firn := rfl
@[simp] theorem State.up_sast (s : State) (f : Fld) : (s.up f).sast = s.sast := rfl
@[simp] theorem State.up_snow (s : State) (f : Fld) : (s.up f).snow = s.snow := rfl
@[simp] theorem State.up_src (s : State) (f : Fld) : (s.up f).src = s.src := rfl
@[simp] theorem State.up_mor (s : State) (f : Fld) : (s.up f).mor = s.mor := rfl
@[simp] theorem State.up_ports (s : State) (f : Fld) : (s.up f).ports = s.ports := rfl
@[simp] theorem State.up_pair (s : State) (f : Fld) : (s.up f).pair = s.pair := rfl
@[simp] theorem State.up_floe (s : State) (f : Fld) : (s.up f).floe = s.floe := rfl
@[simp] theorem State.up_vlt (s : State) (f : Fld) : (s.up f).vlt = s.vlt := rfl
@[simp] theorem State.up_icf (s : State) (f : Fld) : (s.up f).icf = s.icf := rfl
@[simp] theorem State.up_board (s : State) (f : Fld) : (s.up f).board = s.board := rfl
@[simp] theorem State.up_rime (s : State) (f : Fld) : (s.up f).rime = s.rime := rfl
@[simp] theorem State.up_ice (s : State) (f : Fld) : (s.up f).ice = s.ice := rfl
@[simp] theorem State.up_faults (s : State) (f : Fld) : (s.up f).faults = s.faults := rfl
@[simp] theorem State.up_out (s : State) (f : Fld) : (s.up f).out = s.out := rfl

/-! `down` -/
@[simp] theorem State.down_pending (s : State) (f : Fld) : (s.down f).pending = s.pending := rfl
@[simp] theorem State.down_now (s : State) (f : Fld) : (s.down f).now = s.now := rfl
@[simp] theorem State.down_free (s : State) (f : Fld) : (s.down f).free = s.free := rfl
@[simp] theorem State.down_latch (s : State) (f : Fld) : (s.down f).latch = s.latch := rfl
@[simp] theorem State.down_gnor (s : State) (f : Fld) : (s.down f).gnor = s.gnor := rfl
@[simp] theorem State.down_mem (s : State) (f : Fld) : (s.down f).mem = s.mem := rfl
@[simp] theorem State.down_lum (s : State) (f : Fld) : (s.down f).lum = s.lum := rfl
@[simp] theorem State.down_crq (s : State) (f : Fld) : (s.down f).crq = s.crq := rfl
@[simp] theorem State.down_time (s : State) (f : Fld) : (s.down f).time = s.time := rfl
@[simp] theorem State.down_melt (s : State) (f : Fld) : (s.down f).melt = s.melt := rfl
@[simp] theorem State.down_can (s : State) (f : Fld) : (s.down f).can = s.can := rfl
@[simp] theorem State.down_planes (s : State) (f : Fld) : (s.down f).planes = s.planes := rfl
@[simp] theorem State.down_firn (s : State) (f : Fld) : (s.down f).firn = s.firn := rfl
@[simp] theorem State.down_sast (s : State) (f : Fld) : (s.down f).sast = s.sast := rfl
@[simp] theorem State.down_snow (s : State) (f : Fld) : (s.down f).snow = s.snow := rfl
@[simp] theorem State.down_src (s : State) (f : Fld) : (s.down f).src = s.src := rfl
@[simp] theorem State.down_mor (s : State) (f : Fld) : (s.down f).mor = s.mor := rfl
@[simp] theorem State.down_ports (s : State) (f : Fld) : (s.down f).ports = s.ports := rfl
@[simp] theorem State.down_pair (s : State) (f : Fld) : (s.down f).pair = s.pair := rfl
@[simp] theorem State.down_floe (s : State) (f : Fld) : (s.down f).floe = s.floe := rfl
@[simp] theorem State.down_vlt (s : State) (f : Fld) : (s.down f).vlt = s.vlt := rfl
@[simp] theorem State.down_icf (s : State) (f : Fld) : (s.down f).icf = s.icf := rfl
@[simp] theorem State.down_board (s : State) (f : Fld) : (s.down f).board = s.board := rfl
@[simp] theorem State.down_rime (s : State) (f : Fld) : (s.down f).rime = s.rime := rfl
@[simp] theorem State.down_ice (s : State) (f : Fld) : (s.down f).ice = s.ice := rfl
@[simp] theorem State.down_faults (s : State) (f : Fld) : (s.down f).faults = s.faults := rfl
@[simp] theorem State.down_out (s : State) (f : Fld) : (s.down f).out = s.out := rfl

/-! `bit` -/
@[simp] theorem State.bit_pending (s : State) (f : Fld) (b : Bool) : (s.bit f b).pending = s.pending := rfl
@[simp] theorem State.bit_now (s : State) (f : Fld) (b : Bool) : (s.bit f b).now = s.now := rfl
@[simp] theorem State.bit_free (s : State) (f : Fld) (b : Bool) : (s.bit f b).free = s.free := rfl
@[simp] theorem State.bit_latch (s : State) (f : Fld) (b : Bool) : (s.bit f b).latch = s.latch := rfl
@[simp] theorem State.bit_gnor (s : State) (f : Fld) (b : Bool) : (s.bit f b).gnor = s.gnor := rfl
@[simp] theorem State.bit_mem (s : State) (f : Fld) (b : Bool) : (s.bit f b).mem = s.mem := rfl
@[simp] theorem State.bit_lum (s : State) (f : Fld) (b : Bool) : (s.bit f b).lum = s.lum := rfl
@[simp] theorem State.bit_crq (s : State) (f : Fld) (b : Bool) : (s.bit f b).crq = s.crq := rfl
@[simp] theorem State.bit_time (s : State) (f : Fld) (b : Bool) : (s.bit f b).time = s.time := rfl
@[simp] theorem State.bit_melt (s : State) (f : Fld) (b : Bool) : (s.bit f b).melt = s.melt := rfl
@[simp] theorem State.bit_can (s : State) (f : Fld) (b : Bool) : (s.bit f b).can = s.can := rfl
@[simp] theorem State.bit_planes (s : State) (f : Fld) (b : Bool) : (s.bit f b).planes = s.planes := rfl
@[simp] theorem State.bit_firn (s : State) (f : Fld) (b : Bool) : (s.bit f b).firn = s.firn := rfl
@[simp] theorem State.bit_sast (s : State) (f : Fld) (b : Bool) : (s.bit f b).sast = s.sast := rfl
@[simp] theorem State.bit_snow (s : State) (f : Fld) (b : Bool) : (s.bit f b).snow = s.snow := rfl
@[simp] theorem State.bit_src (s : State) (f : Fld) (b : Bool) : (s.bit f b).src = s.src := rfl
@[simp] theorem State.bit_mor (s : State) (f : Fld) (b : Bool) : (s.bit f b).mor = s.mor := rfl
@[simp] theorem State.bit_ports (s : State) (f : Fld) (b : Bool) : (s.bit f b).ports = s.ports := rfl
@[simp] theorem State.bit_pair (s : State) (f : Fld) (b : Bool) : (s.bit f b).pair = s.pair := rfl
@[simp] theorem State.bit_floe (s : State) (f : Fld) (b : Bool) : (s.bit f b).floe = s.floe := rfl
@[simp] theorem State.bit_vlt (s : State) (f : Fld) (b : Bool) : (s.bit f b).vlt = s.vlt := rfl
@[simp] theorem State.bit_icf (s : State) (f : Fld) (b : Bool) : (s.bit f b).icf = s.icf := rfl
@[simp] theorem State.bit_board (s : State) (f : Fld) (b : Bool) : (s.bit f b).board = s.board := rfl
@[simp] theorem State.bit_rime (s : State) (f : Fld) (b : Bool) : (s.bit f b).rime = s.rime := rfl
@[simp] theorem State.bit_ice (s : State) (f : Fld) (b : Bool) : (s.bit f b).ice = s.ice := rfl
@[simp] theorem State.bit_faults (s : State) (f : Fld) (b : Bool) : (s.bit f b).faults = s.faults := rfl
@[simp] theorem State.bit_out (s : State) (f : Fld) (b : Bool) : (s.bit f b).out = s.out := rfl

/-! `count` -/
@[simp] theorem State.count_pending (s : State) (f : Fld) (n : Nat) : (s.count f n).pending = s.pending := rfl
@[simp] theorem State.count_now (s : State) (f : Fld) (n : Nat) : (s.count f n).now = s.now := rfl
@[simp] theorem State.count_free (s : State) (f : Fld) (n : Nat) : (s.count f n).free = s.free := rfl
@[simp] theorem State.count_latch (s : State) (f : Fld) (n : Nat) : (s.count f n).latch = s.latch := rfl
@[simp] theorem State.count_gnor (s : State) (f : Fld) (n : Nat) : (s.count f n).gnor = s.gnor := rfl
@[simp] theorem State.count_mem (s : State) (f : Fld) (n : Nat) : (s.count f n).mem = s.mem := rfl
@[simp] theorem State.count_lum (s : State) (f : Fld) (n : Nat) : (s.count f n).lum = s.lum := rfl
@[simp] theorem State.count_crq (s : State) (f : Fld) (n : Nat) : (s.count f n).crq = s.crq := rfl
@[simp] theorem State.count_time (s : State) (f : Fld) (n : Nat) : (s.count f n).time = s.time := rfl
@[simp] theorem State.count_melt (s : State) (f : Fld) (n : Nat) : (s.count f n).melt = s.melt := rfl
@[simp] theorem State.count_can (s : State) (f : Fld) (n : Nat) : (s.count f n).can = s.can := rfl
@[simp] theorem State.count_planes (s : State) (f : Fld) (n : Nat) : (s.count f n).planes = s.planes := rfl
@[simp] theorem State.count_firn (s : State) (f : Fld) (n : Nat) : (s.count f n).firn = s.firn := rfl
@[simp] theorem State.count_sast (s : State) (f : Fld) (n : Nat) : (s.count f n).sast = s.sast := rfl
@[simp] theorem State.count_snow (s : State) (f : Fld) (n : Nat) : (s.count f n).snow = s.snow := rfl
@[simp] theorem State.count_src (s : State) (f : Fld) (n : Nat) : (s.count f n).src = s.src := rfl
@[simp] theorem State.count_mor (s : State) (f : Fld) (n : Nat) : (s.count f n).mor = s.mor := rfl
@[simp] theorem State.count_ports (s : State) (f : Fld) (n : Nat) : (s.count f n).ports = s.ports := rfl
@[simp] theorem State.count_pair (s : State) (f : Fld) (n : Nat) : (s.count f n).pair = s.pair := rfl
@[simp] theorem State.count_floe (s : State) (f : Fld) (n : Nat) : (s.count f n).floe = s.floe := rfl
@[simp] theorem State.count_vlt (s : State) (f : Fld) (n : Nat) : (s.count f n).vlt = s.vlt := rfl
@[simp] theorem State.count_icf (s : State) (f : Fld) (n : Nat) : (s.count f n).icf = s.icf := rfl
@[simp] theorem State.count_board (s : State) (f : Fld) (n : Nat) : (s.count f n).board = s.board := rfl
@[simp] theorem State.count_rime (s : State) (f : Fld) (n : Nat) : (s.count f n).rime = s.rime := rfl
@[simp] theorem State.count_ice (s : State) (f : Fld) (n : Nat) : (s.count f n).ice = s.ice := rfl
@[simp] theorem State.count_faults (s : State) (f : Fld) (n : Nat) : (s.count f n).faults = s.faults := rfl
@[simp] theorem State.count_out (s : State) (f : Fld) (n : Nat) : (s.count f n).out = s.out := rfl

/-! `setTh` -/
@[simp] theorem State.setTh_pending (s : State) (t st : Nat) : (s.setTh t st).pending = s.pending := rfl
@[simp] theorem State.setTh_now (s : State) (t st : Nat) : (s.setTh t st).now = s.now := rfl
@[simp] theorem State.setTh_free (s : State) (t st : Nat) : (s.setTh t st).free = s.free := rfl
@[simp] theorem State.setTh_latch (s : State) (t st : Nat) : (s.setTh t st).latch = s.latch := rfl
@[simp] theorem State.setTh_gnor (s : State) (t st : Nat) : (s.setTh t st).gnor = s.gnor := rfl
@[simp] theorem State.setTh_mem (s : State) (t st : Nat) : (s.setTh t st).mem = s.mem := rfl
@[simp] theorem State.setTh_lum (s : State) (t st : Nat) : (s.setTh t st).lum = s.lum := rfl
@[simp] theorem State.setTh_crq (s : State) (t st : Nat) : (s.setTh t st).crq = s.crq := rfl
@[simp] theorem State.setTh_time (s : State) (t st : Nat) : (s.setTh t st).time = s.time := rfl
@[simp] theorem State.setTh_melt (s : State) (t st : Nat) : (s.setTh t st).melt = s.melt := rfl
@[simp] theorem State.setTh_can (s : State) (t st : Nat) : (s.setTh t st).can = s.can := rfl
@[simp] theorem State.setTh_planes (s : State) (t st : Nat) : (s.setTh t st).planes = s.planes := rfl
@[simp] theorem State.setTh_firn (s : State) (t st : Nat) : (s.setTh t st).firn = s.firn := rfl
@[simp] theorem State.setTh_sast (s : State) (t st : Nat) : (s.setTh t st).sast = s.sast := rfl
@[simp] theorem State.setTh_snow (s : State) (t st : Nat) : (s.setTh t st).snow = s.snow := rfl
@[simp] theorem State.setTh_src (s : State) (t st : Nat) : (s.setTh t st).src = s.src := rfl
@[simp] theorem State.setTh_mor (s : State) (t st : Nat) : (s.setTh t st).mor = s.mor := rfl
@[simp] theorem State.setTh_ports (s : State) (t st : Nat) : (s.setTh t st).ports = s.ports := rfl
@[simp] theorem State.setTh_pair (s : State) (t st : Nat) : (s.setTh t st).pair = s.pair := rfl
@[simp] theorem State.setTh_floe (s : State) (t st : Nat) : (s.setTh t st).floe = s.floe := rfl
@[simp] theorem State.setTh_vlt (s : State) (t st : Nat) : (s.setTh t st).vlt = s.vlt := rfl
@[simp] theorem State.setTh_icf (s : State) (t st : Nat) : (s.setTh t st).icf = s.icf := rfl
@[simp] theorem State.setTh_board (s : State) (t st : Nat) : (s.setTh t st).board = s.board := rfl
@[simp] theorem State.setTh_rime (s : State) (t st : Nat) : (s.setTh t st).rime = s.rime := rfl
@[simp] theorem State.setTh_ice (s : State) (t st : Nat) : (s.setTh t st).ice = s.ice := rfl
@[simp] theorem State.setTh_faults (s : State) (t st : Nat) : (s.setTh t st).faults = s.faults := rfl
@[simp] theorem State.setTh_out (s : State) (t st : Nat) : (s.setTh t st).out = s.out := rfl

/-! `setW` -/
@[simp] theorem State.setW_pending (s : State) (t : Nat) (r : WReg) (v : Wide) : (s.setW t r v).pending = s.pending := rfl
@[simp] theorem State.setW_now (s : State) (t : Nat) (r : WReg) (v : Wide) : (s.setW t r v).now = s.now := rfl
@[simp] theorem State.setW_free (s : State) (t : Nat) (r : WReg) (v : Wide) : (s.setW t r v).free = s.free := rfl
@[simp] theorem State.setW_regs (s : State) (t : Nat) (r : WReg) (v : Wide) : (s.setW t r v).regs = s.regs := rfl
@[simp] theorem State.setW_latch (s : State) (t : Nat) (r : WReg) (v : Wide) : (s.setW t r v).latch = s.latch := rfl
@[simp] theorem State.setW_mem (s : State) (t : Nat) (r : WReg) (v : Wide) : (s.setW t r v).mem = s.mem := rfl
@[simp] theorem State.setW_lum (s : State) (t : Nat) (r : WReg) (v : Wide) : (s.setW t r v).lum = s.lum := rfl
@[simp] theorem State.setW_crq (s : State) (t : Nat) (r : WReg) (v : Wide) : (s.setW t r v).crq = s.crq := rfl
@[simp] theorem State.setW_time (s : State) (t : Nat) (r : WReg) (v : Wide) : (s.setW t r v).time = s.time := rfl
@[simp] theorem State.setW_melt (s : State) (t : Nat) (r : WReg) (v : Wide) : (s.setW t r v).melt = s.melt := rfl
@[simp] theorem State.setW_can (s : State) (t : Nat) (r : WReg) (v : Wide) : (s.setW t r v).can = s.can := rfl
@[simp] theorem State.setW_planes (s : State) (t : Nat) (r : WReg) (v : Wide) : (s.setW t r v).planes = s.planes := rfl
@[simp] theorem State.setW_firn (s : State) (t : Nat) (r : WReg) (v : Wide) : (s.setW t r v).firn = s.firn := rfl
@[simp] theorem State.setW_sast (s : State) (t : Nat) (r : WReg) (v : Wide) : (s.setW t r v).sast = s.sast := rfl
@[simp] theorem State.setW_snow (s : State) (t : Nat) (r : WReg) (v : Wide) : (s.setW t r v).snow = s.snow := rfl
@[simp] theorem State.setW_src (s : State) (t : Nat) (r : WReg) (v : Wide) : (s.setW t r v).src = s.src := rfl
@[simp] theorem State.setW_mor (s : State) (t : Nat) (r : WReg) (v : Wide) : (s.setW t r v).mor = s.mor := rfl
@[simp] theorem State.setW_ports (s : State) (t : Nat) (r : WReg) (v : Wide) : (s.setW t r v).ports = s.ports := rfl
@[simp] theorem State.setW_pair (s : State) (t : Nat) (r : WReg) (v : Wide) : (s.setW t r v).pair = s.pair := rfl
@[simp] theorem State.setW_floe (s : State) (t : Nat) (r : WReg) (v : Wide) : (s.setW t r v).floe = s.floe := rfl
@[simp] theorem State.setW_vlt (s : State) (t : Nat) (r : WReg) (v : Wide) : (s.setW t r v).vlt = s.vlt := rfl
@[simp] theorem State.setW_icf (s : State) (t : Nat) (r : WReg) (v : Wide) : (s.setW t r v).icf = s.icf := rfl
@[simp] theorem State.setW_board (s : State) (t : Nat) (r : WReg) (v : Wide) : (s.setW t r v).board = s.board := rfl
@[simp] theorem State.setW_rime (s : State) (t : Nat) (r : WReg) (v : Wide) : (s.setW t r v).rime = s.rime := rfl
@[simp] theorem State.setW_ice (s : State) (t : Nat) (r : WReg) (v : Wide) : (s.setW t r v).ice = s.ice := rfl
@[simp] theorem State.setW_faults (s : State) (t : Nat) (r : WReg) (v : Wide) : (s.setW t r v).faults = s.faults := rfl
@[simp] theorem State.setW_out (s : State) (t : Nat) (r : WReg) (v : Wide) : (s.setW t r v).out = s.out := rfl

/-! `setPc` -/
@[simp] theorem State.setPc_pending (s : State) (t : Nat) (v : BitVec 40) : (s.setPc t v).pending = s.pending := rfl
@[simp] theorem State.setPc_now (s : State) (t : Nat) (v : BitVec 40) : (s.setPc t v).now = s.now := rfl
@[simp] theorem State.setPc_free (s : State) (t : Nat) (v : BitVec 40) : (s.setPc t v).free = s.free := rfl
@[simp] theorem State.setPc_regs (s : State) (t : Nat) (v : BitVec 40) : (s.setPc t v).regs = s.regs := rfl
@[simp] theorem State.setPc_latch (s : State) (t : Nat) (v : BitVec 40) : (s.setPc t v).latch = s.latch := rfl
@[simp] theorem State.setPc_mem (s : State) (t : Nat) (v : BitVec 40) : (s.setPc t v).mem = s.mem := rfl
@[simp] theorem State.setPc_lum (s : State) (t : Nat) (v : BitVec 40) : (s.setPc t v).lum = s.lum := rfl
@[simp] theorem State.setPc_crq (s : State) (t : Nat) (v : BitVec 40) : (s.setPc t v).crq = s.crq := rfl
@[simp] theorem State.setPc_time (s : State) (t : Nat) (v : BitVec 40) : (s.setPc t v).time = s.time := rfl
@[simp] theorem State.setPc_melt (s : State) (t : Nat) (v : BitVec 40) : (s.setPc t v).melt = s.melt := rfl
@[simp] theorem State.setPc_can (s : State) (t : Nat) (v : BitVec 40) : (s.setPc t v).can = s.can := rfl
@[simp] theorem State.setPc_planes (s : State) (t : Nat) (v : BitVec 40) : (s.setPc t v).planes = s.planes := rfl
@[simp] theorem State.setPc_firn (s : State) (t : Nat) (v : BitVec 40) : (s.setPc t v).firn = s.firn := rfl
@[simp] theorem State.setPc_sast (s : State) (t : Nat) (v : BitVec 40) : (s.setPc t v).sast = s.sast := rfl
@[simp] theorem State.setPc_snow (s : State) (t : Nat) (v : BitVec 40) : (s.setPc t v).snow = s.snow := rfl
@[simp] theorem State.setPc_src (s : State) (t : Nat) (v : BitVec 40) : (s.setPc t v).src = s.src := rfl
@[simp] theorem State.setPc_mor (s : State) (t : Nat) (v : BitVec 40) : (s.setPc t v).mor = s.mor := rfl
@[simp] theorem State.setPc_ports (s : State) (t : Nat) (v : BitVec 40) : (s.setPc t v).ports = s.ports := rfl
@[simp] theorem State.setPc_pair (s : State) (t : Nat) (v : BitVec 40) : (s.setPc t v).pair = s.pair := rfl
@[simp] theorem State.setPc_floe (s : State) (t : Nat) (v : BitVec 40) : (s.setPc t v).floe = s.floe := rfl
@[simp] theorem State.setPc_vlt (s : State) (t : Nat) (v : BitVec 40) : (s.setPc t v).vlt = s.vlt := rfl
@[simp] theorem State.setPc_icf (s : State) (t : Nat) (v : BitVec 40) : (s.setPc t v).icf = s.icf := rfl
@[simp] theorem State.setPc_board (s : State) (t : Nat) (v : BitVec 40) : (s.setPc t v).board = s.board := rfl
@[simp] theorem State.setPc_rime (s : State) (t : Nat) (v : BitVec 40) : (s.setPc t v).rime = s.rime := rfl
@[simp] theorem State.setPc_ice (s : State) (t : Nat) (v : BitVec 40) : (s.setPc t v).ice = s.ice := rfl
@[simp] theorem State.setPc_faults (s : State) (t : Nat) (v : BitVec 40) : (s.setPc t v).faults = s.faults := rfl
@[simp] theorem State.setPc_out (s : State) (t : Nat) (v : BitVec 40) : (s.setPc t v).out = s.out := rfl

/-! `setCc` -/
@[simp] theorem State.setCc_pending (s : State) (t : Nat) (v : Byte) : (s.setCc t v).pending = s.pending := rfl
@[simp] theorem State.setCc_now (s : State) (t : Nat) (v : Byte) : (s.setCc t v).now = s.now := rfl
@[simp] theorem State.setCc_free (s : State) (t : Nat) (v : Byte) : (s.setCc t v).free = s.free := rfl
@[simp] theorem State.setCc_regs (s : State) (t : Nat) (v : Byte) : (s.setCc t v).regs = s.regs := rfl
@[simp] theorem State.setCc_latch (s : State) (t : Nat) (v : Byte) : (s.setCc t v).latch = s.latch := rfl
@[simp] theorem State.setCc_mem (s : State) (t : Nat) (v : Byte) : (s.setCc t v).mem = s.mem := rfl
@[simp] theorem State.setCc_lum (s : State) (t : Nat) (v : Byte) : (s.setCc t v).lum = s.lum := rfl
@[simp] theorem State.setCc_crq (s : State) (t : Nat) (v : Byte) : (s.setCc t v).crq = s.crq := rfl
@[simp] theorem State.setCc_time (s : State) (t : Nat) (v : Byte) : (s.setCc t v).time = s.time := rfl
@[simp] theorem State.setCc_melt (s : State) (t : Nat) (v : Byte) : (s.setCc t v).melt = s.melt := rfl
@[simp] theorem State.setCc_can (s : State) (t : Nat) (v : Byte) : (s.setCc t v).can = s.can := rfl
@[simp] theorem State.setCc_planes (s : State) (t : Nat) (v : Byte) : (s.setCc t v).planes = s.planes := rfl
@[simp] theorem State.setCc_firn (s : State) (t : Nat) (v : Byte) : (s.setCc t v).firn = s.firn := rfl
@[simp] theorem State.setCc_sast (s : State) (t : Nat) (v : Byte) : (s.setCc t v).sast = s.sast := rfl
@[simp] theorem State.setCc_snow (s : State) (t : Nat) (v : Byte) : (s.setCc t v).snow = s.snow := rfl
@[simp] theorem State.setCc_src (s : State) (t : Nat) (v : Byte) : (s.setCc t v).src = s.src := rfl
@[simp] theorem State.setCc_mor (s : State) (t : Nat) (v : Byte) : (s.setCc t v).mor = s.mor := rfl
@[simp] theorem State.setCc_ports (s : State) (t : Nat) (v : Byte) : (s.setCc t v).ports = s.ports := rfl
@[simp] theorem State.setCc_pair (s : State) (t : Nat) (v : Byte) : (s.setCc t v).pair = s.pair := rfl
@[simp] theorem State.setCc_floe (s : State) (t : Nat) (v : Byte) : (s.setCc t v).floe = s.floe := rfl
@[simp] theorem State.setCc_vlt (s : State) (t : Nat) (v : Byte) : (s.setCc t v).vlt = s.vlt := rfl
@[simp] theorem State.setCc_icf (s : State) (t : Nat) (v : Byte) : (s.setCc t v).icf = s.icf := rfl
@[simp] theorem State.setCc_board (s : State) (t : Nat) (v : Byte) : (s.setCc t v).board = s.board := rfl
@[simp] theorem State.setCc_rime (s : State) (t : Nat) (v : Byte) : (s.setCc t v).rime = s.rime := rfl
@[simp] theorem State.setCc_ice (s : State) (t : Nat) (v : Byte) : (s.setCc t v).ice = s.ice := rfl
@[simp] theorem State.setCc_faults (s : State) (t : Nat) (v : Byte) : (s.setCc t v).faults = s.faults := rfl
@[simp] theorem State.setCc_out (s : State) (t : Nat) (v : Byte) : (s.setCc t v).out = s.out := rfl

/-! `setEvmask` -/
@[simp] theorem State.setEvmask_pending (s : State) (t : Nat) (v : Word) : (s.setEvmask t v).pending = s.pending := rfl
@[simp] theorem State.setEvmask_now (s : State) (t : Nat) (v : Word) : (s.setEvmask t v).now = s.now := rfl
@[simp] theorem State.setEvmask_free (s : State) (t : Nat) (v : Word) : (s.setEvmask t v).free = s.free := rfl
@[simp] theorem State.setEvmask_regs (s : State) (t : Nat) (v : Word) : (s.setEvmask t v).regs = s.regs := rfl
@[simp] theorem State.setEvmask_latch (s : State) (t : Nat) (v : Word) : (s.setEvmask t v).latch = s.latch := rfl
@[simp] theorem State.setEvmask_mem (s : State) (t : Nat) (v : Word) : (s.setEvmask t v).mem = s.mem := rfl
@[simp] theorem State.setEvmask_lum (s : State) (t : Nat) (v : Word) : (s.setEvmask t v).lum = s.lum := rfl
@[simp] theorem State.setEvmask_crq (s : State) (t : Nat) (v : Word) : (s.setEvmask t v).crq = s.crq := rfl
@[simp] theorem State.setEvmask_time (s : State) (t : Nat) (v : Word) : (s.setEvmask t v).time = s.time := rfl
@[simp] theorem State.setEvmask_melt (s : State) (t : Nat) (v : Word) : (s.setEvmask t v).melt = s.melt := rfl
@[simp] theorem State.setEvmask_can (s : State) (t : Nat) (v : Word) : (s.setEvmask t v).can = s.can := rfl
@[simp] theorem State.setEvmask_planes (s : State) (t : Nat) (v : Word) : (s.setEvmask t v).planes = s.planes := rfl
@[simp] theorem State.setEvmask_firn (s : State) (t : Nat) (v : Word) : (s.setEvmask t v).firn = s.firn := rfl
@[simp] theorem State.setEvmask_sast (s : State) (t : Nat) (v : Word) : (s.setEvmask t v).sast = s.sast := rfl
@[simp] theorem State.setEvmask_snow (s : State) (t : Nat) (v : Word) : (s.setEvmask t v).snow = s.snow := rfl
@[simp] theorem State.setEvmask_src (s : State) (t : Nat) (v : Word) : (s.setEvmask t v).src = s.src := rfl
@[simp] theorem State.setEvmask_mor (s : State) (t : Nat) (v : Word) : (s.setEvmask t v).mor = s.mor := rfl
@[simp] theorem State.setEvmask_ports (s : State) (t : Nat) (v : Word) : (s.setEvmask t v).ports = s.ports := rfl
@[simp] theorem State.setEvmask_pair (s : State) (t : Nat) (v : Word) : (s.setEvmask t v).pair = s.pair := rfl
@[simp] theorem State.setEvmask_floe (s : State) (t : Nat) (v : Word) : (s.setEvmask t v).floe = s.floe := rfl
@[simp] theorem State.setEvmask_vlt (s : State) (t : Nat) (v : Word) : (s.setEvmask t v).vlt = s.vlt := rfl
@[simp] theorem State.setEvmask_icf (s : State) (t : Nat) (v : Word) : (s.setEvmask t v).icf = s.icf := rfl
@[simp] theorem State.setEvmask_board (s : State) (t : Nat) (v : Word) : (s.setEvmask t v).board = s.board := rfl
@[simp] theorem State.setEvmask_rime (s : State) (t : Nat) (v : Word) : (s.setEvmask t v).rime = s.rime := rfl
@[simp] theorem State.setEvmask_ice (s : State) (t : Nat) (v : Word) : (s.setEvmask t v).ice = s.ice := rfl
@[simp] theorem State.setEvmask_faults (s : State) (t : Nat) (v : Word) : (s.setEvmask t v).faults = s.faults := rfl
@[simp] theorem State.setEvmask_out (s : State) (t : Nat) (v : Word) : (s.setEvmask t v).out = s.out := rfl

/-! `setXpc` -/
@[simp] theorem State.setXpc_pending (s : State) (t : Nat) (v : BitVec 40) : (s.setXpc t v).pending = s.pending := rfl
@[simp] theorem State.setXpc_now (s : State) (t : Nat) (v : BitVec 40) : (s.setXpc t v).now = s.now := rfl
@[simp] theorem State.setXpc_free (s : State) (t : Nat) (v : BitVec 40) : (s.setXpc t v).free = s.free := rfl
@[simp] theorem State.setXpc_regs (s : State) (t : Nat) (v : BitVec 40) : (s.setXpc t v).regs = s.regs := rfl
@[simp] theorem State.setXpc_latch (s : State) (t : Nat) (v : BitVec 40) : (s.setXpc t v).latch = s.latch := rfl
@[simp] theorem State.setXpc_mem (s : State) (t : Nat) (v : BitVec 40) : (s.setXpc t v).mem = s.mem := rfl
@[simp] theorem State.setXpc_lum (s : State) (t : Nat) (v : BitVec 40) : (s.setXpc t v).lum = s.lum := rfl
@[simp] theorem State.setXpc_crq (s : State) (t : Nat) (v : BitVec 40) : (s.setXpc t v).crq = s.crq := rfl
@[simp] theorem State.setXpc_time (s : State) (t : Nat) (v : BitVec 40) : (s.setXpc t v).time = s.time := rfl
@[simp] theorem State.setXpc_melt (s : State) (t : Nat) (v : BitVec 40) : (s.setXpc t v).melt = s.melt := rfl
@[simp] theorem State.setXpc_can (s : State) (t : Nat) (v : BitVec 40) : (s.setXpc t v).can = s.can := rfl
@[simp] theorem State.setXpc_planes (s : State) (t : Nat) (v : BitVec 40) : (s.setXpc t v).planes = s.planes := rfl
@[simp] theorem State.setXpc_firn (s : State) (t : Nat) (v : BitVec 40) : (s.setXpc t v).firn = s.firn := rfl
@[simp] theorem State.setXpc_sast (s : State) (t : Nat) (v : BitVec 40) : (s.setXpc t v).sast = s.sast := rfl
@[simp] theorem State.setXpc_snow (s : State) (t : Nat) (v : BitVec 40) : (s.setXpc t v).snow = s.snow := rfl
@[simp] theorem State.setXpc_src (s : State) (t : Nat) (v : BitVec 40) : (s.setXpc t v).src = s.src := rfl
@[simp] theorem State.setXpc_mor (s : State) (t : Nat) (v : BitVec 40) : (s.setXpc t v).mor = s.mor := rfl
@[simp] theorem State.setXpc_ports (s : State) (t : Nat) (v : BitVec 40) : (s.setXpc t v).ports = s.ports := rfl
@[simp] theorem State.setXpc_pair (s : State) (t : Nat) (v : BitVec 40) : (s.setXpc t v).pair = s.pair := rfl
@[simp] theorem State.setXpc_floe (s : State) (t : Nat) (v : BitVec 40) : (s.setXpc t v).floe = s.floe := rfl
@[simp] theorem State.setXpc_vlt (s : State) (t : Nat) (v : BitVec 40) : (s.setXpc t v).vlt = s.vlt := rfl
@[simp] theorem State.setXpc_icf (s : State) (t : Nat) (v : BitVec 40) : (s.setXpc t v).icf = s.icf := rfl
@[simp] theorem State.setXpc_board (s : State) (t : Nat) (v : BitVec 40) : (s.setXpc t v).board = s.board := rfl
@[simp] theorem State.setXpc_rime (s : State) (t : Nat) (v : BitVec 40) : (s.setXpc t v).rime = s.rime := rfl
@[simp] theorem State.setXpc_ice (s : State) (t : Nat) (v : BitVec 40) : (s.setXpc t v).ice = s.ice := rfl
@[simp] theorem State.setXpc_faults (s : State) (t : Nat) (v : BitVec 40) : (s.setXpc t v).faults = s.faults := rfl
@[simp] theorem State.setXpc_out (s : State) (t : Nat) (v : BitVec 40) : (s.setXpc t v).out = s.out := rfl

/-! `setXcause` -/
@[simp] theorem State.setXcause_pending (s : State) (t : Nat) (v : Dword) : (s.setXcause t v).pending = s.pending := rfl
@[simp] theorem State.setXcause_now (s : State) (t : Nat) (v : Dword) : (s.setXcause t v).now = s.now := rfl
@[simp] theorem State.setXcause_free (s : State) (t : Nat) (v : Dword) : (s.setXcause t v).free = s.free := rfl
@[simp] theorem State.setXcause_regs (s : State) (t : Nat) (v : Dword) : (s.setXcause t v).regs = s.regs := rfl
@[simp] theorem State.setXcause_latch (s : State) (t : Nat) (v : Dword) : (s.setXcause t v).latch = s.latch := rfl
@[simp] theorem State.setXcause_mem (s : State) (t : Nat) (v : Dword) : (s.setXcause t v).mem = s.mem := rfl
@[simp] theorem State.setXcause_lum (s : State) (t : Nat) (v : Dword) : (s.setXcause t v).lum = s.lum := rfl
@[simp] theorem State.setXcause_crq (s : State) (t : Nat) (v : Dword) : (s.setXcause t v).crq = s.crq := rfl
@[simp] theorem State.setXcause_time (s : State) (t : Nat) (v : Dword) : (s.setXcause t v).time = s.time := rfl
@[simp] theorem State.setXcause_melt (s : State) (t : Nat) (v : Dword) : (s.setXcause t v).melt = s.melt := rfl
@[simp] theorem State.setXcause_can (s : State) (t : Nat) (v : Dword) : (s.setXcause t v).can = s.can := rfl
@[simp] theorem State.setXcause_planes (s : State) (t : Nat) (v : Dword) : (s.setXcause t v).planes = s.planes := rfl
@[simp] theorem State.setXcause_firn (s : State) (t : Nat) (v : Dword) : (s.setXcause t v).firn = s.firn := rfl
@[simp] theorem State.setXcause_sast (s : State) (t : Nat) (v : Dword) : (s.setXcause t v).sast = s.sast := rfl
@[simp] theorem State.setXcause_snow (s : State) (t : Nat) (v : Dword) : (s.setXcause t v).snow = s.snow := rfl
@[simp] theorem State.setXcause_src (s : State) (t : Nat) (v : Dword) : (s.setXcause t v).src = s.src := rfl
@[simp] theorem State.setXcause_mor (s : State) (t : Nat) (v : Dword) : (s.setXcause t v).mor = s.mor := rfl
@[simp] theorem State.setXcause_ports (s : State) (t : Nat) (v : Dword) : (s.setXcause t v).ports = s.ports := rfl
@[simp] theorem State.setXcause_pair (s : State) (t : Nat) (v : Dword) : (s.setXcause t v).pair = s.pair := rfl
@[simp] theorem State.setXcause_floe (s : State) (t : Nat) (v : Dword) : (s.setXcause t v).floe = s.floe := rfl
@[simp] theorem State.setXcause_vlt (s : State) (t : Nat) (v : Dword) : (s.setXcause t v).vlt = s.vlt := rfl
@[simp] theorem State.setXcause_icf (s : State) (t : Nat) (v : Dword) : (s.setXcause t v).icf = s.icf := rfl
@[simp] theorem State.setXcause_board (s : State) (t : Nat) (v : Dword) : (s.setXcause t v).board = s.board := rfl
@[simp] theorem State.setXcause_rime (s : State) (t : Nat) (v : Dword) : (s.setXcause t v).rime = s.rime := rfl
@[simp] theorem State.setXcause_ice (s : State) (t : Nat) (v : Dword) : (s.setXcause t v).ice = s.ice := rfl
@[simp] theorem State.setXcause_faults (s : State) (t : Nat) (v : Dword) : (s.setXcause t v).faults = s.faults := rfl
@[simp] theorem State.setXcause_out (s : State) (t : Nat) (v : Dword) : (s.setXcause t v).out = s.out := rfl

/-! `setPrim` -/
@[simp] theorem State.setPrim_pending (s : State) (t : Nat) (p : Option Prim) : (s.setPrim t p).pending = s.pending := rfl
@[simp] theorem State.setPrim_now (s : State) (t : Nat) (p : Option Prim) : (s.setPrim t p).now = s.now := rfl
@[simp] theorem State.setPrim_free (s : State) (t : Nat) (p : Option Prim) : (s.setPrim t p).free = s.free := rfl
@[simp] theorem State.setPrim_regs (s : State) (t : Nat) (p : Option Prim) : (s.setPrim t p).regs = s.regs := rfl
@[simp] theorem State.setPrim_latch (s : State) (t : Nat) (p : Option Prim) : (s.setPrim t p).latch = s.latch := rfl
@[simp] theorem State.setPrim_gnor (s : State) (t : Nat) (p : Option Prim) : (s.setPrim t p).gnor = s.gnor := rfl
@[simp] theorem State.setPrim_mem (s : State) (t : Nat) (p : Option Prim) : (s.setPrim t p).mem = s.mem := rfl
@[simp] theorem State.setPrim_crq (s : State) (t : Nat) (p : Option Prim) : (s.setPrim t p).crq = s.crq := rfl
@[simp] theorem State.setPrim_time (s : State) (t : Nat) (p : Option Prim) : (s.setPrim t p).time = s.time := rfl
@[simp] theorem State.setPrim_melt (s : State) (t : Nat) (p : Option Prim) : (s.setPrim t p).melt = s.melt := rfl
@[simp] theorem State.setPrim_can (s : State) (t : Nat) (p : Option Prim) : (s.setPrim t p).can = s.can := rfl
@[simp] theorem State.setPrim_planes (s : State) (t : Nat) (p : Option Prim) : (s.setPrim t p).planes = s.planes := rfl
@[simp] theorem State.setPrim_firn (s : State) (t : Nat) (p : Option Prim) : (s.setPrim t p).firn = s.firn := rfl
@[simp] theorem State.setPrim_sast (s : State) (t : Nat) (p : Option Prim) : (s.setPrim t p).sast = s.sast := rfl
@[simp] theorem State.setPrim_snow (s : State) (t : Nat) (p : Option Prim) : (s.setPrim t p).snow = s.snow := rfl
@[simp] theorem State.setPrim_src (s : State) (t : Nat) (p : Option Prim) : (s.setPrim t p).src = s.src := rfl
@[simp] theorem State.setPrim_mor (s : State) (t : Nat) (p : Option Prim) : (s.setPrim t p).mor = s.mor := rfl
@[simp] theorem State.setPrim_ports (s : State) (t : Nat) (p : Option Prim) : (s.setPrim t p).ports = s.ports := rfl
@[simp] theorem State.setPrim_pair (s : State) (t : Nat) (p : Option Prim) : (s.setPrim t p).pair = s.pair := rfl
@[simp] theorem State.setPrim_floe (s : State) (t : Nat) (p : Option Prim) : (s.setPrim t p).floe = s.floe := rfl
@[simp] theorem State.setPrim_vlt (s : State) (t : Nat) (p : Option Prim) : (s.setPrim t p).vlt = s.vlt := rfl
@[simp] theorem State.setPrim_icf (s : State) (t : Nat) (p : Option Prim) : (s.setPrim t p).icf = s.icf := rfl
@[simp] theorem State.setPrim_board (s : State) (t : Nat) (p : Option Prim) : (s.setPrim t p).board = s.board := rfl
@[simp] theorem State.setPrim_rime (s : State) (t : Nat) (p : Option Prim) : (s.setPrim t p).rime = s.rime := rfl
@[simp] theorem State.setPrim_ice (s : State) (t : Nat) (p : Option Prim) : (s.setPrim t p).ice = s.ice := rfl
@[simp] theorem State.setPrim_faults (s : State) (t : Nat) (p : Option Prim) : (s.setPrim t p).faults = s.faults := rfl
@[simp] theorem State.setPrim_out (s : State) (t : Nat) (p : Option Prim) : (s.setPrim t p).out = s.out := rfl

/-! `reach` -/
@[simp] theorem State.reach_pending (s : State) (t : Nat) : (s.reach t).pending = s.pending := rfl
@[simp] theorem State.reach_free (s : State) (t : Nat) : (s.reach t).free = s.free := rfl
@[simp] theorem State.reach_regs (s : State) (t : Nat) : (s.reach t).regs = s.regs := rfl
@[simp] theorem State.reach_latch (s : State) (t : Nat) : (s.reach t).latch = s.latch := rfl
@[simp] theorem State.reach_gnor (s : State) (t : Nat) : (s.reach t).gnor = s.gnor := rfl
@[simp] theorem State.reach_mem (s : State) (t : Nat) : (s.reach t).mem = s.mem := rfl
@[simp] theorem State.reach_lum (s : State) (t : Nat) : (s.reach t).lum = s.lum := rfl
@[simp] theorem State.reach_crq (s : State) (t : Nat) : (s.reach t).crq = s.crq := rfl
@[simp] theorem State.reach_time (s : State) (t : Nat) : (s.reach t).time = s.time := rfl
@[simp] theorem State.reach_melt (s : State) (t : Nat) : (s.reach t).melt = s.melt := rfl
@[simp] theorem State.reach_can (s : State) (t : Nat) : (s.reach t).can = s.can := rfl
@[simp] theorem State.reach_planes (s : State) (t : Nat) : (s.reach t).planes = s.planes := rfl
@[simp] theorem State.reach_firn (s : State) (t : Nat) : (s.reach t).firn = s.firn := rfl
@[simp] theorem State.reach_sast (s : State) (t : Nat) : (s.reach t).sast = s.sast := rfl
@[simp] theorem State.reach_snow (s : State) (t : Nat) : (s.reach t).snow = s.snow := rfl
@[simp] theorem State.reach_src (s : State) (t : Nat) : (s.reach t).src = s.src := rfl
@[simp] theorem State.reach_mor (s : State) (t : Nat) : (s.reach t).mor = s.mor := rfl
@[simp] theorem State.reach_ports (s : State) (t : Nat) : (s.reach t).ports = s.ports := rfl
@[simp] theorem State.reach_pair (s : State) (t : Nat) : (s.reach t).pair = s.pair := rfl
@[simp] theorem State.reach_floe (s : State) (t : Nat) : (s.reach t).floe = s.floe := rfl
@[simp] theorem State.reach_vlt (s : State) (t : Nat) : (s.reach t).vlt = s.vlt := rfl
@[simp] theorem State.reach_icf (s : State) (t : Nat) : (s.reach t).icf = s.icf := rfl
@[simp] theorem State.reach_board (s : State) (t : Nat) : (s.reach t).board = s.board := rfl
@[simp] theorem State.reach_rime (s : State) (t : Nat) : (s.reach t).rime = s.rime := rfl
@[simp] theorem State.reach_ice (s : State) (t : Nat) : (s.reach t).ice = s.ice := rfl
@[simp] theorem State.reach_faults (s : State) (t : Nat) : (s.reach t).faults = s.faults := rfl
@[simp] theorem State.reach_out (s : State) (t : Nat) : (s.reach t).out = s.out := rfl

/-! `silent` -/
@[simp] theorem State.silent_pending (s : State) : (s.silent).pending = s.pending := rfl
@[simp] theorem State.silent_now (s : State) : (s.silent).now = s.now := rfl
@[simp] theorem State.silent_free (s : State) : (s.silent).free = s.free := rfl
@[simp] theorem State.silent_regs (s : State) : (s.silent).regs = s.regs := rfl
@[simp] theorem State.silent_latch (s : State) : (s.silent).latch = s.latch := rfl
@[simp] theorem State.silent_gnor (s : State) : (s.silent).gnor = s.gnor := rfl
@[simp] theorem State.silent_mem (s : State) : (s.silent).mem = s.mem := rfl
@[simp] theorem State.silent_lum (s : State) : (s.silent).lum = s.lum := rfl
@[simp] theorem State.silent_crq (s : State) : (s.silent).crq = s.crq := rfl
@[simp] theorem State.silent_time (s : State) : (s.silent).time = s.time := rfl
@[simp] theorem State.silent_melt (s : State) : (s.silent).melt = s.melt := rfl
@[simp] theorem State.silent_can (s : State) : (s.silent).can = s.can := rfl
@[simp] theorem State.silent_planes (s : State) : (s.silent).planes = s.planes := rfl
@[simp] theorem State.silent_firn (s : State) : (s.silent).firn = s.firn := rfl
@[simp] theorem State.silent_sast (s : State) : (s.silent).sast = s.sast := rfl
@[simp] theorem State.silent_snow (s : State) : (s.silent).snow = s.snow := rfl
@[simp] theorem State.silent_src (s : State) : (s.silent).src = s.src := rfl
@[simp] theorem State.silent_mor (s : State) : (s.silent).mor = s.mor := rfl
@[simp] theorem State.silent_ports (s : State) : (s.silent).ports = s.ports := rfl
@[simp] theorem State.silent_pair (s : State) : (s.silent).pair = s.pair := rfl
@[simp] theorem State.silent_floe (s : State) : (s.silent).floe = s.floe := rfl
@[simp] theorem State.silent_vlt (s : State) : (s.silent).vlt = s.vlt := rfl
@[simp] theorem State.silent_icf (s : State) : (s.silent).icf = s.icf := rfl
@[simp] theorem State.silent_board (s : State) : (s.silent).board = s.board := rfl
@[simp] theorem State.silent_rime (s : State) : (s.silent).rime = s.rime := rfl
@[simp] theorem State.silent_ice (s : State) : (s.silent).ice = s.ice := rfl
@[simp] theorem State.silent_faults (s : State) : (s.silent).faults = s.faults := rfl

/-! `done` -/
@[simp] theorem State.done_pending (s : State) (stat : Nat) (e : Fld) (cc : Nat) : (s.done stat e cc).pending = s.pending := by
  simp [State.done]
@[simp] theorem State.done_now (s : State) (stat : Nat) (e : Fld) (cc : Nat) : (s.done stat e cc).now = s.now := by
  simp [State.done]
@[simp] theorem State.done_free (s : State) (stat : Nat) (e : Fld) (cc : Nat) : (s.done stat e cc).free = s.free := by
  simp [State.done]
@[simp] theorem State.done_latch (s : State) (stat : Nat) (e : Fld) (cc : Nat) : (s.done stat e cc).latch = s.latch := by
  simp [State.done]
@[simp] theorem State.done_gnor (s : State) (stat : Nat) (e : Fld) (cc : Nat) : (s.done stat e cc).gnor = s.gnor := by
  simp [State.done]
@[simp] theorem State.done_mem (s : State) (stat : Nat) (e : Fld) (cc : Nat) : (s.done stat e cc).mem = s.mem := by
  simp [State.done]
@[simp] theorem State.done_lum (s : State) (stat : Nat) (e : Fld) (cc : Nat) : (s.done stat e cc).lum = s.lum := by
  simp [State.done]
@[simp] theorem State.done_crq (s : State) (stat : Nat) (e : Fld) (cc : Nat) : (s.done stat e cc).crq = s.crq := by
  simp [State.done]
@[simp] theorem State.done_time (s : State) (stat : Nat) (e : Fld) (cc : Nat) : (s.done stat e cc).time = s.time := by
  simp [State.done]
@[simp] theorem State.done_melt (s : State) (stat : Nat) (e : Fld) (cc : Nat) : (s.done stat e cc).melt = s.melt := by
  simp [State.done]
@[simp] theorem State.done_can (s : State) (stat : Nat) (e : Fld) (cc : Nat) : (s.done stat e cc).can = s.can := by
  simp [State.done]
@[simp] theorem State.done_planes (s : State) (stat : Nat) (e : Fld) (cc : Nat) : (s.done stat e cc).planes = s.planes := by
  simp [State.done]
@[simp] theorem State.done_firn (s : State) (stat : Nat) (e : Fld) (cc : Nat) : (s.done stat e cc).firn = s.firn := by
  simp [State.done]
@[simp] theorem State.done_sast (s : State) (stat : Nat) (e : Fld) (cc : Nat) : (s.done stat e cc).sast = s.sast := by
  simp [State.done]
@[simp] theorem State.done_snow (s : State) (stat : Nat) (e : Fld) (cc : Nat) : (s.done stat e cc).snow = s.snow := by
  simp [State.done]
@[simp] theorem State.done_src (s : State) (stat : Nat) (e : Fld) (cc : Nat) : (s.done stat e cc).src = s.src := by
  simp [State.done]
@[simp] theorem State.done_mor (s : State) (stat : Nat) (e : Fld) (cc : Nat) : (s.done stat e cc).mor = s.mor := by
  simp [State.done]
@[simp] theorem State.done_ports (s : State) (stat : Nat) (e : Fld) (cc : Nat) : (s.done stat e cc).ports = s.ports := by
  simp [State.done]
@[simp] theorem State.done_pair (s : State) (stat : Nat) (e : Fld) (cc : Nat) : (s.done stat e cc).pair = s.pair := by
  simp [State.done]
@[simp] theorem State.done_floe (s : State) (stat : Nat) (e : Fld) (cc : Nat) : (s.done stat e cc).floe = s.floe := by
  simp [State.done]
@[simp] theorem State.done_vlt (s : State) (stat : Nat) (e : Fld) (cc : Nat) : (s.done stat e cc).vlt = s.vlt := by
  simp [State.done]
@[simp] theorem State.done_icf (s : State) (stat : Nat) (e : Fld) (cc : Nat) : (s.done stat e cc).icf = s.icf := by
  simp [State.done]
@[simp] theorem State.done_board (s : State) (stat : Nat) (e : Fld) (cc : Nat) : (s.done stat e cc).board = s.board := by
  simp [State.done]
@[simp] theorem State.done_rime (s : State) (stat : Nat) (e : Fld) (cc : Nat) : (s.done stat e cc).rime = s.rime := by
  simp [State.done]
@[simp] theorem State.done_ice (s : State) (stat : Nat) (e : Fld) (cc : Nat) : (s.done stat e cc).ice = s.ice := by
  simp [State.done]
@[simp] theorem State.done_faults (s : State) (stat : Nat) (e : Fld) (cc : Nat) : (s.done stat e cc).faults = s.faults := by
  simp [State.done]
@[simp] theorem State.done_out (s : State) (stat : Nat) (e : Fld) (cc : Nat) : (s.done stat e cc).out = s.out := by
  simp [State.done]

/-! `setG` -/
@[simp] theorem State.setG_pending (s : State) (t : Nat) (r : GReg) (v : Dword) : (s.setG t r v).pending = s.pending := by
  unfold State.setG; split <;> rfl
@[simp] theorem State.setG_now (s : State) (t : Nat) (r : GReg) (v : Dword) : (s.setG t r v).now = s.now := by
  unfold State.setG; split <;> rfl
@[simp] theorem State.setG_free (s : State) (t : Nat) (r : GReg) (v : Dword) : (s.setG t r v).free = s.free := by
  unfold State.setG; split <;> rfl
@[simp] theorem State.setG_regs (s : State) (t : Nat) (r : GReg) (v : Dword) : (s.setG t r v).regs = s.regs := by
  unfold State.setG; split <;> rfl
@[simp] theorem State.setG_latch (s : State) (t : Nat) (r : GReg) (v : Dword) : (s.setG t r v).latch = s.latch := by
  unfold State.setG; split <;> rfl
@[simp] theorem State.setG_mem (s : State) (t : Nat) (r : GReg) (v : Dword) : (s.setG t r v).mem = s.mem := by
  unfold State.setG; split <;> rfl
@[simp] theorem State.setG_lum (s : State) (t : Nat) (r : GReg) (v : Dword) : (s.setG t r v).lum = s.lum := by
  unfold State.setG; split <;> rfl
@[simp] theorem State.setG_crq (s : State) (t : Nat) (r : GReg) (v : Dword) : (s.setG t r v).crq = s.crq := by
  unfold State.setG; split <;> rfl
@[simp] theorem State.setG_time (s : State) (t : Nat) (r : GReg) (v : Dword) : (s.setG t r v).time = s.time := by
  unfold State.setG; split <;> rfl
@[simp] theorem State.setG_melt (s : State) (t : Nat) (r : GReg) (v : Dword) : (s.setG t r v).melt = s.melt := by
  unfold State.setG; split <;> rfl
@[simp] theorem State.setG_can (s : State) (t : Nat) (r : GReg) (v : Dword) : (s.setG t r v).can = s.can := by
  unfold State.setG; split <;> rfl
@[simp] theorem State.setG_planes (s : State) (t : Nat) (r : GReg) (v : Dword) : (s.setG t r v).planes = s.planes := by
  unfold State.setG; split <;> rfl
@[simp] theorem State.setG_firn (s : State) (t : Nat) (r : GReg) (v : Dword) : (s.setG t r v).firn = s.firn := by
  unfold State.setG; split <;> rfl
@[simp] theorem State.setG_sast (s : State) (t : Nat) (r : GReg) (v : Dword) : (s.setG t r v).sast = s.sast := by
  unfold State.setG; split <;> rfl
@[simp] theorem State.setG_snow (s : State) (t : Nat) (r : GReg) (v : Dword) : (s.setG t r v).snow = s.snow := by
  unfold State.setG; split <;> rfl
@[simp] theorem State.setG_src (s : State) (t : Nat) (r : GReg) (v : Dword) : (s.setG t r v).src = s.src := by
  unfold State.setG; split <;> rfl
@[simp] theorem State.setG_mor (s : State) (t : Nat) (r : GReg) (v : Dword) : (s.setG t r v).mor = s.mor := by
  unfold State.setG; split <;> rfl
@[simp] theorem State.setG_ports (s : State) (t : Nat) (r : GReg) (v : Dword) : (s.setG t r v).ports = s.ports := by
  unfold State.setG; split <;> rfl
@[simp] theorem State.setG_pair (s : State) (t : Nat) (r : GReg) (v : Dword) : (s.setG t r v).pair = s.pair := by
  unfold State.setG; split <;> rfl
@[simp] theorem State.setG_floe (s : State) (t : Nat) (r : GReg) (v : Dword) : (s.setG t r v).floe = s.floe := by
  unfold State.setG; split <;> rfl
@[simp] theorem State.setG_vlt (s : State) (t : Nat) (r : GReg) (v : Dword) : (s.setG t r v).vlt = s.vlt := by
  unfold State.setG; split <;> rfl
@[simp] theorem State.setG_icf (s : State) (t : Nat) (r : GReg) (v : Dword) : (s.setG t r v).icf = s.icf := by
  unfold State.setG; split <;> rfl
@[simp] theorem State.setG_board (s : State) (t : Nat) (r : GReg) (v : Dword) : (s.setG t r v).board = s.board := by
  unfold State.setG; split <;> rfl
@[simp] theorem State.setG_rime (s : State) (t : Nat) (r : GReg) (v : Dword) : (s.setG t r v).rime = s.rime := by
  unfold State.setG; split <;> rfl
@[simp] theorem State.setG_ice (s : State) (t : Nat) (r : GReg) (v : Dword) : (s.setG t r v).ice = s.ice := by
  unfold State.setG; split <;> rfl
@[simp] theorem State.setG_faults (s : State) (t : Nat) (r : GReg) (v : Dword) : (s.setG t r v).faults = s.faults := by
  unfold State.setG; split <;> rfl
@[simp] theorem State.setG_out (s : State) (t : Nat) (r : GReg) (v : Dword) : (s.setG t r v).out = s.out := by
  unfold State.setG; split <;> rfl

end Sys2Proof.Machine
end

