-- ==== Sys2Proof/Laws/Regs.lean ====
section
/-!
SUPPORT. Sys2Proof/Laws/Regs.lean: reading a register or a field after writing one.
-/

namespace Sys2Proof

/-- A bit of a number with a field replaced: the field's bits are the new value's, every other bit is the old one. -/
theorem testBit_withBits (x lo w v i : Nat) :
    (withBits x lo w v).testBit i
      = if i < lo then x.testBit i else if i < lo + w then v.testBit (i - lo) else x.testBit i := by
  have h1 : x % 2 ^ lo < 2 ^ lo := Nat.mod_lt _ (Nat.two_pow_pos _)
  have h2 : (v % 2 ^ w) <<< lo + x % 2 ^ lo = (v % 2 ^ w) <<< lo ||| x % 2 ^ lo := by
    rw [Nat.shiftLeft_eq, Nat.mul_comm]; exact Nat.two_pow_add_eq_or_of_lt h1 _
  have h3 : (v % 2 ^ w) <<< lo + x % 2 ^ lo < 2 ^ (lo + w) := by
    have : v % 2 ^ w < 2 ^ w := Nat.mod_lt _ (Nat.two_pow_pos _)
    rw [Nat.shiftLeft_eq, Nat.pow_add]
    calc v % 2 ^ w * 2 ^ lo + x % 2 ^ lo < v % 2 ^ w * 2 ^ lo + 2 ^ lo := by omega
      _ = (v % 2 ^ w + 1) * 2 ^ lo := by rw [Nat.add_mul, Nat.one_mul]
      _ ≤ 2 ^ w * 2 ^ lo := Nat.mul_le_mul_right _ this
      _ = 2 ^ lo * 2 ^ w := Nat.mul_comm _ _
  have h4 : withBits x lo w v
      = (x >>> (lo + w)) <<< (lo + w) ||| ((v % 2 ^ w) <<< lo ||| x % 2 ^ lo) := by
    rw [← h2, Nat.shiftLeft_eq (x >>> (lo + w)), Nat.mul_comm (x >>> (lo + w)),
      ← Nat.two_pow_add_eq_or_of_lt h3, withBits, Nat.shiftLeft_eq (x >>> (lo + w)), Nat.mul_comm (x >>> (lo + w))]
    omega
  rw [h4]
  simp only [Nat.testBit_or, Nat.testBit_shiftLeft, Nat.testBit_shiftRight, Nat.testBit_mod_two_pow]
  by_cases a : i < lo
  · have : ¬ lo + w ≤ i := by omega
    have : ¬ lo ≤ i := by omega
    simp [*]
  · by_cases b : i < lo + w
    · have : ¬ lo + w ≤ i := by omega
      have c : lo ≤ i := by omega
      have : i - lo < w := by omega
      simp [*]
    · have c : lo + w ≤ i := by omega
      have d : lo ≤ i := by omega
      have : ¬ i - lo < w := by omega
      have : lo + w + (i - (lo + w)) = i := by omega
      simp [*]

/-- A bit of a field. -/
theorem testBit_bitsOf (x lo w i : Nat) : (bitsOf x lo w).testBit i = (decide (i < w) && x.testBit (lo + i)) := by
  simp [bitsOf, Nat.testBit_mod_two_pow, Nat.testBit_shiftRight]

/-- The field just written. -/
theorem bitsOf_withBits_same (x lo w v : Nat) : bitsOf (withBits x lo w v) lo w = v % 2 ^ w := by
  apply Nat.eq_of_testBit_eq; intro i
  rw [testBit_bitsOf, testBit_withBits, Nat.testBit_mod_two_pow]
  by_cases h : i < w
  · have : ¬ lo + i < lo := by omega
    simp [h, this]
  · simp [h]

/-- A field that shares no bit with the one written. -/
theorem bitsOf_withBits_disjoint (x lo w v lo' w' : Nat) (h : lo' + w' ≤ lo ∨ lo + w ≤ lo') :
    bitsOf (withBits x lo w v) lo' w' = bitsOf x lo' w' := by
  apply Nat.eq_of_testBit_eq; intro i
  rw [testBit_bitsOf, testBit_bitsOf, testBit_withBits]
  by_cases hi : i < w'
  · rcases h with h | h
    · have : lo' + i < lo := by omega
      simp [this]
    · have a : ¬ lo' + i < lo := by omega
      have b : ¬ lo' + i < lo + w := by omega
      simp [a, b]
  · simp [hi]

/-- Bits within the low 32 survive the cut to a word. -/
theorem bitsOf_mod (x lo w : Nat) (h : lo + w ≤ 32) : bitsOf (x % 2 ^ 32) lo w = bitsOf x lo w := by
  apply Nat.eq_of_testBit_eq; intro i
  rw [testBit_bitsOf, testBit_bitsOf, Nat.testBit_mod_two_pow]
  by_cases hi : i < w
  · have : lo + i < 32 := by omega
    simp [this]
  · simp [hi]

namespace Machine

@[simp] theorem State.reg_setReg_same (s : State) (a : Nat) (v : Word) : (s.setReg a v).reg a = v :=
  SMap.get_put_same ..

theorem State.reg_setReg_ne (s : State) {a b : Nat} (v : Word) (h : b ≠ a) : (s.setReg a v).reg b = s.reg b :=
  SMap.get_put_ne _ _ _ h

/-- A register other than the one that holds the field. -/
theorem State.reg_wr_ne (s : State) (f : Fld) (v : Nat) {b : Nat} (h : b ≠ f.a) : (s.wr f v).reg b = s.reg b :=
  State.reg_setReg_ne _ _ h

/-- The field just written reads back, cut to its width. -/
theorem State.rd_wr_same (s : State) (f : Fld) (v : Nat) (h : f.lo + f.w ≤ 32) : (s.wr f v).rd f = v % 2 ^ f.w := by
  unfold State.rd State.wr
  rw [State.reg_setReg_same, BitVec.toNat_ofNat, bitsOf_mod _ _ _ h, bitsOf_withBits_same]

/-- A field of another register. -/
theorem State.rd_wr_ne (s : State) (f g : Fld) (v : Nat) (h : g.a ≠ f.a) : (s.wr f v).rd g = s.rd g := by
  unfold State.rd
  rw [State.reg_wr_ne _ _ _ h]

/-- A field of the same register that shares no bit with the one written. -/
theorem State.rd_wr_disjoint (s : State) (f g : Fld) (v : Nat) (ha : g.a = f.a) (hg : g.lo + g.w ≤ 32)
    (h : g.lo + g.w ≤ f.lo ∨ f.lo + f.w ≤ g.lo) : (s.wr f v).rd g = s.rd g := by
  unfold State.rd State.wr
  rw [ha, State.reg_setReg_same, BitVec.toNat_ofNat, bitsOf_mod _ _ _ hg, bitsOf_withBits_disjoint _ _ _ _ _ _ h]

/-- What reads as on is what does not read 0. -/
theorem State.on_iff (s : State) (f : Fld) : s.on f = true ↔ s.rd f ≠ 0 := by simp [State.on]

/-- States with one register file read alike. -/
theorem State.rd_congr {s t : State} (h : s.regs = t.regs) (f : Fld) : s.rd f = t.rd f := by
  simp [State.rd, State.reg, h]

/-- Writing a register keeps the register file in its canonical form. -/
theorem State.wf_setReg (s : State) (a : Nat) (v : Word) (h : SMap.wf resetOf s.regs = true) :
    SMap.wf resetOf (s.setReg a v).regs = true := SMap.wf_put _ _ _ h

end Machine

end Sys2Proof
end

