-- ==== Sys2Proof/Laws/Gnor.lean ====
section
/-!
SUPPORT. Sys2Proof/Laws/Gnor.lean: what issuing an instruction comes to, and the registers of a thread after a write.
-/

namespace Sys2Proof.Machine

/-- An instruction whose fetch raises no exception: its body acts on the state after the fetch, then it retires, and
what it signals ends waits. -/
theorem State.issue_done {s u : State} {t : Nat} {pc : BitVec 40} (h : Issues s t pc u) (body : State → Res) :
    s.issue t body = (s.settle t).settled (State.retire t pc (body u)) := by
  obtain ⟨h1, h2, h3⟩ := h
  simp [State.issue, h1, h2, h3]

/-- The keys under which two threads' general registers stand differ where the thread or the register does. -/
theorem gkey_ne {t t' : Nat} {r r' : GReg} (h : ¬(t = t' ∧ r = r')) : 32 * t' + r'.toNat ≠ 32 * t + r.toNat := by
  intro e
  have a := r.isLt; have b := r'.isLt
  apply h
  have : t = t' := by omega
  exact ⟨this, BitVec.eq_of_toNat_eq (by omega)⟩

/-- The keys under which two threads' wide registers stand differ where the thread or the register does. -/
theorem wkey_ne {t t' : Nat} {r r' : WReg} (h : ¬(t = t' ∧ r = r')) : 8 * t' + r'.toNat ≠ 8 * t + r.toNat := by
  intro e
  have a := r.isLt; have b := r'.isLt
  apply h
  have : t = t' := by omega
  exact ⟨this, BitVec.eq_of_toNat_eq (by omega)⟩

@[simp] theorem State.pc_setPc_same (s : State) (t : Nat) (v : BitVec 40) : (s.setPc t v).pc t = v :=
  SMap.get_put_same ..

theorem State.pc_setPc_ne (s : State) {t t' : Nat} (v : BitVec 40) (h : t' ≠ t) : (s.setPc t v).pc t' = s.pc t' :=
  SMap.get_put_ne _ _ _ h

/-- Where an instruction has left the register file as it was, no wait ends by it. -/
theorem State.settled_same {u v : State} (h : v.regs = u.regs) : u.settled v = v := by simp [State.settled, h]

/-- Everything an issue can do: nothing but the end of a wait that is over; an exception of the fetch; or the instruction's body
on the state after the fetch, and its retirement; where the register file has changed, `State.settled` ends waits. -/
theorem State.issue_cases (s : State) (t : Nat) (body : State → Res) :
    ((s.settle t).mayIssue t = false ∧ s.issue t body = s.settle t) ∨
    ((s.settle t).mayIssue t = true ∧
      let pc := (s.settle t).pc t
      ((∃ cc u, (s.settle t).fetch (cacheCore t) pc.toNat = (.denied cc, u) ∧
          s.issue t body = (s.settle t).settled (u.takeException t 0x03 cc pc.toNat pc)) ∨
       (∃ u, (s.settle t).fetch (cacheCore t) pc.toNat = (.poison, u) ∧
          s.issue t body = (s.settle t).settled (u.takeException t 0x04 ccUe pc.toNat pc)) ∨
       ∃ u, (s.settle t).fetch (cacheCore t) pc.toNat = (.done, u) ∧
         s.issue t body = (s.settle t).settled (State.retire t pc (body u)))) := by
  cases hm : (s.settle t).mayIssue t with
  | false => exact .inl ⟨rfl, by simp [State.issue, hm]⟩
  | true =>
    refine .inr ⟨rfl, ?_⟩
    rcases hf : (s.settle t).fetch (cacheCore t) ((s.settle t).pc t).toNat with ⟨a, u⟩
    cases a with
    | denied cc => exact .inl ⟨cc, u, hf, by simp [State.issue, hm, hf]⟩
    | poison => exact .inr (.inl ⟨u, hf, by simp [State.issue, hm, hf]⟩)
    | done => exact .inr (.inr ⟨u, hf, by simp [State.issue, hm, hf]⟩)

/-- A command whose operands name something that exists has its effect; one whose operands do not changes nothing. -/
theorem State.cmdIf_true {s : State} {ok : Bool} (h : ok = true) (f : State → State) : s.cmdIf ok f = s.follow (f s.silent) := by
  simp [State.cmdIf, State.cmd, h]
theorem State.cmdIf_false {s : State} {ok : Bool} (h : ok = false) (f : State → State) : s.cmdIf ok f = s := by
  simp [State.cmdIf, h]

end Sys2Proof.Machine
end

