-- ==== Sys2Proof/Laws/Memory.lean ====
section
/-!
SUPPORT. Sys2Proof/Laws/Memory.lean: every operation over memory keeps the canonical form of the byte memories, and what a
read of DRAM or of an SRAM gives after a write.
-/

namespace Sys2Proof.Machine

/-- The memories right after reset list nothing. -/
theorem Mem.wf_reset : Mem.wf State.reset.mem = true := by decide +kernel

/-- The canonical form speaks of the four byte memories alone. -/
theorem Mem.wf_congr {m n : Mem} (h1 : m.dram = n.dram) (h2 : m.lsram = n.lsram) (h3 : m.csram = n.csram)
    (h4 : m.crqSram = n.crqSram) (h : Mem.wf m = true) : Mem.wf n = true := by
  simpa [Mem.wf, h1, h2, h3, h4] using h

theorem Mem.wf_dram {m : Mem} {d : SMap Byte} (h : Mem.wf m = true) (hd : SMap.wf zeroByte d = true) :
    Mem.wf { m with dram := d } = true := by
  simp only [Mem.wf, Bool.and_eq_true] at h ⊢; exact ⟨⟨⟨hd, h.1.1.2⟩, h.1.2⟩, h.2⟩

theorem Mem.dram_wf {m : Mem} (h : Mem.wf m = true) : SMap.wf zeroByte m.dram = true := by
  simp only [Mem.wf, Bool.and_eq_true] at h; exact h.1.1.1

/-! ## Each operation keeps the form -/

theorem State.wf_putDramByte {s : State} (a : Nat) (b : Byte) (h : Mem.wf s.mem = true) :
    Mem.wf (s.putDramByte a b).mem = true := by
  unfold State.putDramByte; split
  · exact h
  · exact Mem.wf_dram h (SMap.wf_put _ _ _ (Mem.dram_wf h))

theorem State.wf_putDramBytes {s : State} (a : Nat) (bs : List Byte) (h : Mem.wf s.mem = true) :
    Mem.wf (s.putDramBytes a bs).mem = true := by
  induction bs generalizing s a with
  | nil => exact h
  | cons b bs ih => exact ih _ (State.wf_putDramByte a b h)

theorem State.wf_healDram {s : State} (a n : Nat) (h : Mem.wf s.mem = true) : Mem.wf (s.healDram a n).mem = true := h

theorem State.mem_ite (c : Bool) {u v : State} {m : Mem} (hu : u.mem = m) (hv : v.mem = m) : (if c then u else v).mem = m := by
  cases c <;> assumption

@[simp] theorem State.eccUe_mem (s : State) (source a : Nat) : (s.eccUe source a).mem = s.mem :=
  State.mem_ite _ (by rw [State.up_mem, State.up_mem])
    (by rw [State.up_mem, State.wr_mem, State.wr_mem, State.wr_mem, State.up_mem])

@[simp] theorem State.eccCe_mem (s : State) (n : Nat) : (s.eccCe n).mem = s.mem := by
  unfold State.eccCe; split
  · rfl
  · rw [State.up_mem, State.count_mem]

@[simp] theorem State.dramUe_mem (s : State) (a n : Nat) : (s.dramUe a n).mem = s.mem := by
  unfold State.dramUe
  generalize s.dramPoisonOf a n = l
  induction l generalizing s with
  | nil => rfl
  | cons w l ih => rw [List.foldl_cons, ih, State.eccUe_mem]

@[simp] theorem State.sramUe_mem (s : State) (r : Region) (core a n : Nat) : (s.sramUe r core a n).mem = s.mem :=
  State.eccUe_mem _ _ _

theorem State.wf_mendDram {s : State} (a n : Nat) (h : Mem.wf s.mem = true) : Mem.wf (s.mendDram a n).mem = true := by
  unfold State.mendDram; rw [State.eccCe_mem]; exact h

theorem State.wf_putDramBut {s : State} (k : Nat → Bool) (a : Nat) (bs : List Byte) (h : Mem.wf s.mem = true) :
    Mem.wf (s.putDramBut k a bs).mem = true := by
  induction bs generalizing s a with
  | nil => exact h
  | cons b bs ih =>
    unfold State.putDramBut; split
    · exact ih _ h
    · exact ih _ (State.wf_putDramByte a b h)

theorem State.wf_dmaWrite {s : State} (a : Nat) (bs : List Byte) (h : Mem.wf s.mem = true) :
    Mem.wf (s.dmaWrite a bs).2.mem = true := by
  unfold State.dmaWrite; dsimp only
  split
  · exact h
  split
  · exact h
  have ht := State.wf_mendDram a bs.length (State.wf_healDram a bs.length h)
  split
  · rw [State.dramUe_mem]; exact State.wf_putDramBut _ _ _ ht
  · exact State.wf_putDramBytes a bs ht

theorem State.wf_putSram {s : State} (r : Region) (core a : Nat) (bs : List Byte) (h : Mem.wf s.mem = true) :
    Mem.wf (s.putSram r core a bs).mem = true := by
  have h' := h
  simp only [Mem.wf, Bool.and_eq_true] at h'
  unfold State.putSram; split
  · simp only [Mem.wf, Bool.and_eq_true]; exact ⟨⟨⟨h'.1.1.1, SMap.wf_putList _ _ _ _ h'.1.1.2⟩, h'.1.2⟩, h'.2⟩
  · simp only [Mem.wf, Bool.and_eq_true]; exact ⟨⟨⟨h'.1.1.1, h'.1.1.2⟩, SMap.wf_putList _ _ _ _ h'.1.2⟩, h'.2⟩
  · simp only [Mem.wf, Bool.and_eq_true]; exact ⟨⟨⟨h'.1.1.1, h'.1.1.2⟩, h'.1.2⟩, SMap.wf_putList _ _ _ _ h'.2⟩
  · exact h

theorem State.wf_setMarks {s : State} (r : Region) (ue ce : NSet) (h : Mem.wf s.mem = true) :
    Mem.wf (s.setMarks r ue ce).mem = true := by
  unfold State.setMarks; split <;> exact h

theorem State.wf_healSram {s : State} (r : Region) (core a n : Nat) (h : Mem.wf s.mem = true) :
    Mem.wf (s.healSram r core a n).mem = true := State.wf_setMarks _ _ _ h

theorem State.wf_mendSram {s : State} (r : Region) (core a n : Nat) (h : Mem.wf s.mem = true) :
    Mem.wf (s.mendSram r core a n).mem = true := by
  unfold State.mendSram; dsimp only; rw [State.eccCe_mem]; exact State.wf_setMarks _ _ _ h

/-- A write of SRAM keeps the form. -/
theorem State.wf_writeSram {s : State} (r : Region) (core a : Nat) (bs : List Byte) (h : Mem.wf s.mem = true) :
    Mem.wf (s.writeSram r core a bs).mem = true :=
  State.wf_putSram _ _ _ _ (State.wf_mendSram _ _ _ _ (State.wf_healSram _ _ _ _ h))

theorem State.wf_landWord {s : State} (a : Nat) (bs : List Byte) (h : Mem.wf s.mem = true) :
    Mem.wf (s.landWord a bs).mem = true := by
  unfold State.landWord; split
  · exact h
  · exact State.wf_putDramBytes a bs h

theorem State.wf_landWB {s : State} (w : WB) (h : Mem.wf s.mem = true) : Mem.wf (s.landWB w).mem = true := by
  unfold State.landWB
  generalize w.words = l
  induction l generalizing s with
  | nil => exact h
  | cons p l ih => exact ih (State.wf_landWord _ _ h)

theorem State.wf_landWBs {s : State} (p : WB → Bool) (h : Mem.wf s.mem = true) : Mem.wf (s.landWBs p).mem = true := by
  have hf : ∀ (l : List WB) (t : State), Mem.wf t.mem = true → Mem.wf (l.foldl State.landWB t).mem = true := by
    intro l; induction l with
    | nil => exact fun _ h => h
    | cons w l ih => exact fun t h => ih _ (State.wf_landWB w h)
  exact Mem.wf_congr rfl rfl rfl rfl (hf _ s h)

theorem State.wf_evictD {s : State} (o : Option Nat) (l : DLine) (h : Mem.wf s.mem = true) : Mem.wf (s.evictD o l).mem = true := by
  unfold State.evictD State.startWB; split <;> exact h

theorem State.wf_makeRoomD {s : State} (core : Nat) (h : Mem.wf s.mem = true) : Mem.wf (s.makeRoomD core).mem = true := by
  have ho : ∀ o : Option DLine, Mem.wf (match o with
      | some l => ({ s with free := s.free + 1 } : State).evictD none l
      | none => ({ s with free := s.free + 1 } : State)).mem = true := by
    intro o; cases o with
    | none => exact h
    | some l => exact State.wf_evictD _ _ h
  unfold State.makeRoomD; dsimp only [State.draw]
  split
  · exact h
  · exact ho _

theorem State.wf_fillD {s : State} (core a : Nat) (h : Mem.wf s.mem = true) : Mem.wf (s.fillD core a).mem = true := by
  unfold State.fillD; split
  · exact h
  · exact Mem.wf_congr rfl rfl rfl rfl (State.wf_mendDram _ _ (State.wf_makeRoomD core (State.wf_landWBs _ h)))

theorem State.wf_makeRoomI {s : State} (core : Nat) (h : Mem.wf s.mem = true) : Mem.wf (s.makeRoomI core).mem = true := by
  have ho : ∀ o : Option ILine, Mem.wf (match o with
      | some l => ({ s with free := s.free + 1, mem := { s.mem with
          icache := s.mem.icache.filter (fun m => !(m.core == l.core && m.addr == l.addr)) } } : State)
      | none => ({ s with free := s.free + 1 } : State)).mem = true := by
    intro o; cases o <;> exact h
  unfold State.makeRoomI; dsimp only [State.draw]
  split
  · exact h
  · exact ho _

theorem State.wf_fillI {s : State} (core a : Nat) (h : Mem.wf s.mem = true) : Mem.wf (s.fillI core a).mem = true := by
  unfold State.fillI; split
  · exact h
  · exact Mem.wf_congr rfl rfl rfl rfl (State.wf_mendDram _ _ (State.wf_makeRoomI core h))

/-- A fetch keeps the form. -/
theorem State.wf_fetch {s : State} (core a : Nat) (h : Mem.wf s.mem = true) : Mem.wf (s.fetch core a).2.mem = true := by
  have hf := State.wf_fillI core a h
  unfold State.fetch; split
  · dsimp only; split
    · split
      · rw [State.eccUe_mem]; exact hf
      · exact hf
    · exact hf
  · dsimp only; split <;> exact h
  · dsimp only; split <;> exact h
  · dsimp only; split
    · rw [State.sramUe_mem]; exact State.wf_mendSram _ _ _ _ h
    · exact State.wf_mendSram _ _ _ _ h

/-- A load keeps the form. -/
theorem State.wf_loadMem {s : State} (core a n : Nat) (h : Mem.wf s.mem = true) : Mem.wf (s.loadMem core a n).2.2.mem = true := by
  have hf := State.wf_fillD core a h
  unfold State.loadMem; split
  · dsimp only; split
    · split
      · rw [State.eccUe_mem]; exact hf
      · exact hf
    · exact hf
  · exact h
  · exact h
  · dsimp only; split
    · rw [State.sramUe_mem]; exact State.wf_mendSram _ _ _ _ h
    · exact State.wf_mendSram _ _ _ _ h

/-- A store keeps the form. -/
theorem State.wf_storeMem {s : State} (core a : Nat) (bs : List Byte) (h : Mem.wf s.mem = true) :
    Mem.wf (s.storeMem core a bs).2.mem = true := by
  have hf := State.wf_fillD core a h
  unfold State.storeMem; dsimp only; split
  · split
    · exact h
    · split
      · split
        · rw [State.eccUe_mem]; exact hf
        · exact hf
      · exact State.wf_putDramBytes a bs hf
  · exact h
  · exact h
  · split
    · rw [State.sramUe_mem]; exact h
    · exact State.wf_writeSram _ _ _ _ h

/-- Firn's region leaves its former place. -/
theorem State.wf_spillPlanes {s : State} (b : Nat) (h : Mem.wf s.mem = true) : Mem.wf (s.spillPlanes b).mem = true := by
  have hf : ∀ (l : List Nat) (m : SMap Byte), SMap.wf zeroByte m = true →
      SMap.wf zeroByte (l.foldl (fun m o => SMap.put zeroByte m (b + o) (s.planes.byte o)) m) = true := by
    intro l; induction l with
    | nil => exact fun _ h => h
    | cons o l ih => exact fun m h => ih _ (SMap.wf_put _ _ _ h)
  exact Mem.wf_dram h (hf _ _ (Mem.dram_wf h))

/-- A section of an image placed in memory (R131). -/
theorem State.wf_putSection {s : State} (x : Section) (h : Mem.wf s.mem = true) : Mem.wf (s.putSection x).mem = true := by
  have hs : ∀ (g : Region) (core a n : Nat) (bs : List Byte), Mem.wf ((if (s.healSram g core a n).sramPoisonIn g core a n
      then (s.healSram g core a n).sramUe g core a n else s.healSram g core a n).writeSram g core a bs).mem = true := by
    intro g core a n bs
    refine State.wf_writeSram _ _ _ _ ?_
    split
    · rw [State.sramUe_mem]; exact State.wf_healSram _ _ _ _ h
    · exact State.wf_healSram _ _ _ _ h
  unfold State.putSection; dsimp only; split
  · exact State.wf_dmaWrite _ _ h
  · exact hs _ _ _ _ _
  · exact hs _ _ _ _ _

/-- The bytes of a region pass to Firn's planes. -/
theorem State.wf_takeRegion {s : State} (b : Nat) (h : Mem.wf s.mem = true) : Mem.wf (s.takeRegion b).mem = true :=
  Mem.wf_dram h (SMap.wf_filter _ _ (Mem.dram_wf h))

/-- Control state met by a block leaves the memories. -/
theorem State.wf_ctlMet {s : State} (island k : Nat) (h : Mem.wf s.mem = true) : Mem.wf (s.ctlMet island k).mem = true := by
  have hu : ∀ (l : List Nat) (t : State), Mem.wf t.mem = true → Mem.wf (l.foldl (fun t _ => t.blockUe 3) t).mem = true := by
    intro l; induction l with
    | nil => exact fun _ h => h
    | cons _ l ih => exact fun t h => ih _ (by unfold State.blockUe; simpa [State.draw] using h)
  have hb : Mem.wf (s.blkMet 3 k).mem = true := by
    unfold State.blkMet State.metMark
    refine hu _ _ ?_
    split
    · exact h
    · rw [State.eccCe_mem]; exact h
  unfold State.ctlMet; dsimp only; split
  · exact hb
  · split
    · exact h
    · exact hb

/-! ## A read after a write -/

/-- A DRAM byte outside Firn's and Moraine's regions reads what was written to it, and every other byte as before. -/
theorem State.dramByte_putDramByte {s : State} {a : Nat} (b : Byte) (e : Nat) (ha : s.planeOff a = none)
    (he : s.planeOff e = none) (hm : s.on MOR_CTRL.EN = false) :
    (s.putDramByte a b).dramByte e = if e = a then b else s.dramByte e := by
  have hw : s.putDramByte a b = { s with mem := { s.mem with dram := SMap.put zeroByte s.mem.dram a b } } := by
    simp only [State.putDramByte, ha]
  have hp : (s.putDramByte a b).planeOff e = none := by rw [hw]; exact he
  have hm' : (s.putDramByte a b).on MOR_CTRL.EN = false := by rw [hw]; exact hm
  simp only [State.dramByte, hp, hm', he, hm, Bool.false_and, Bool.false_eq_true, if_false]
  rw [hw]
  by_cases h : e = a
  · subst h; simp
  · simp [h, SMap.get_put_ne _ _ _ h]

/-- Bytes of local SRAM just written read back. -/
theorem State.sramBytes_putSram_loc (s : State) (core a : Nat) (bs : List Byte) :
    (s.putSram .loc core a bs).sramBytes .loc core a bs.length = bs := SMap.getList_putList _ _ _ _

/-- Bytes of cluster SRAM just written read back. -/
theorem State.sramBytes_putSram_clu (s : State) (core a : Nat) (bs : List Byte) :
    (s.putSram .clu core a bs).sramBytes .clu core a bs.length = bs := SMap.getList_putList _ _ _ _

end Sys2Proof.Machine
end

