-- ==== Sys2Proof/Laws/Total.lean ====
section
/-!
SUPPORT. Sys2Proof/Laws/Total.lean: every command and every step answers a next state.
-/

namespace Sys2Proof.Machine

/-- No command faults and none is refused: the spec gives every row of the table an effect. -/
theorem exec_next (i : Instr) (s : State) : ∃ t, exec i s = .next t := by
  cases i <;> exact ⟨_, rfl⟩

/-- Every step answers a next state. -/
theorem step_next (s : State) : ∃ t, step s = .next t := by
  unfold step; split
  · exact ⟨_, rfl⟩
  · exact exec_next _ _

end Sys2Proof.Machine
end

