-- ==== Sys2Proof/Tests/Slice0.lean ====
section
/-!
SUPPORT. Sys2Proof/Tests/Slice0.lean: decoding of words written out from the encodings of the spec, ill-formed commands,
the worked examples of the spec, and for every obligation that has hypotheses a theorem witness_<Name>: states and operands
that meet them, one part for each clause (a hypothesis that only says which command is meant is met by choosing it).
-/


namespace Sys2Proof.Tests

set_option Elab.async false
set_option linter.unusedVariables false
set_option linter.unusedSimpArgs false

open Sys2Proof.Machine

/-- Every island ready, in RECOVERY. -/
def ready : State := State.reset.setReg SYS_READY.addr 0x03FFFFFF#32
/-- Every island ready, in SERVICE, HOLD held. -/
def svc : State := (ready.wr SYS_MODE.MODE 3).up PAIR_STATUS.HOLD
/-- The first word of local SRAM of core 0, where thread 0 runs. -/
def startPc : BitVec 40 := 0x80_0000_0000#40
/-- Thread 0 RUNNING at the start of its core's local SRAM. -/
def running (s : State) : State := (s.setTh 0 thRunning).setPc 0 startPc
/-- The state after the fetch. -/
def fetched (s : State) (t : Nat) (pc : BitVec 40) : State := ((s.settle t).fetch (cacheCore t) pc.toNat).2
/-- A KOP of thread 0, or of the OP command, in the vault. -/
def keyOp (t : Option Nat) (op : Nat) : State :=
  { ready.setPrim 0 (some (.kop 5 2)) with vlt := { ops := [⟨t, op, {}, [], [], 0, 0, 0, 0, {}, 0, 0⟩] } }
/-- A node of cell h with short address 2, and what Sastrugi keeps of it. -/
def aNode (h : Nat) : NodeEnt := ⟨0x105, h, 2, true, false, 5, 6, false, 0, .clean⟩
def aMac : NodeMac := ⟨4, 0, 0, 3, 0, 50, none, 0, 0, false, 0, 0, 0, none, none, 0⟩
def withNode (s : State) (n : Nat) (m : NodeMac) : State :=
  { s with src := { s.src with nodes := [(n, some (aNode 63))] }, sast := { s.sast with nodes := [(n, some m)] } }
/-- A cell with dedicated slots on eight channels, and a plan of 64 such cells. -/
def aCell : CellRec := ⟨true, [0, 1, 2, 3, 4, 5, 6, 7], 0, [1, 0x44, 6, 5] ++ List.replicate 196 0⟩
def aPlan : Plan := ⟨1, List.replicate 64 aCell⟩
def aTether : Tether := ⟨some 5, 0x105, 63, 100, 0, 2 ^ 64 - 1, 3, 0, 50, 65535, 9, 7, false, true, true⟩
def aCap : CapDesc := ⟨1, 1, 0, 0x0100, 3, 0xF, 20, 3, 77⟩
def aRx : RxInfo := ⟨63, 0, 9, -60, 2, 1, 1000, 2000, 0⟩
def aCaps : NodeCaps := ⟨1, 0, 0x105, 50, 16, 0, 4, 0, 0xF, 0x0100⟩
def onAsk (n : Option Nat) : State := { withNode svc 5 aMac with sast := { assocs := [⟨63, aCaps, n, 1, 0⟩], nodes := [(5, some aMac)] } }
/-- Meltwater runs, in SERVICE. -/
def metering : State := svc.up MELT_CTRL.EN
def aPtp : PtpMsg := ⟨0, 0, 7, false, 1000, 0, 9, 1, 0, 0⟩
def aFrame (at? : Option Nat) : LFrame := ⟨7, at?, false, [1, 2, 3]⟩
/-- A frame to launch at the head of queue q. -/
def toLaunch (s : State) (q : Nat) (at? : Option Nat) : State := { s with time := { s.time with queues := [(q, [aFrame at?])] } }
def link (s : State) (n : Nat) : State := (s.up (PORT_CTRL.EN n)).up (PORT_LINK.UP n)
def aMeas : PodWords := ⟨0, [], false⟩
/-- A frame of 60 bytes from 02:33:44:55:66:00 to an address. -/
def aEth (dst : Nat) : EthFrame := ⟨beBytes 6 dst ++ beBytes 6 0x023344556600 ++ [8, 6] ++ List.replicate 46 0, false⟩
def aSa : Sa := ⟨[], [], 0, 0, 0, false, 0, 3⟩
/-- A SAK in vault slot 63. -/
def withSak (s : State) : State := { s with vlt := { slots := [(63, ⟨5, 511, 7, []⟩)] } }
/-- A Serac command's key and data. -/
def srcAsk (k4 ra : Nat) (w : Nat := 0) : State :=
  ((((ready.wr SRC_KEY4.VALUE k4).wr64 SRC_KEY0.VALUE SRC_KEY1.VALUE ra).wr64 SRC_DATA0.VALUE SRC_DATA1.VALUE
    (w % 2 ^ 64)).wr64 SRC_DATA2.VALUE SRC_DATA3.VALUE (w / 2 ^ 64))
def withSrc (s : State) : State :=
  { s with src := { nodes := [(0, some { aNode 63 with static := true }), (2 ^ 18 - 1, some { aNode 62 with eui := 0x106, suspect := true })],
                    l2 := [(65534, some ⟨6, 7, 3, false, false, 0, 0, .clean⟩), (65535, some ⟨5, 7, 3, true, false, 0, 0, .clean⟩)],
                    pfx := [s.srcPfx 0] } }
/-- A standby that may take over. -/
def aBeat (mode : Nat) : Heartbeat := ⟨1, false, mode, 0, 0, 0, 0, 0, 0⟩
def standby : State := (((ready.wr SYS_MODE.MODE 4).up PAIR_CTRL.TAKEOVER_EN).up PAIR_STATUS.PAIRED).up PAIR_STATUS.COMPAT
/-- The holder beside a partner in SHADOW. -/
def holder : State :=
  { (((svc.up PAIR_STATUS.PEER_ALIVE).up PAIR_STATUS.MIRROR_SYNC).up PAIR_STATUS.COMPAT).up PAIR_STATUS.PAIRED with pair := { hb := some (aBeat 4) } }
def pairing (s : State) (p : PairSt → PairSt) : State := { s with pair := p s.pair }
def aBeacon (src flags : Nat) : Beacon := ⟨flags, src, 0, 1, 3, 0, 0, 1, 0, 0, 5, 6⟩
def aMember (src : Nat) : Member := ⟨aBeacon src 7, some 0, some 0, 0, 0, some 0⟩
/-- Module 1023 of the floe, led by module 0; and module 1023 leading. -/
def ringed : State := ((svc.wr FLOE_CFG.INDEX 1023).up FLOE_STATUS.MEMBER).up FLOE_LEAD.LEAD_VALID |>.wr FLOE_TERM.TERM 1
def follows : State := { ringed with floe := { members := [(0, some (aMember 0)), (1023, some (aMember 1023))] } }
def anOrder (f : Order → Order) : Order := f ⟨9, 1, 3, 10000000000, 0, [(2, 3), (1023, 3)], [1023], false, false, []⟩
def theOrder : Order := anOrder (fun o => o)
def rules (o : Order) : State := { ringed.wr FLOE_LEAD.LEAD 1023 with floe := { members := [(2, some (aMember 2))], order := some o } }
/-- A management session with a provisioned module, and the public point G of P-384. -/
def session : State := ((ready.up CRQ_MGMT.EN).up CRQ_MGMT.SESSION).up VLT_STATUS.PROVISIONED
def aPoint : List Byte := 4 :: (beBytes 48 pGx ++ beBytes 48 pGy)
def withFault (s : State) (cur : Option FaultRec) (deferred : List FaultRec := []) : State :=
  { s with faults := { s.faults with cur := cur, deferred := deferred } }
/-- The vault may take an anchor from DRAM address 64. -/
def unprovisioned : State :=
  { (ready.up RIME_TAMP.LID).wr VLT_DATA0.VALUE 64 with mem := { dram := (List.range 97).map (fun i => (64 + i, aPoint.getD i 0)) } }
/-- A CAN frame without data for port 3 at DRAM address 64. -/
def canAsk : State :=
  (((ready.up (CAN_CTRL.EN 3)).wr CAN_KEY.VALUE 64).wr CAN_DATA0.VALUE (16 * 256 + 3 * 2 ^ 22))
def onBus (s : State) (flags : Byte) : State := { s with can := [(3, { tx := some ⟨7, none, false, [0, 0, 0, 0, 0, flags]⟩ })] }
/-- The header of an EVI image of a kind, with c chunks and the root of its leaf list. -/
def aHeader (kind c : Nat) (root : List Byte) : List Byte :=
  [0x45, 0x56, 0x49, 0x01, 1, BitVec.ofNat 8 kind, 0, 3] ++ leBytes 4 7 ++ List.replicate 12 0 ++ leBytes 4 c ++ [0, 0, 0, 0] ++
    root ++ List.replicate (4064 - root.length) 0
def inStore (s : State) (k : Nat) (x : Store) : State := { s with icf := { s.icf with store := [(k, x)] } }
def aReceipt (slot : Nat) (ok : Bool) (id : Nat) (parts : SMap (List Byte) := []) : Receipt := ⟨slot, 2, ok, 0, [], id, parts, [], [], []⟩
def receiving (s : State) (x : Store) (r : Receipt) : State := { s with icf := { s.icf with store := [(r.slot, x)], rx := some r } }
/-- An activation pending for slot 1 at a network second. -/
def pendingAct (s : State) (a : Act) (sec : Nat) : State :=
  { ((s.up ICF_ACT_HI.PENDING).wr ICF_ACT_HI.SLOT 1).wr64 ICF_ACT_LO.S_LO ICF_ACT_HI.S_HI sec with icf := { act := some a } }
/-- Cirque at DRAM address 0x40. -/
def cirqueRuns (s : State) : State := s.setPc 128 0x40#40
/-- A register's word as it is, whatever it was at reset. -/
def putReg (s : State) (a : Nat) (v : Word) : State := { s with regs := SMap.set s.regs a v }
def macIs5 (s : State) : State := putReg (putReg s (PORT_MAC_LO.addr 5) 5#32) (PORT_MAC_HI.addr 5) 0#32
/-- Neither Firn's nor Moraine's region is in use, so that no byte is protected or held as a plane. -/
def unguarded (s : State) : Bool := !s.on FIRN_CTRL.EN && !s.planes.filling && !s.on MOR_CTRL.EN && s.planes.base.isNone
theorem unguarded_all (s : State) (h : unguarded s = true) (e : Nat) : s.protectedAt e = false ∧ s.planeOff e = none := by
  simp only [unguarded, Bool.and_eq_true, Bool.not_eq_true', Option.isNone_iff_eq_none] at h
  obtain ⟨⟨⟨h1, h2⟩, h3⟩, h4⟩ := h
  simp [State.protectedAt, State.planeOff, h1, h2, h3, h4]
/-- The write-backs that a command leaves. -/
def leftWbs (i : Instr) (s : State) : List WB := match exec i s with | .next t => t.mem.wbs | _ => []

/-! ## Words (R144 to R170): thread 5 -/

/-- Words of the arithmetic group, written out field by field. -/
theorem test_decode_arithmetic :
    decodeGnor 5 0x00221800#32 = some (.add 5 1 2 3) ∧
    decodeGnor 5 0x03FEE80A#32 = some (.sra 5 31 30 29) ∧
    decodeGnor 5 0x0085001F#32 = some (.popc 5 4 5) ∧
    decodeGnor 5 0x1022FFFF#32 = some (.addi 5 1 2 0xFFFF#16) ∧
    decodeGnor 5 0x28201000#32 = some (.lui 5 1 0x1000#16) ∧
    decodeGnor 5 0x2C210080#32 = some (.orh 5 1 1 0x0080#16) ∧
    decodeGnor 5 0x30E8803F#32 = some (.srai 5 7 8 63#6) ∧
    decodeGnor 5 0x0422180F#32 = some (.remuw 5 1 2 3) ∧
    decodeGnor 5 0x052A5802#32 = some (.mulhu 5 9 10 11) := by decide
/-- Words of the system group, written out field by field. -/
theorem test_decode_system :
    decodeGnor 5 0x0CC40000#32 = some (.mfs 5 6 4) ∧
    decodeGnor 5 0x0C860001#32 = some (.mts 5 4 6) ∧
    decodeGnor 5 0x0C000002#32 = some (.fence 5) ∧
    decodeGnor 5 0x0C000003#32 = some (.xret 5) ∧
    decodeGnor 5 0x0C00F804#32 = some (.trap 5 31) ∧
    decodeGnor 5 0x0C000005#32 = some (.brk 5) ∧
    decodeGnor 5 0x0C000006#32 = some (.idle 5) := by decide
/-- Words of the memory group, written out field by field. -/
theorem test_decode_memory :
    decodeGnor 5 0x4C43FFFE#32 = some (.lhu 5 2 3 0xFFFE#16) ∧
    decodeGnor 5 0x58430008#32 = some (.ld 5 2 3 8#16) ∧
    decodeGnor 5 0x6FE17FFF#32 = some (.sd 5 31 1 0x7FFF#16) ∧
    decodeGnor 5 0x7022180D#32 = some (.acasd 5 1 2 3) ∧
    decodeGnor 5 0x74040040#32 = some (.flush 5 4 64#16) ∧
    decodeGnor 5 0x74240040#32 = some (.inval 5 4 64#16) := by decide
/-- Words of the branches group, written out field by field. -/
theorem test_decode_branches :
    decodeGnor 5 0x9422FFFC#32 = some (.bgeu 5 1 2 0xFFFC#16) ∧
    decodeGnor 5 0x9C000002#32 = some (.bccnz 5 2#16) ∧
    decodeGnor 5 0xA7FFFFFF#32 = some (.jal 5 0x3FFFFFF#26) ∧
    decodeGnor 5 0xABE50004#32 = some (.jalr 5 31 5 4#16) := by decide
/-- Words of the wide group, written out field by field. -/
theorem test_decode_wide :
    decodeGnor 5 0xC0E20010#32 = some (.wld 5 7 2 16#16) ∧
    decodeGnor 5 0xC4C2FFF0#32 = some (.wst 5 6 2 0xFFF0#16) ∧
    decodeGnor 5 0xC8A600BE#32 = some (.wdivq 5 1 2 3 14) ∧
    decodeGnor 5 0xCBEA0270#32 = some (.wperm 5 7 6 5) ∧
    decodeGnor 5 0xCA009200#32 = some (.wsplat 5 4 9) ∧
    decodeGnor 5 0xC830C227#32 = some (.wext 5 12 3 7) ∧
    decodeGnor 5 0xC900D251#32 = some (.wputd 5 2 13 1) := by decide
/-- Words of the primitives group, written out field by field. -/
theorem test_decode_primitives :
    decodeGnor 5 0xE0011300#32 = some (.qpush 5 1 2 3) ∧
    decodeGnor 5 0xE0810380#32 = some (.qpop 5 4 1 3) ∧
    decodeGnor 5 0xE4810302#32 = some (.tlook 5 4 1 3 2) ∧
    decodeGnor 5 0xE4811380#32 = some (.tlaunch 5 4 1 2 3) ∧
    decodeGnor 5 0xE8040200#32 = some (.fwrite 5 4 2) ∧
    decodeGnor 5 0xE8040288#32 = some (.fread 5 4 2 8) ∧
    decodeGnor 5 0xEC000680#32 = some (.commit 5 6) ∧
    decodeGnor 5 0xF0011000#32 = some (.mbxs 5 1 2) ∧
    decodeGnor 5 0xF0610080#32 = some (.mbxr 5 3 1) ∧
    decodeGnor 5 0xF4011000#32 = some (.dbellRing 5 1 2) ∧
    decodeGnor 5 0xF4610001#32 = some (.dbellTake 5 3 1) ∧
    decodeGnor 5 0xF4010002#32 = some (.dbellMask 5 1) ∧
    decodeGnor 5 0xFC61140E#32 = some (.unwrap 5 3 1 2 4) ∧
    decodeGnor 5 0xFC611410#32 = some (.info 5 3 1 2 4) ∧
    decodeGnor 5 0xFC011480#32 = some (.log 5 1 2 4) ∧
    decodeGnor 5 0xF4610080#32 = some (.wait 5 3 1) ∧
    decodeGnor 5 0xF8611400#32 = some (.eput 5 3 1 2 4) ∧
    decodeGnor 5 0xF8610485#32 = some (.mread 5 3 1 4 5) := by decide
/-- Words with a reserved field that is not 0, or of a major opcode the spec does not give, spell nothing (R145). -/
theorem test_decode_reserved :
    decodeGnor 5 0x00000813#32 = none ∧ decodeGnor 5 0x08000000#32 = none ∧ decodeGnor 5 0x28010000#32 = none ∧
    decodeGnor 5 0xF4000003#32 = none ∧ decodeGnor 5 0xC1000000#32 = none := by decide

/-! ## Ill-formed commands -/

def aReport : Report := ⟨0, 0, 20, 0, 0, 0, []⟩
def aDrive : DriveId := ⟨0, false, 0, 0, 0, false⟩
def aCan : CanFrame := ⟨7, false, false, true, false, false, 0, []⟩
/-- No requester has a number above 131 (R36). -/
theorem test_wf_requester_1 : ([
  .registerWrite 132 0x40_0000_0000 0, .snapshotRead 132 0x40_0000_0000, .timerArm 132 0 0 0, .softSet 132 0 0,
  .dbSet 132 0 0, .threadStart 132, .threadStop 132, .coreReset 132, .cacheSync 132, .dvfs 132,
  .mbxTxWrite 132 32 0 0, .mbxRxRead 132 32 0, .mbxDbSet 132 32 0, .calLoad 132, .mapSet 132, .tempSet 132,
  .recalc 132, .abort 132, .resync 132, .nodeState 132, .firnEnable 132 0, .firnDisable 132 0, .discover 132,
  .planLoad 132, .conflictClr 132, .nodeInfo 132, .sastHandover 132, .disassoc 132, .grantSet 132, .tetherOpen 132,
  .tetherClose 132, .headCap 132, .sastEnable 132 0, .budgetWrite 132 0 0, .advChWrite 132 0, .sigCapture 132,
  .energyPreset 132, .xcalReset 132, .reconReset 132, .meltCtrlWrite 132 0, .stepTo 132, .stepBy 132, .rateSet 132,
  .lookup 132, .insert 132] : List Instr).all (fun i => !i.wf) = true := by decide

/-- No requester has a number above 131 (R36). -/
theorem test_wf_requester_2 : ([
  .delete 132, .srcRead 132, .srcWrite 132, .qCfg 132, .maxpktSet 132, .pop 132, .push 132, .saInstall 132,
  .saStartTx 132, .saRemove 132, .format 132, .streamCfg 132, .streamInfo 132, .readRange 132, .readSeq 132,
  .rebuild 132, .morEnable 132 0, .wdogKick 132 0, .mregSizeWrite 132 0 0, .pairHandover 132, .drill 132,
  .floeMode 132, .memberInfo 132, .modeRequest 132 0, .outPermitWrite 132 0, .ctrOwnWrite 132 0 0,
  .ctrCmdWrite 132 0 0, .eccCeClear 132 0, .ruleWrite 132 0 0 0, .rtcSet 132 0, .iceWinRead 132 0, .rimeFlush 132,
  .record 132, .ringClear 132, .vltOp 132, .provision 132, .zeroise 132, .challenge 132, .clearTamper 132,
  .certSet 132, .relay 132, .activate 132, .actCancel 132, .progLoad 132, .svnBurn 132] : List Instr).all (fun i => !i.wf) = true := by decide

/-- No requester has a number above 131 (R36). -/
theorem test_wf_requester_3 : ([
  .pushPartner 132, .slotErase 132, .canSend 132, .canEnable 132 0 0, .rxTailWrite 132 0 0] : List Instr).all (fun i => !i.wf) = true := by decide

/-- Operands that name nothing the spec gives are refused, one for each check. -/
theorem test_wf_numbers_1 : ([
  .writeback 33 0, .commandComplete 2, .registerWrite 0 0x41_0000_0000 0, .snapshotRead 0 0x4F_FFFF_FFFF,
  .timerArm 0 128 0 0, .timerArm 0 0 2 0, .timerFire 128 0, .timerFire 0 2, .softSet 0 128 0, .dbSet 0 32 0,
  .dvfsDone 8, .threadRestart 128, .mbxTxWrite 0 36 0 0, .mbxTxWrite 0 32 36 0, .mbxTxWrite 0 31 0 0,
  .mbxRxRead 0 36 0, .mbxRxRead 0 32 36, .mbxRxRead 0 31 0, .mbxDbSet 0 36 0, .mbxDbSet 0 31 0,
  .surgeDrop (2 ^ 20), .tempStale (2 ^ 18), .budgetWrite 0 64 0, .chainLock 8, .capWaitExpiry 8, .cap 8 0 aCap,
  .cap 0 8 aCap, .echoRsp 8 0 0 0, .echoRsp 0 8 0 0, .hopMeasure 64 [] [], .txDone 64 0 0, .holdOff 64 0 0,
  .holdoffExpiry 64, .status 64 0, .chainBreak 8 0 false, .chainBreak 0 8 false,
  .report { aRx with head := 64 } aReport, .report { aRx with ch := 8 } aReport,
  .partAck { aRx with head := 64 } 0 0 0, .partAck { aRx with ch := 8 } 0 0 0] : List Instr).all (fun i => !i.wf) = true := by decide

/-- Operands that name nothing the spec gives are refused, one for each check. -/
theorem test_wf_numbers_2 : ([
  .detect { aRx with head := 64 } [], .detect { aRx with ch := 8 } [], .dataUp { aRx with head := 64 } [],
  .dataUp { aRx with ch := 8 } [], .assocReq { aRx with head := 64 } aCaps, .assocReq { aRx with ch := 8 } aCaps,
  .handoverSwitch (2 ^ 18) false, .nodeLost (2 ^ 18), .addressRelease (2 ^ 18), .tetherAdv 64 0 0, .tetherEvent 16,
  .tetherData 16 ⟨[], 0, 0⟩, .tetherEnd 16, .blockEnd [{ aMeas with feeder := 16 }], .harmonicWindow 16 0 [],
  .harmonicWindow 0 8 [], .pulseEmit 16, .sigSettleEnd 16, .podLost 16 [], .podFound 16 ⟨false, []⟩,
  .ptpMessage 5 aPtp, .launch 6, .launch 7, .launch 20, .lateDrop 6, .lateDrop 7, .lateDrop 20,
  .ethRx 6 ⟨[], false⟩, .pause 6 0, .pfc 6 0 [], .pauseExpiry 6 0, .pauseExpiry 0 8, .pauseRepeat 6,
  .link 6 0 false, .l2Age 65536, .blockWrite 256, .storLinkUp 4 [], .smartPoll 16 0 false, .driveLost 16,
  .rebuilt 16] : List Instr).all (fun i => !i.wf) = true := by decide

/-- Operands that name nothing the spec gives are refused, one for each check. -/
theorem test_wf_numbers_3 : ([
  .trim 256, .mregSizeWrite 0 16 0, .ringBeacon false { (aBeacon 2 7) with src := 1024 }, .memberTimeout 1024,
  .prepare ⟨false, 1024, 0, 0⟩ 0 0 0 0 0 0, .ready ⟨false, 1024, 0, 0⟩ 0, .refuse ⟨false, 1024, 0, 0⟩ 0 0,
  .floeAbort ⟨false, 1024, 0, 0⟩ 0 0, .set ⟨false, 1024, 0, 0⟩ 0 0 0, .ctrOwnWrite 0 4 0, .ctrCmdWrite 0 4 0,
  .islandReady 26, .ruleChange 32, .ruleWrite 0 32 0 0, .ruleWrite 0 0 3 0, .iceWinRead 0 72, .shutdown 21,
  .vddFault 21 0, .header 5 0 0 [], .leaves 5 0 0 0 [], .chunk 5 0 0 0 0 [], .nack 5 0 0 0, .act 0 2 0 0,
  .canEnable 0 4 0, .rxTailWrite 0 4 0, .canRx 4 aCan, .txAttemptEnd 4 .acked, .busOff 4 0 0 0 .active,
  .coilOver 4, .coilRetry 4 false, .coilOpen 4, .fanFail 3, .ptpSyncSend 5, .peerDelayMeasure 5 0, .egressTxEnd 6,
  .wrapRelay 8 ⟨0, 0, 0, [], 0, 0⟩, .surveyBeaconRx 64 0 0, .surveyBeaconRx 0 64 0, .badFcsRx 64 0,
  .chainFrameDiscard 8] : List Instr).all (fun i => !i.wf) = true := by decide

/-- Operands that name nothing the spec gives are refused, one for each check. -/
theorem test_wf_numbers_4 : ([
  .lowPathOverload 3 aMeas, .lowPathOverload 0 { aMeas with feeder := 16 }, .clip 16, .pulseEnd 16,
  .driveInserted 16 aDrive] : List Instr).all (fun i => !i.wf) = true := by decide

/-- Commands at the ends of what the spec gives. -/
theorem test_wf_accepts : ([.add 128 31 31 31, .registerWrite 131 0x40_0FFF_FFFC 5] : List Instr).all Instr.wf = true := by decide

/-! ## Worked examples of the spec -/

/-- What a command leaves. -/
def after (i : Instr) (s : State) : State := match exec i s with | .next t => t | _ => s
/-- A wide register with two lanes. -/
def two (a b : Nat) : Wide := BitVec.ofNat 128 (a + 65536 * b)
/-- Lanes 0 and 1 of a wide register that an instruction of thread 0 writes. -/
def lanes01 (ws : List (WReg × Wide)) (wd : WReg) (i : Instr) : Nat × Nat :=
  let w := (after i (ws.foldl (fun s p => s.setW 0 p.1 p.2) (running ready))).wreg 0 wd
  (w.toNat % 65536, w.toNat / 65536 % 65536)

/-- The listing under R160 (05_gnor_instruction_set.md), instruction by instruction. -/
theorem test_wide_listing :
    lanes01 [(1, two 18350 18350), (2, two 23593 23593), (3, two 24 24)] 3 (.wlerp 0 3 1 2 5) = (22282, 22282) ∧
    lanes01 [(1, two 18350 18350)] 1 (.wxor 0 1 1 1) = (0, 0) ∧
    lanes01 [(3, two 22282 22282)] 1 (.wsub 0 1 1 3) = (43254, 43254) ∧
    lanes01 [(5, two 65535 0), (1, two 43254 43254), (3, two 22282 22282)] 5 (.wsel 0 5 1 3) = (43254, 22282) ∧
    lanes01 [(6, two 49152 49152), (5, two 43254 22282)] 1 (.wmulh 0 1 6 5) = (32440, 16711) ∧
    lanes01 [(1, two 32440 16711), (0, two 17408 15360)] 1 (.wdivq 0 1 1 0 14) = (30531, 17825) ∧
    lanes01 [(1, two 30531 17825), (7, two 58982 58982)] 1 (.wminu 0 1 1 7) = (30531, 17825) ∧
    lanes01 [(1, two 30531 17825), (4, two 30802 30802)] 2 (.wmulq 0 2 1 4 15) = (28699, 16755) := by decide +kernel
/-- The address 0x80_1000_4000 is built by LUI, ORI and ORH (the listing under R151, 05_gnor_instruction_set.md). -/
theorem test_address_in_three :
    (after (.orh 0 1 1 0x0080#16) (after (.ori 0 1 1 0x4000#16) (after (.lui 0 1 0x1000#16) (running ready)))).greg 0 1 =
      0x80_1000_4000#64 := by decide +kernel
/-- The lantern of Vellsund North (worked example of 03_light_frame.md): CHMASK 3, TYPE 12, two gains, MAXDRIVE, MIX3, MIX4. -/
def lantern : BitVec 512 :=
  BitVec.ofNat 512 (17408 + 58982 * 2 ^ 40 + 15360 * 2 ^ 56 + 58982 * 2 ^ 96 + 18350 * 2 ^ 272 + 23593 * 2 ^ 288 +
    12 * 2 ^ 480 + 3 * 2 ^ 488)
theorem test_drives : drives lantern 49152 300 false false = (30531 + 65536 * 17825, false) := by decide +kernel
theorem test_derating :
    (((ready.wr (FIRN_DERATE.KNEE 12) 70).wr (FIRN_DERATE.SLOPE 12) 20).wr (FIRN_DERATE.FLOOR 12) 60).curveK 12 73 = 30802 := by
  decide +kernel
/-- FIRN_ID of this release (R27). -/
theorem test_firn_id : (State.reset.reg FIRN_ID.addr) = 0x00020100#32 := by decide +kernel

/-! ## Witnesses -/

/-- States and operands that meet the hypotheses of StepRunsFront. -/
theorem witness_StepRunsFront :
    (let s : State := { State.reset with pending := [.add 0 0 0 0] }; let c : Instr := Instr.add 0 0 0 0;
    let rest : List Instr := [];
      s.pending = c :: rest) ∧
    (let s : State := State.reset;
      s.pending = []) := by
  refine ⟨?_, ?_⟩ <;> decide +kernel

/-- States and operands that meet the hypotheses of ThreadRegisters. -/
theorem witness_ThreadRegisters :
    let t : Nat := 0; let t' : Nat := 128; let r : GReg := 31; let r' : GReg := 31;
      ¬(t' = t ∧ r' = r) := by
  decide +kernel

/-- States and operands that meet the hypotheses of RegisterOperations. -/
theorem witness_RegisterOperations :
    (let s : State := running ready; let t : Tid := 0; let pc : BitVec 40 := startPc;
    let u : State := fetched s 0 startPc; let i := 63; let n := 64;
      Issues s t pc u ∧ i < n) ∧
    (let s : State := running ready; let t : Tid := 0; let pc : BitVec 40 := startPc;
    let u : State := fetched s 0 startPc; let n := 63;
      Issues s t pc u ∧ n < 64) := by
  refine ⟨?_, ?_⟩ <;> decide +kernel

/-- States and operands that meet the hypotheses of ImmediateOperations. -/
theorem witness_ImmediateOperations :
    let s : State := running ready; let t : Tid := 0; let pc : BitVec 40 := startPc;
    let u : State := fetched s 0 startPc;
      Issues s t pc u := by
  decide +kernel

/-- States and operands that meet the hypotheses of MultiplyDivide. -/
theorem witness_MultiplyDivide :
    let s : State := running ready; let t : Tid := 0; let pc : BitVec 40 := startPc;
    let u : State := fetched s 0 startPc;
      Issues s t pc u := by
  decide +kernel

/-- States and operands that meet the hypotheses of WideLanes. -/
theorem witness_WideLanes :
    let s : State := running ready; let t : Tid := 0; let pc : BitVec 40 := startPc;
    let u : State := fetched s 0 startPc; let n := 7;
      t.val ≠ 128 ∧ Issues s t pc u ∧ n < 8 := by
  decide +kernel

/-- States and operands that meet the hypotheses of WideWhole. -/
theorem witness_WideWhole :
    let s : State := running ready; let t : Tid := 0; let pc : BitVec 40 := startPc;
    let u : State := fetched s 0 startPc; let n := 7;
      t.val ≠ 128 ∧ Issues s t pc u ∧ n < 8 := by
  decide +kernel

/-- States and operands that meet the hypotheses of Branches. -/
theorem witness_Branches :
    let s : State := running ready; let t : Tid := 0; let pc : BitVec 40 := startPc;
    let u : State := fetched s 0 startPc;
      Issues s t pc u := by
  decide +kernel

/-- States and operands that meet the hypotheses of Jumps. -/
theorem witness_Jumps :
    let s : State := running ready; let t : Tid := 0; let pc : BitVec 40 := startPc;
    let u : State := fetched s 0 startPc;
      Issues s t pc u := by
  decide +kernel

/-- States and operands that meet the hypotheses of SpecialRegisters. -/
theorem witness_SpecialRegisters :
    let s : State := running ready; let t : Tid := 0; let pc : BitVec 40 := startPc;
    let u : State := fetched s 0 startPc; let n : BitVec 5 := 7;
      Issues s t pc u ∧ (6 < n.toNat) ∧ ((n.toNat ≤ 1 ∨ 5 ≤ n.toNat)) := by
  decide +kernel

/-- States and operands that meet the hypotheses of ExceptionEntry. -/
theorem witness_ExceptionEntry :
    (let s : State := ready.setReg (LUM_T_VEC_LO.addr 127) 0x1000#32; let t : Nat := 127; let code : Nat := 255;
    let xcc : Nat := 255;
      code < 256 ∧ xcc < 256 ∧ s.xact t = false ∧ s.vec t ≠ 0) ∧
    (let s : State := ready.setXcause 127 0x10000#64; let t : Nat := 127; let code : Nat := 255; let xcc : Nat := 255;
      code < 256 ∧ xcc < 256 ∧ t < 128 ∧ s.xact t = true) := by
  refine ⟨?_, ?_⟩ <;> decide +kernel

/-- States and operands that meet the hypotheses of TrapAndReturn. -/
theorem witness_TrapAndReturn :
    (let s : State := (running ready).setXcause 0 0x10000#64; let t : Tid := 0; let pc : BitVec 40 := startPc;
    let u : State := fetched s 0 startPc;
      Issues s t pc u ∧ u.xact t = true) ∧
    (let s : State := running ready; let t : Tid := 0; let pc : BitVec 40 := startPc;
    let u : State := fetched s 0 startPc;
      Issues s t pc u ∧ u.xact t = false) := by
  refine ⟨?_, ?_⟩ <;> decide +kernel

/-- States and operands that meet the hypotheses of Misaligned. -/
theorem witness_Misaligned :
    let s : State := (running ready).setG 0 1 15#64; let t : Tid := 0; let pc : BitVec 40 := startPc;
    let u : State := fetched s.silent 0 startPc; let ra : GReg := 1; let disp : Imm16 := 0;
    let ea : Nat := (BitVec.ofInt 64 ((u.greg t ra).toInt + disp.toInt) : Dword).toNat;
      Issues s.silent t pc u ∧ (ea % 2 ≠ 0) ∧ (ea % 4 ≠ 0) ∧ (ea % 8 ≠ 0) ∧ (ea % 16 ≠ 0 ∧ t.val ≠ 128) := by
  decide +kernel

/-- States and operands that meet the hypotheses of Loads. -/
theorem witness_Loads :
    (let s : State := (running ready).setG 0 1 0x80_0001_FFF0#64; let t : Tid := 0; let pc : BitVec 40 := startPc;
    let u : State := fetched s.silent 0 startPc; let ra : GReg := 1; let disp : Imm16 := 0;
    let ea : Nat := (BitVec.ofInt 64 ((u.greg t ra).toInt + disp.toInt) : Dword).toNat;
    let answers (n : Nat) : Prop := ea % n = 0 ∧ ea < 2 ^ 40 ∧ isReg ea = false ∧ (u.loadMem (cacheCore t) ea n).1 =
        .done;
      Issues s.silent t pc u ∧ (answers 1) ∧ (answers 2) ∧ (answers 4) ∧ (answers 8) ∧ (answers 16 ∧ t.val ≠ 128)) ∧
    (let s : State := (running ready).setG 0 1 (BitVec.ofNat 64 SYS_MODE.addr); let t : Tid := 0;
    let pc : BitVec 40 := startPc; let u : State := fetched s.silent 0 startPc; let ra : GReg := 1;
    let disp : Imm16 := 0; let ea : Nat := (BitVec.ofInt 64 ((u.greg t ra).toInt + disp.toInt) : Dword).toNat;
      Issues s.silent t pc u ∧ ea % 4 = 0 ∧ isReg ea = true ∧ (u.regRead t ea).1 = ccOk) := by
  refine ⟨?_, ?_⟩ <;> decide +kernel

/-- States and operands that meet the hypotheses of Stores. -/
theorem witness_Stores :
    (let rt : GReg := 0; let w : WReg := 0; let s : State := (running ready).setG 0 1 0x80_0001_FFF0#64;
    let t : Tid := 0; let pc : BitVec 40 := startPc; let u : State := fetched s.silent 0 startPc; let ra : GReg := 1;
    let disp : Imm16 := 0; let ea : Nat := (BitVec.ofInt 64 ((u.greg t ra).toInt + disp.toInt) : Dword).toNat;
    let takes (bs : List Byte) : Prop := ea % bs.length = 0 ∧ ea < 2 ^ 40 ∧ isReg ea = false ∧ (u.storeMem (cacheCore
        t) ea bs).1 = .done;
    let low (n : Nat) : List Byte := (List.range n).map (fun k => (u.greg t rt).extractLsb' (8 * k) 8);
      Issues s.silent t pc u ∧ (takes (low 1)) ∧ (takes (low 2)) ∧ (takes (low 4)) ∧ (takes (low 8)) ∧
      (takes ((List.range 16).map (fun k => (u.wreg t w).extractLsb' (8 * k) 8)) ∧ t.val ≠ 128)) ∧
    (let rt : GReg := 0; let s : State := (running ready).setG 0 1 (BitVec.ofNat 64 (LUM_T_DBMASK.addr 0));
    let t : Tid := 0; let pc : BitVec 40 := startPc; let u : State := fetched s.silent 0 startPc; let ra : GReg := 1;
    let disp : Imm16 := 0; let ea : Nat := (BitVec.ofInt 64 ((u.greg t ra).toInt + disp.toInt) : Dword).toNat;
      Issues s.silent t pc u ∧ ea % 4 = 0 ∧ isReg ea = true ∧ (u.regWrite t ea ((u.greg t rt).setWidth 32)).1 = ccOk) := by
  refine ⟨?_, ?_⟩ <;> decide +kernel

/-- States and operands that meet the hypotheses of SramStoreLoad. -/
theorem witness_SramStoreLoad :
    (let s : State := ready; let core : Nat := 31; let a : Nat := 0x80_0001_FFFF; let bs : List Byte := [7];
    let k := 0; let ends (b n : Nat) : Prop := b ≤ a ∧ a + bs.length ≤ b + n;
      core < 32 ∧ bs ≠ [] ∧ ends 0x80_0000_0000 131072 ∧
      (4 ≤ bs.length ∨ s.sramPoisonIn .loc core a bs.length = false) ∧
      ((s.storeMem core a bs).2.sramPoisonIn .loc core a bs.length = false) ∧
      ((k < locKey core a ∨ locKey core a + bs.length ≤ k)) ∧ (NoCe s)) ∧
    (let s : State := ready; let core : Nat := 31; let a : Nat := 0x80_101F_FFFF; let bs : List Byte := [7];
    let k := 0; let ends (b n : Nat) : Prop := b ≤ a ∧ a + bs.length ≤ b + n;
      core < 32 ∧ bs ≠ [] ∧ ends 0x80_1000_0000 2097152 ∧
      (4 ≤ bs.length ∨ s.sramPoisonIn .clu core a bs.length = false) ∧
      ((s.storeMem core a bs).2.sramPoisonIn .clu core a bs.length = false) ∧
      ((k < cluKey core a ∨ cluKey core a + bs.length ≤ k)) ∧ (NoCe s)) := by
  refine ⟨?_, ?_⟩ <;> decide +kernel

/-- States and operands that meet the hypotheses of DramStoreLoad. -/
theorem witness_DramStoreLoad :
    let s : State := ready; let core : Nat := 31; let a : Nat := 2 ^ 36 - 16;
    let bs : List Byte := List.replicate 16 7; let l : DLine := ⟨31, 2 ^ 36 - 64, List.replicate 64 0, [], []⟩;
    let i := 15;
      linesWhole s = true ∧ bs.length ∈ [1, 2, 4, 8, 16] ∧ a % bs.length = 0 ∧ a < 2 ^ 36 ∧ s.protectedAt a = false ∧
      (s.fillD core a).dline core a = some l ∧ (8 ≤ bs.length ∨ l.poisonIn a bs.length = false) ∧ (i < 64) ∧
      (i < bs.length) ∧ (((s.storeMem core a bs).2.dline core a).all (fun l' => !l'.poisonIn a bs.length) = true) := by
  decide +kernel

/-- States and operands that meet the hypotheses of LinesStayWhole. -/
theorem witness_LinesStayWhole :
    let s : State := ready; let a : Nat := 48; let bs : List Byte := List.replicate 16 7;
      linesWhole s = true ∧ a % 64 + bs.length ≤ 64 := by
  decide +kernel

/-- States and operands that meet the hypotheses of Atomics. -/
theorem witness_Atomics :
    let s : State := running ready; let t : Tid := 0; let pc : BitVec 40 := startPc;
    let u : State := fetched s 0 startPc;
      Issues s t pc u := by
  decide +kernel

/-- States and operands that meet the hypotheses of CacheMaintenance. -/
theorem witness_CacheMaintenance :
    (let ra : GReg := 0; let disp : Imm16 := 0; let core : Nat := 0; let idx : Nat := 0;
    let s : State := running ready; let t : Tid := 0; let pc : BitVec 40 := startPc;
    let u : State := fetched s 0 startPc; let c := cacheCore t;
    let ea : Nat := (BitVec.ofInt 64 ((u.greg t ra).toInt + disp.toInt) : Dword).toNat;
    let line := if ea < 2 ^ 36 then u.dline c ea else none; let mine := s.mem.wbs.filter (fun w => w.core == core);
      (Issues s t pc u ∧ line = none) ∧ (mine.length ≤ idx)) ∧
    (let ra : GReg := 0; let disp : Imm16 := 0;
    let s : State := { running ready with mem := { dcache := [⟨0, 0, List.replicate 64 0, [1], []⟩] } };
    let t : Tid := 0; let pc : BitVec 40 := startPc; let u : State := fetched s 0 startPc; let d := 9; let a := 0;
    let l := ⟨0, 0, List.replicate 64 0, [1], []⟩; let c := cacheCore t;
    let ea : Nat := (BitVec.ofInt 64 ((u.greg t ra).toInt + disp.toInt) : Dword).toNat;
    let line := if ea < 2 ^ 36 then u.dline c ea else none;
      Issues s t pc u ∧ (line = some l ∧ (d ≠ c ∨ a / 64 ≠ ea / 64)) ∧
      (u.planeOff a = none ∧ (∀ x ∈ u.mem.wbs, x ∉ leftWbs (.fence t) s → ∀ w ∈ x.words, a < x.addr + 8 * w.1 ∨
          x.addr + 8 * w.1 + w.2.length ≤ a))) ∧
    (let s : State := { running ready with mem := { wbs := [⟨31, 64, [(0, List.replicate 8 7)], none⟩, ⟨0, 64, [(1, List.replicate 8 7)], none⟩] } };
    let t : Tid := 0; let pc : BitVec 40 := startPc; let u : State := fetched s 0 startPc; let core : Nat := 31;
    let idx : Nat := 0; let x := (⟨31, 64, [(0, List.replicate 8 7)], none⟩ : WB);
    let y := (⟨0, 64, [(1, List.replicate 8 7)], none⟩ : WB); let a := 0;
    let mine := s.mem.wbs.filter (fun w => w.core == core);
      (Issues s t pc u ∧ x ∈ leftWbs (.fence t) s) ∧ (mine[idx]? = some x ∧ y ∈ leftWbs (.writeback core idx) s) ∧
      (mine[idx]? = some x ∧ y ∈ s.mem.wbs ∧ y.core ≠ core) ∧
      (mine[idx]? = some x ∧ s.planeOff a = none ∧ (∀ y ∈ mine.take (idx + 1), ∀ w ∈ y.words, a < y.addr + 8 * w.1 ∨
          y.addr + 8 * w.1 + w.2.length ≤ a))) ∧
    (let s : State := { running ready with mem := { wbs := [⟨31, 64, [(0, List.replicate 8 7)], none⟩] } };
    let core : Nat := 31; let idx : Nat := 0; let x := (⟨31, 64, [(0, List.replicate 8 7)], none⟩ : WB);
    let y := (⟨31, 64, [(0, List.replicate 8 7)], none⟩ : WB); let mine := s.mem.wbs.filter (fun w => w.core == core);
      mine[idx]? = some x ∧ y ∈ s.mem.wbs ∧ y ∉ leftWbs (.writeback core idx) s) ∧
    (let s : State := { running ready with mem := { wbs := [⟨0, 64, [(1, List.replicate 8 7)], none⟩, ⟨0, 128, [(1, List.replicate 8 7)], some 0⟩] } };
    let t : Tid := 0; let pc : BitVec 40 := startPc; let u : State := fetched s 0 startPc;
    let x := (⟨0, 128, [(1, List.replicate 8 7)], some 0⟩ : WB);
      Issues s t pc u ∧ x ∈ u.mem.wbs ∧ x ∉ leftWbs (.fence t) s) := by
  refine ⟨?_, ?_, ?_, ?_, ?_⟩ <;> decide +kernel

/-- States and operands that meet the hypotheses of GnorM. -/
theorem witness_GnorM :
    (let s : State := running ready; let t : Tid := 0; let pc : BitVec 40 := startPc;
    let u : State := fetched s 0 startPc; let z := s.settleIdle;
      (Issues s t pc u ∧ t.val ≠ 128) ∧ ((s.crq.idle = false ∨ s.cirqueInput = false)) ∧
      ((z.mayIssue 128 = false ∨ z.cirqueInput = false ∨ z.xact 128 = true))) ∧
    (let s : State := (cirqueRuns ready).setReg CRQ_IRQ_EN.addr 0xFFFF#32 |>.setReg SYS_EVT.addr 0xFFFFFFFF#32
        |>.setReg SYS_EVT_EN.addr 0xFFFFFFFF#32 |>.setReg SYS_EVT_ROUTE.addr 0x200#32; let t : Tid := 128;
    let pc : BitVec 40 := 0x40#40; let u : State := fetched s 128 0x40#40; let z := s.settleIdle;
      (Issues s t pc u ∧ t.val = 128) ∧ (Issues s.silent t pc u ∧ t.val = 128) ∧
      (z.mayIssue 128 = true ∧ z.cirqueInput = true ∧ z.xact 128 = false)) ∧
    (let s : State := { (cirqueRuns ready).setReg CRQ_IRQ_EN.addr 0xFFFF#32 |>.setReg SYS_EVT.addr 0xFFFFFFFF#32 |>.setReg SYS_EVT_EN.addr 0xFFFFFFFF#32 |>.setReg SYS_EVT_ROUTE.addr 0x200#32 with crq := { idle := true } };
      s.crq.idle = true ∧ s.cirqueInput = true ∧ s.xact 128 = false) ∧
    (let s : State := { (cirqueRuns ready).setReg CRQ_IRQ_EN.addr 0xFFFF#32 |>.setReg SYS_EVT.addr 0xFFFFFFFF#32 |>.setReg SYS_EVT_EN.addr 0xFFFFFFFF#32 |>.setReg SYS_EVT_ROUTE.addr 0x200#32 with crq := { idle := true } } |>.setXcause 128 0x10000#64;
      s.crq.idle = true ∧ s.cirqueInput = true ∧ s.xact 128 = true) := by
  refine ⟨?_, ?_, ?_, ?_⟩ <;> decide +kernel

/-- States and operands that meet the hypotheses of Fetch. -/
theorem witness_Fetch :
    (let t : Nat := 0; let s : State := ready; let core : Nat := 31; let a : Nat := 0x80_0000_0000;
    let r := s.fetch core a; let z := s.settle t;
      (NoCe s ∧ r.1 = .done) ∧ (z.mayIssue t = false)) ∧
    (let s : State := running ready |>.setPc 0 0x40_0000_0000#40; let t : Nat := 0; let cc := ccDenied;
    let z := s.settle t; let a := (z.pc t).toNat;
      (z.mayIssue t = true ∧ (z.fetch (cacheCore t) a).1 = .denied cc) ∧
      ((regionOf (cacheCore t) a = .regs ∨ regionOf (cacheCore t) a = .absent))) ∧
    (let s : State := { running ready with mem := { lsramPoison := [0] } }; let t : Nat := 0; let z := s.settle t;
    let a := (z.pc t).toNat;
      z.mayIssue t = true ∧ (z.fetch (cacheCore t) a).1 = .poison) := by
  refine ⟨?_, ?_, ?_⟩ <;> decide +kernel

/-- States and operands that meet the hypotheses of CommandInterface. -/
theorem witness_CommandInterface :
    (let r : Req := 5; let s : State := ready; let v : Word := 0x01#32; let blk : Nat := 8;
    let cmd : Nat := PORT_CMD.addr; let stat : Nat := PORT_STAT.addr; let evt : Fld := PORT_EVT.CMD_DONE;
      cmdRegs blk = some (cmd, stat, evt) ∧ Takes s blk stat ∧ (commandOf blk (v.toNat % 256) r).isSome = true) ∧
    (let s : State := ready.setReg PORT_STAT.addr 0x80000000#32; let blk : Nat := 8; let cmd : Nat := PORT_CMD.addr;
    let stat : Nat := PORT_STAT.addr; let evt : Fld := PORT_EVT.CMD_DONE;
      cmdRegs blk = some (cmd, stat, evt) ∧ s.blkReady blk = true ∧ s.busy stat = true) ∧
    (let s : State := State.reset; let blk : Nat := 8; let cmd : Nat := PORT_CMD.addr;
    let stat : Nat := PORT_STAT.addr; let evt : Fld := PORT_EVT.CMD_DONE;
      cmdRegs blk = some (cmd, stat, evt) ∧ s.blkReady blk = false) ∧
    (let r : Req := 5; let s : State := ready; let v : Word := 0xFF#32; let blk : Nat := 8;
    let cmd : Nat := PORT_CMD.addr; let stat : Nat := PORT_STAT.addr; let evt : Fld := PORT_EVT.CMD_DONE;
      cmdRegs blk = some (cmd, stat, evt) ∧ Takes s blk stat ∧ commandOf blk (v.toNat % 256) r = none) := by
  refine ⟨?_, ?_, ?_, ?_⟩ <;> decide +kernel

/-- States and operands that meet the hypotheses of LumenCommands. -/
theorem witness_LumenCommands :
    (let s : State := ((svc.wr LUM_KEY.VALUE 127).wr LUM_DATA0.VALUE 0x1000).wr LUM_DATA1.VALUE 0;
    let key := s.rd LUM_KEY.VALUE; let d0 := s.rd LUM_DATA0.VALUE; let d1 := s.rd LUM_DATA1.VALUE; let t := key % 128;
    let a := d0 + 2 ^ 32 * (d1 % 256); let c := key % 32;
      Takes s 1 LUM_STAT.addr ∧
      (s.clusterReady (t / 16) = true ∧ startable a = true ∧ s.atRest t = true ∧ s.threadsRun = true) ∧
      (s.clusterReady (t / 16) = true ∧ s.prim t = none) ∧ (s.clusterReady (c / 4) = true ∧ s.coreAtRest c = true) ∧
      (s.clusterReady (c / 4) = true ∧ (d0 % 4 = 2 → s.coreAtRest c = true))) ∧
    (let s : State := (ready.wr LUM_DATA0.VALUE 4).setPrim 0 (some .commit); let key := s.rd LUM_KEY.VALUE;
    let t := key % 128; let d0 := s.rd LUM_DATA0.VALUE;
      Takes s 1 LUM_STAT.addr ∧
      (s.clusterReady (t / 16) = true ∧ (s.prim t = some .commit ∨ (∃ x w, s.prim t = some (.kop x w)))) ∧
      (s.clusterReady (key % 8) = true ∧ 4 ≤ d0 % 32 ∧ d0 % 32 ≤ 16 ∧ s.supplyClash (key % 8) (d0 % 32) = false)) := by
  refine ⟨?_, ?_⟩ <;> decide +kernel

/-- States and operands that meet the hypotheses of LumenEvents. -/
theorem witness_LumenEvents :
    (let s : State := { ready with lum := { ready.lum with busy := some (.dvfs 7 16) } }; let c := 7; let f := 16;
      c < 8 ∧ s.lum.busy = some (.dvfs c f)) ∧
    (let s : State := { ready with lum := { ready.lum with restartAt := [(127, 80)] } }.up (LUM_T_STATE.RESTART 127) |>.wr SYS_MODE.MODE 3;
    let z := s; let t := 127; let at' := 80;
      t < 128 ∧ s.lum.restartAt.find? (fun p => p.1 == t) = some (t, at') ∧ s.on (LUM_T_STATE.RESTART t) = true ∧
      z.threadsRun = true ∧ z.recentRestarts t < 3) ∧
    (let s : State := { ready with lum := { ready.lum with restartAt := [(127, 80)], restarts := [(127, 1), (127, 2), (127, 3)] } }.up (LUM_T_STATE.RESTART 127);
    let z := s; let t := 127; let at' := 80;
      t < 128 ∧ s.lum.restartAt.find? (fun p => p.1 == t) = some (t, at') ∧
      (s.on (LUM_T_STATE.RESTART t) = false ∨ z.threadsRun = false ∨ 3 ≤ z.recentRestarts t)) := by
  refine ⟨?_, ?_, ?_⟩ <;> decide +kernel

/-- States and operands that meet the hypotheses of TimersAndDoorbells. -/
theorem witness_TimersAndDoorbells :
    (let s : State := ready; let t : Nat := 127; let n : Nat := 1; let core : Nat := 31; let v : Word := 0#32;
    let lo := s.rd (LUM_T_TMR_LO.CMP_LO t n); let cmp := lo + 2 ^ 32 * v.toNat;
      t < 128 ∧ n < 2 ∧ core < 32 ∧ s.blkReady 1 = true ∧ (s.clusterReady (t / 16) = true ∧ cmp = 0) ∧
      (s.clusterReady (core / 4) = true)) ∧
    (let s : State := ready; let t : Nat := 127; let n : Nat := 1; let core : Nat := 31;
    let v : Word := 0xFFFFFFFF#32; let lo := s.rd (LUM_T_TMR_LO.CMP_LO t n); let cmp := lo + 2 ^ 32 * v.toNat;
      t < 128 ∧ n < 2 ∧ core < 32 ∧ s.blkReady 1 = true ∧ s.clusterReady (t / 16) = true ∧ (s.ctr < cmp) ∧
      (v.toNat % 2 = 1)) ∧
    (let s : State := { ready with now := 2 ^ 33 }; let t : Nat := 127; let n : Nat := 1; let core : Nat := 31;
    let v : Word := 1#32; let lo := s.rd (LUM_T_TMR_LO.CMP_LO t n); let cmp := lo + 2 ^ 32 * v.toNat;
      t < 128 ∧ n < 2 ∧ core < 32 ∧ s.blkReady 1 = true ∧ s.clusterReady (t / 16) = true ∧ 0 < cmp ∧ cmp ≤ s.ctr) ∧
    (let s : State := { ready with lum := { ready.lum with armed := [255] } }; let t : Nat := 127; let n : Nat := 1;
    let core : Nat := 31;
      t < 128 ∧ n < 2 ∧ core < 32 ∧ 2 * t + n ∈ s.lum.armed) := by
  refine ⟨?_, ?_, ?_, ?_⟩ <;> decide +kernel

/-- States and operands that meet the hypotheses of MailboxChannels. -/
theorem witness_MailboxChannels :
    (let snd : Nat := 35; let rcv : Nat := 35;
      snd < 36 ∧ (35 < rcv ∨ rcv = snd)) ∧
    (let s : State := State.reset.setReg SYS_READY.addr 0#32; let snd : Nat := 35; let rcv : Nat := 32;
      snd < 36 ∧ rcv < 36 ∧ rcv ≠ snd ∧ s.agentDown rcv = true) ∧
    (let s : State := ready.down (LUM_MBX_DB.EN 31 0); let snd : Nat := 0; let rcv : Nat := 31;
      snd < 36 ∧ rcv < 36 ∧ rcv ≠ snd ∧ s.agentDown rcv = false ∧ s.chan snd rcv = none ∧ rcv ≠ 33 ∧ rcv ≠ 34 ∧
      (s.dbMap snd rcv).1 = false) ∧
    (let s : State := { ready with lum := { ready.lum with mbx := [(36 * 35, some (7#32, 5))] } };
    let snd : Nat := 35; let rcv : Nat := 0; let w := 7#32; let q := 5; let p := 0;
      snd < 36 ∧ rcv < 36 ∧ (rcv ≠ snd ∧ s.agentDown rcv = false ∧ s.chan snd rcv ≠ none) ∧
      (rcv ≠ snd ∧ s.chan snd rcv = some (w, q)) ∧ (p < 36 ∧ q < 36 ∧ (p, q) ≠ (snd, rcv))) ∧
    (let s : State := ready; let snd : Nat := 0; let rcv : Nat := 35;
      snd < 36 ∧ rcv < 36 ∧ rcv ≠ snd ∧ s.agentDown rcv = false ∧ s.chan snd rcv = none ∧ rcv ≠ 33 ∧ rcv ≠ 34 ∧
      (s.dbMap snd rcv).1 = true) ∧
    (let s : State := ready; let snd : Nat := 0; let rcv : Nat := 34;
      snd < 36 ∧ rcv < 36 ∧ rcv ≠ snd ∧ s.agentDown rcv = false ∧ s.chan snd rcv = none ∧ (rcv = 33 ∨ rcv = 34)) := by
  refine ⟨?_, ?_, ?_, ?_, ?_, ?_⟩ <;> decide +kernel

/-- States and operands that meet the hypotheses of MailboxPrimitives. -/
theorem witness_MailboxPrimitives :
    let s : State := running svc; let t : Tid := 0; let pc : BitVec 40 := startPc;
    let u : State := fetched s 0 startPc;
      t.val ≠ 128 ∧ Issues s.silent t pc u := by
  decide +kernel

/-- States and operands that meet the hypotheses of Wait. -/
theorem witness_Wait :
    (let s : State := (((running svc).setG 0 1 5#64).up (LUM_T_TEV.SOFT 0)).setEvmask 0 0x20#32; let t : Tid := 0;
    let pc : BitVec 40 := startPc; let u : State := fetched s 0 startPc; let ra : GReg := 1; let rd : GReg := 31;
    let us := (u.greg t ra).toNat; let ev := u.wakeBits t;
      t.val ≠ 128 ∧ Issues s t pc u ∧ us < 2 ^ 32 ∧ ev ≠ 0 ∧ rd ≠ 0) ∧
    (let s : State := (running svc).setG 0 1 0xFFFFFFFF#64; let t : Tid := 0; let pc : BitVec 40 := startPc;
    let u : State := fetched s 0 startPc; let ra : GReg := 1; let us := (u.greg t ra).toNat; let ev := u.wakeBits t;
      t.val ≠ 128 ∧ Issues s t pc u ∧ us < 2 ^ 32 ∧ ev = 0 ∧ (us ≠ 0 ∨ u.evmask t ≠ 0)) ∧
    (let s : State := running svc; let t : Tid := 0; let pc : BitVec 40 := startPc;
    let u : State := fetched s 0 startPc; let ra : GReg := 1; let us := (u.greg t ra).toNat; let ev := u.wakeBits t;
      t.val ≠ 128 ∧ Issues s t pc u ∧ us < 2 ^ 32 ∧ ev = 0 ∧ us = 0 ∧ u.evmask t = 0) ∧
    (let s : State := ready.setPrim 0 (some (.wait 5 (some 9))); let t : Tid := 0; let rd : GReg := 5;
    let d : Nat := 9;
      t.val ≠ 128 ∧ s.prim t = some (.wait rd (some d)) ∧ s.wakeBits t = 0 ∧ s.ctr < d) := by
  refine ⟨?_, ?_, ?_, ?_⟩ <;> decide +kernel

/-- States and operands that meet the hypotheses of MailboxRegisters. -/
theorem witness_MailboxRegisters :
    (let s : State := { ready with lum := { ready.lum with mbx := [(35, some (7#32, 5))] } }; let r : Req := 131;
    let agent : Nat := 35; let q : Nat := 0; let w := 7#32; let p := 5;
      32 ≤ agent ∧ agent < 36 ∧ q < 36 ∧
      s.blkReady (if agent = 33 then 12 else if agent = 34 then 15 else 13) = true ∧ agentOf r = agent ∧ q ≠ agent ∧
      s.chan q agent = some (w, p)) ∧
    (let s : State := ready; let r : Req := 0; let agent : Nat := 35; let q : Nat := 0;
      32 ≤ agent ∧ agent < 36 ∧ q < 36 ∧
      s.blkReady (if agent = 33 then 12 else if agent = 34 then 15 else 13) = true ∧ agentOf r ≠ agent) := by
  refine ⟨?_, ?_⟩ <;> decide +kernel

/-- States and operands that meet the hypotheses of PrimitivesInRecovery. -/
theorem witness_PrimitivesInRecovery :
    let s : State := running ready; let t : Tid := 0; let pc : BitVec 40 := startPc;
    let u : State := fetched s.silent 0 startPc;
      t.val ≠ 128 ∧ Issues s.silent t pc u ∧ u.mode = 1 := by
  decide +kernel

/-- States and operands that meet the hypotheses of BlockPrimitives. -/
theorem witness_BlockPrimitives :
    (let s : State := running svc; let t : Tid := 0; let pc : BitVec 40 := startPc;
    let u : State := fetched s.silent 0 startPc;
      t.val ≠ 128 ∧ Issues s.silent t pc u ∧ u.mode ≠ 1 ∧ u.rdy 6 = true) ∧
    (let s : State := running svc|>.setReg SYS_READY.addr 0x03FFFFBF#32; let t : Tid := 0;
    let pc : BitVec 40 := startPc; let u : State := fetched s.silent 0 startPc;
      t.val ≠ 128 ∧ Issues s.silent t pc u ∧ u.mode ≠ 1 ∧ u.rdy 6 = false) := by
  refine ⟨?_, ?_⟩ <;> decide +kernel

/-- States and operands that meet the hypotheses of KeyOperationsStart. -/
theorem witness_KeyOperationsStart :
    (let rb : GReg := 0; let w : WReg := 0;
    let s : State := { (running (svc)).setG 0 1 62#64 with vlt := { slots := [(63, ⟨1, 0xFFFF, 7, List.replicate 16 5⟩)] } };
    let t : Tid := 0; let pc : BitVec 40 := startPc; let u : State := fetched s.silent 0 startPc; let ra : GReg := 1;
    let op : Nat := 2; let a := (u.greg t ra).toNat; let b := (u.greg t rb).toNat;
      t.val ≠ 128 ∧ Issues s.silent t pc u ∧ u.mode ≠ 1 ∧
      ((u.kopStart (some t.val) true op a b (u.wreg t w)).1.isSome = true) ∧
      (u.rdy 3 = true ∧ a < 64 ∧ b = 0 ∧ op ∈ [1, 2] ∧ u.vlt.ops.length < 16 ∧ (u.slot a).typ = 0)) ∧
    (let rb : GReg := 0; let w : WReg := 0;
    let s : State := { (running (svc)).setG 0 1 63#64 with vlt := { slots := [(63, ⟨1, 0xFFFF, 7, List.replicate 16 5⟩)] } };
    let t : Tid := 0; let pc : BitVec 40 := startPc; let u : State := fetched s.silent 0 startPc; let ra : GReg := 1;
    let op : Nat := 1; let a := (u.greg t ra).toNat; let b := (u.greg t rb).toNat;
      t.val ≠ 128 ∧ Issues s.silent t pc u ∧ u.mode ≠ 1 ∧
      (u.kopStart (some t.val) true op a b (u.wreg t w)).1 = none) ∧
    (let rb : GReg := 0;
    let s : State := { (running (svc)).setG 0 1 127#64 with vlt := { slots := [(63, ⟨1, 0xFFFF, 7, List.replicate 16 5⟩)] } };
    let t : Tid := 0; let pc : BitVec 40 := startPc; let u : State := fetched s.silent 0 startPc; let ra : GReg := 1;
    let op : Nat := 0x10; let a := (u.greg t ra).toNat; let b := (u.greg t rb).toNat;
      t.val ≠ 128 ∧ Issues s.silent t pc u ∧ u.mode ≠ 1 ∧ u.rdy 3 = true ∧ a < 128 ∧ 64 ≤ a ∧ b = 0 ∧
      op ∈ [1, 2, 0x0F, 0x10] ∧ u.vlt.ops.length < 16 ∧ (u.slot (a - 64)).typ ≠ 0 ∧ (u.slot (a - 64)).gen ≠ 0) ∧
    (let s : State := { (running (svc.setReg SYS_READY.addr 0#32)).setG 0 1 63#64 with vlt := { slots := [(63, ⟨1, 0xFFFF, 7, List.replicate 16 5⟩)] } };
    let t : Tid := 0; let pc : BitVec 40 := startPc; let u : State := fetched s.silent 0 startPc;
      t.val ≠ 128 ∧ Issues s.silent t pc u ∧ u.mode ≠ 1 ∧ u.rdy 3 = false) ∧
    (let rb : GReg := 0;
    let s : State := { (running (svc)).setG 0 1 63#64 with vlt := { slots := [(63, ⟨1, 0xFFFF, 7, List.replicate 16 5⟩)], ops := List.replicate 16 ⟨none, 1, {}, [], [], 0, 0, 0, 0, {}, 0, 0⟩ } };
    let t : Tid := 0; let pc : BitVec 40 := startPc; let u : State := fetched s.silent 0 startPc; let ra : GReg := 1;
    let op : Nat := 0x0F; let a := (u.greg t ra).toNat; let b := (u.greg t rb).toNat;
      t.val ≠ 128 ∧ Issues s.silent t pc u ∧ u.mode ≠ 1 ∧ u.rdy 3 = true ∧ a < 64 ∧ b = 0 ∧ op ∈ [1, 2, 0x0F, 0x10] ∧
      u.vlt.ops.length = 16) := by
  refine ⟨?_, ?_, ?_, ?_, ?_⟩ <;> decide +kernel

/-- States and operands that meet the hypotheses of KeyOperationsEnd. -/
theorem witness_KeyOperationsEnd :
    (let s : State := keyOp (some 0) 0x10; let t : Tid := 0; let rd : GReg := 5; let wr : WReg := 2;
    let o : VOp := ⟨some 0, 0x10, {}, [], [], 0, 0, 0, 0, {}, 0, 0⟩;
      t.val ≠ 128 ∧ s.prim t = some (.kop rd wr) ∧ s.vlt.ops.find? (fun x => x.tid == some t.val) = some o ∧
      o.op = 0x10) ∧
    (let s : State := keyOp (some 0) 1; let t : Tid := 0; let rd : GReg := 5; let wr : WReg := 2;
    let o : VOp := ⟨some 0, 1, {}, [], [], 0, 0, 0, 0, {}, 0, 0⟩;
      t.val ≠ 128 ∧ s.prim t = some (.kop rd wr) ∧ s.vlt.ops.find? (fun x => x.tid == some t.val) = some o ∧
      o.op = 0x01) ∧
    (let s : State := keyOp (some 0) 2; let t : Tid := 0; let rd : GReg := 5; let wr : WReg := 2;
    let o : VOp := ⟨some 0, 2, {}, [], [], 0, 0, 0, 0, {}, 0, 0⟩;
      t.val ≠ 128 ∧ s.prim t = some (.kop rd wr) ∧ s.vlt.ops.find? (fun x => x.tid == some t.val) = some o ∧
      o.op = 0x02) ∧
    (let s : State := keyOp (some 0) 5; let t : Tid := 0; let rd : GReg := 5; let wr : WReg := 2;
    let o : VOp := ⟨some 0, 5, {}, [], [], 0, 0, 0, 0, {}, 0, 0⟩;
      t.val ≠ 128 ∧ s.prim t = some (.kop rd wr) ∧ s.vlt.ops.find? (fun x => x.tid == some t.val) = some o ∧
      o.op = 0x05) ∧
    (let s : State := keyOp (some 0) 0x0F; let t : Tid := 0; let rd : GReg := 5; let wr : WReg := 2;
    let o : VOp := ⟨some 0, 0x0F, {}, [], [], 0, 0, 0, 0, {}, 0, 0⟩;
      t.val ≠ 128 ∧ s.prim t = some (.kop rd wr) ∧ s.vlt.ops.find? (fun x => x.tid == some t.val) = some o ∧
      o.op = 0x0F) ∧
    (let s : State := keyOp none 0x10; let t : Tid := 0;
    let o : VOp := ⟨none, 0x10, {}, [], [], 0, 0, 0, 0, {}, 0, 0⟩;
      t.val ≠ 128 ∧ s.vlt.ops.find? (fun x => x.tid == none) = some o ∧ o.op = 0x10) := by
  refine ⟨?_, ?_, ?_, ?_, ?_, ?_⟩ <;> decide +kernel

/-- States and operands that meet the hypotheses of EventRegisters. -/
theorem witness_EventRegisters :
    (let s : State := ready; let blk : Nat := 15; let b := blockBase blk;
      blk < 16 ∧ s.blkReady blk = true ∧ (regDef (b + 4)).isSome = true) ∧
    (let s : State := State.reset.setReg SYS_READY.addr 0#32; let blk : Nat := 2; let x := blockBase 2 + 12;
    let b := blockBase blk;
      blk < 16 ∧ s.blkReady blk = false ∧ x ∈ [b + 4, b + 8, b + 12]) ∧
    (let blk : Nat := 0; let x := SYS_MODE.addr + 3;
      blk < 16 ∧ isReg x = true ∧ x % 4 ≠ 0) := by
  refine ⟨?_, ?_, ?_⟩ <;> decide +kernel

/-- States and operands that meet the hypotheses of Snapshots. -/
theorem witness_Snapshots :
    (let s : State := ready; let r : Req := 131; let a : Nat := TIME_NOW_S_LO.addr;
      isReg a = true ∧ s.refusal r a = ccOk ∧ inWindow? a = false ∧ mbxAt a = none ∧ latchLen a ≠ 0 ∧
      SMap.get (fun _ => none) s.latch (latchKey r a) = none) ∧
    (let s : State := { ready with latch := [(latchKey 131 (TIME_NOW_S_LO.addr + 4), some 7#32)] };
    let r : Req := 131; let a : Nat := TIME_NOW_S_LO.addr + 4; let w := 7#32; let blk := 0;
    let e := (latchKey 131 (TIME_NOW_S_LO.addr + 4), some 7#32);
      isReg a = true ∧ s.refusal r a = ccOk ∧ inWindow? a = false ∧ mbxAt a = none ∧
      (SMap.get (fun _ => none) s.latch (latchKey r a) = some w ∧ rosMask a = 0xFFFF_FFFF#32) ∧
      (e ∈ (s.dropLatches blk).latch)) := by
  refine ⟨?_, ?_⟩ <;> decide +kernel

/-- States and operands that meet the hypotheses of FirnPlanes. -/
theorem witness_FirnPlanes :
    (let s : State := { svc.up FIRN_CTRL.EN with planes := { base := some 0 }, mem := { dramPoison := [0] } };
    let ep : Nat := 0; let v : Wide := 0#128; let sel : Nat := 1; let p : Nat := 0;
    let r : Nat × Nat := ((s.freadOf ep sel).1.headD (0, 0));
      ep < 2 ^ 20 ∧ s.rdy 18 = true ∧ (∀ b ∈ s.planes.base, b % 8 = 0) ∧
      (entryOk v = true ∧ s.on FIRN_CTRL.EN = true ∧ s.fwriteMode = true) ∧
      (sel ≤ 8 ∧ s.on FIRN_CTRL.EN = true ∧ r ∈ (s.freadOf ep sel).1 ∧ s.firnPoison r.1 r.2 = true) ∧
      (p < 2 ^ 28 ∧ (s.on FIRN_CTRL.EN = false ∨ s.gate 0 = false ∨ s.on FIRN_CTRL.SURGE_EN = false))) ∧
    (let s : State := svc.up FIRN_CTRL.EN; let ep : Nat := 2 ^ 20 - 1; let sel : Nat := 8;
      ep < 2 ^ 20 ∧ s.rdy 18 = true ∧ (∀ b ∈ s.planes.base, b % 8 = 0) ∧ sel ≤ 8 ∧ s.on FIRN_CTRL.EN = true ∧
      NoErr s) ∧
    (let s : State := svc; let ep : Nat := 0; let v : Wide := 0x28B0000#128;
      ep < 2 ^ 20 ∧ s.rdy 18 = true ∧ (∀ b ∈ s.planes.base, b % 8 = 0) ∧ entryOk v = false) ∧
    (let s : State := svc; let ep : Nat := 0; let v : Wide := 0#128;
      ep < 2 ^ 20 ∧ s.rdy 18 = true ∧ (∀ b ∈ s.planes.base, b % 8 = 0) ∧ entryOk v = true ∧
      (s.on FIRN_CTRL.EN = false ∨ s.fwriteMode = false)) ∧
    (let s : State := (running (ready.setReg SYS_READY.addr 0#32 |>.wr SYS_MODE.MODE 3)).setW 0 7 0#128;
    let t : Tid := 0; let pc : BitVec 40 := startPc; let u : State := fetched s.silent 0 startPc;
      t.val ≠ 128 ∧ Issues s.silent t pc u ∧ u.mode ≠ 1 ∧ u.rdy 18 = false) ∧
    (let s : State := (running (svc)).setW 0 7 0x2000000000000#128; let t : Tid := 0; let pc : BitVec 40 := startPc;
    let u : State := fetched s.silent 0 startPc; let w : WReg := 7; let x := (u.wreg t w).toNat;
      t.val ≠ 128 ∧ Issues s.silent t pc u ∧ u.mode ≠ 1 ∧ u.rdy 18 = true ∧ 2 ^ 49 ≤ x) ∧
    (let s : State := (running (svc)).setW 0 7 0x1FFFFFFFFFFFF#128; let t : Tid := 0; let pc : BitVec 40 := startPc;
    let u : State := fetched s.silent 0 startPc; let w : WReg := 7; let x := (u.wreg t w).toNat;
    let floe := x / 2 ^ 48 % 2 == 1;
      t.val ≠ 128 ∧ Issues s.silent t pc u ∧ u.mode ≠ 1 ∧ u.rdy 18 = true ∧ x < 2 ^ 49 ∧ u.firnGate floe = false) ∧
    (let s : State := (running (svc.up FIRN_CTRL.EN |>.wr FIRN_COMMIT_STAT.STATE 2)).setW 0 7 0#128; let t : Tid := 0;
    let pc : BitVec 40 := startPc; let u : State := fetched s.silent 0 startPc; let w : WReg := 7;
    let x := (u.wreg t w).toNat; let floe := x / 2 ^ 48 % 2 == 1;
      t.val ≠ 128 ∧ Issues s.silent t pc u ∧ u.mode ≠ 1 ∧ u.rdy 18 = true ∧ x < 2 ^ 49 ∧ u.firnGate floe = true ∧
      (u.isSealed = true ∨ u.isChecking = true)) ∧
    (let s : State := (running (svc.up FIRN_CTRL.EN |>.up FLOE_STATUS.SKEW)).setW 0 7 0x1000000000000#128;
    let t : Tid := 0; let pc : BitVec 40 := startPc; let u : State := fetched s.silent 0 startPc; let w : WReg := 7;
    let x := (u.wreg t w).toNat; let floe := x / 2 ^ 48 % 2 == 1;
      t.val ≠ 128 ∧ Issues s.silent t pc u ∧ u.mode ≠ 1 ∧ u.rdy 18 = true ∧ x < 2 ^ 49 ∧ u.firnGate floe = true ∧
      u.isSealed = false ∧ u.isChecking = false ∧ floe = true ∧ u.on FLOE_STATUS.SKEW = true) ∧
    (let s : State := (running (svc.up FIRN_CTRL.EN)).setW 0 7 5#128; let t : Tid := 0; let pc : BitVec 40 := startPc;
    let u : State := fetched s.silent 0 startPc; let w : WReg := 7; let x := (u.wreg t w).toNat;
    let floe := x / 2 ^ 48 % 2 == 1;
      t.val ≠ 128 ∧ Issues s.silent t pc u ∧ u.mode ≠ 1 ∧ u.rdy 18 = true ∧ x < 2 ^ 49 ∧ u.firnGate floe = true ∧
      u.isSealed = false ∧ u.isChecking = false ∧ (floe = false ∨ u.on FLOE_STATUS.SKEW = false)) := by
  refine ⟨?_, ?_, ?_, ?_, ?_, ?_, ?_, ?_, ?_, ?_⟩ <;> decide +kernel

/-- States and operands that meet the hypotheses of FirnCommands. -/
theorem witness_FirnCommands :
    (let s : State := ready.wr FIRN_KEY.VALUE (2 ^ 20 - 1); let key := s.rd FIRN_KEY.VALUE;
    let d0 := s.rd FIRN_DATA0.VALUE;
      Takes s 2 FIRN_STAT.addr ∧ key < 2 ^ 20 ∧ d0 / 2 ^ 22 % 2 ^ 9 = 0 ∧ s.sealedChanged key = false ∧ NoErr s) ∧
    (let s : State := { (ready.wr FIRN_KEY.VALUE (2 ^ 18 - 1)).wr FIRN_DATA0.VALUE 511 with planes := { map := [(7, 0x8003FFFF#32)] } };
    let key := s.rd FIRN_KEY.VALUE; let d0 := s.rd FIRN_DATA0.VALUE;
      Takes s 2 FIRN_STAT.addr ∧ NoErr s ∧ (key < 2 ^ 18 ∧ d0 < 2 ^ 9 ∧ s.endpointsOf key ≠ []) ∧
      (d0 ≠ 0 ∧ d0 < 2 ^ 21 ∧ key + d0 ≤ 2 ^ 20)) ∧
    (let s : State := { ready.wr FIRN_DATA0.VALUE (2 ^ 20) with firn := { commit := some ⟨5, false, 1⟩ } };
    let c := ⟨5, false, 1⟩;
      Takes s 2 FIRN_STAT.addr ∧ s.firn.commit = some c ∧ c.floe = false ∧ s.pastCutoff c.epoch = false ∧ NoErr s) ∧
    (let s : State := withNode (ready.wr FIRN_KEY.VALUE (2 ^ 18 - 1)) (2 ^ 18 - 1) aMac;
    let key := s.rd FIRN_KEY.VALUE;
      Takes s 2 FIRN_STAT.addr ∧ key < 2 ^ 18 ∧ (s.cellOf key).isSome = true ∧ NoErr s) ∧
    (let s : State := { ((ready.wr FIRN_KEY.VALUE (2 ^ 20 - 1)).wr FIRN_DATA2.VALUE 1).wr FIRN_DATA0.VALUE 64 with mem := { dram := [(64, 1), (125, 1), (126, 180)] } };
    let bs := [1] ++ List.replicate 60 0 ++ [1, 180, 0]; let key := s.rd FIRN_KEY.VALUE;
    let d0 := s.rd FIRN_DATA0.VALUE; let src := d0 + 2 ^ 32 * (s.rd FIRN_DATA1.VALUE % 256);
    let n := s.rd FIRN_DATA2.VALUE % 2 ^ 17;
      Takes s 2 FIRN_STAT.addr ∧ src % 64 = 0 ∧ n = 1 ∧ key < 2 ^ 20 ∧ src + 64 ≤ 2 ^ 36 ∧
      s.dmaRead src 64 = some bs ∧ calOk (BitVec.ofNat 512 (ofLe bs)) = true) ∧
    (let s : State := { ready.wr FIRN_KEY.VALUE (2 ^ 20 - 1) with planes := { base := some 0 }, mem := { dramPoison := [(mapOff (2 ^ 20 - 1)) / 8] } };
    let key := s.rd FIRN_KEY.VALUE; let d0 := s.rd FIRN_DATA0.VALUE;
      Takes s 2 FIRN_STAT.addr ∧ key < 2 ^ 20 ∧ d0 / 2 ^ 22 % 2 ^ 9 = 0 ∧ s.sealedChanged key = false ∧
      s.firnPoison (mapOff key) 4 = true) := by
  refine ⟨?_, ?_, ?_, ?_, ?_, ?_⟩ <;> decide +kernel

/-- States and operands that meet the hypotheses of FirnEvents. -/
theorem witness_FirnEvents :
    (let s : State := standby;
      (s.blkReady 2 = true ∧ s.on FIRN_CTRL.EN = false ∧ s.planes.filling = false ∧ s.firnBase ≤ 0xF_E000_0000) ∧
      (s.standsBy = true)) ∧
    (let s : State := ready.wr FIRN_REGION_HI.BASE_HI 16;
      s.blkReady 2 = true ∧ s.on FIRN_CTRL.EN = false ∧ s.planes.filling = false ∧ 0xF_E000_0000 < s.firnBase) ∧
    (let s : State := { ready with planes := { filling := true } };
      s.planes.filling = true) ∧
    (let s : State := svc.up FIRN_CTRL.EN;
      s.blkReady 2 = true ∧ s.on FIRN_CTRL.EN = true ∧ s.firn.check = none ∧ NoErr s ∧ s.firn.commit = none) ∧
    (let s : State := { (ready.wr SYS_MODE.MODE 3).up FIRN_CTRL.EN with firn := { commit := some ⟨0, true, 1⟩ } };
    let c := ⟨0, true, 1⟩;
      NoErr s ∧ s.firn.commit = some c ∧
      (s.blkReady 2 = true ∧ s.on FIRN_CTRL.EN = true ∧ s.firn.check = none ∧ s.pastCutoff c.epoch = true) ∧
      (c.floe = true ∧ s.rd FLOE_CHANGE.STATE ≠ 1 ∧ s.standsBy = false)) ∧
    (let s : State := { (ready.wr SYS_MODE.MODE 3).up FIRN_CTRL.EN with firn := { commit := some ⟨5, false, 1⟩ } };
    let c := ⟨5, false, 1⟩;
      s.firn.commit = some c ∧
      (s.blkReady 2 = true ∧ s.on FIRN_CTRL.EN = true ∧ s.firn.check = none ∧ NoErr s ∧ s.pastCutoff c.epoch = false)
          ∧ (c.floe = false)) ∧
    (let s : State := { ready with firn := { check := some ⟨127, 5, false⟩ } }; let c := ⟨127, 5, false⟩;
      s.firn.check = some c ∧ c.tid < 128 ∧ s.firn.commit = none ∧ c.floe = false ∧ NoErr s ∧
      s.firnGate false = false) ∧
    (let s : State := { svc.up FIRN_CTRL.EN with firn := { check := some ⟨127, 1, false⟩ } };
    let c := ⟨127, 1, false⟩;
      s.firn.check = some c ∧ c.tid < 128 ∧ (s.blkReady 2 = true ∧ s.on FIRN_CTRL.EN = true) ∧
      (s.firn.commit = none ∧ c.floe = false ∧ NoErr s ∧ s.firnGate false = true ∧ c.epoch ≠ 0 ∧ c.epoch * 1000000000
          < s.netNs + 2000000000)) ∧
    (let s : State := { svc.up FIRN_CTRL.EN with firn := { check := some ⟨127, 10, false⟩ } };
    let c := ⟨127, 10, false⟩; let z := s.copyDone;
      s.firn.check = some c ∧ c.tid < 128 ∧ s.firn.commit = none ∧ c.floe = false ∧ NoErr s ∧
      s.firnGate false = true ∧ (z.checkCommit c).1 = ccOk) ∧
    (let s : State := svc.up FIRN_BUF.COPYING;
      s.copying = true ∧ NoErr s) ∧
    (let s : State := { ready with firn := { surges := [⟨2 ^ 20 - 1, 1, 2, 7, 5, 100, none, 0, 0⟩] } };
    let ep := 2 ^ 20 - 1; let g := ⟨2 ^ 20 - 1, 1, 2, 7, 5, 100, none, 0, 0⟩;
      ep < 2 ^ 20 ∧ s.standsBy = false ∧
      s.firn.surges.find? (fun g => g.ep == ep && g.first.isNone && g.hold != 0) = some g) ∧
    (let s : State := withNode ready (2 ^ 18 - 1) aMac; let n := 2 ^ 18 - 1; let m := aMac;
      n < 2 ^ 18 ∧ s.mac n = some m ∧ s.standsBy = false ∧ NoErr s) := by
  refine ⟨?_, ?_, ?_, ?_, ?_, ?_, ?_, ?_, ?_, ?_, ?_, ?_⟩ <;> decide +kernel

/-- States and operands that meet the hypotheses of SastCommands. -/
theorem witness_SastCommands :
    (let s : State := ready.up (SAST_CHAIN.LOCK 7) |>.wr SAST_KEY.VALUE 7; let key := s.rd SAST_KEY.VALUE;
      Takes s 3 SAST_STAT.addr ∧ (s.on (SAST_CHAIN.LOCK (key % 8)) = true) ∧ ((2 ^ 18 ≤ key ∨ s.nodeEnt key = none)) ∧
      (s.cellOf key = none ∧ s.standsBy = false) ∧ (s.tether (key % 16) = none)) ∧
    (let s : State := ready.wr SAST_KEY.VALUE (2 ^ 18); let key := s.rd SAST_KEY.VALUE;
      Takes s 3 SAST_STAT.addr ∧ s.on (SAST_CHAIN.LOCK (key % 8)) = false) ∧
    (let s : State := { withNode ((((svc.wr SAST_KEY.VALUE (2 ^ 18 - 1)).wr SAST_DATA0.VALUE 6).wr SAST_DATA2.VALUE 0).wr SAST_DATA3.VALUE 0) (2 ^ 18 - 1) aMac with sast := { nodes := [(2 ^ 18 - 1, some aMac)], plan := some aPlan } };
    let e := aNode 63; let c := 63; let m := aMac; let key := s.rd SAST_KEY.VALUE; let d0 := s.rd SAST_DATA0.VALUE;
      Takes s 3 SAST_STAT.addr ∧ (key < 2 ^ 18 ∧ s.nodeEnt key = some e) ∧
      (s.cellOf key = some c ∧ s.mac key = some m ∧ s.standsBy = false ∧ s.sleepy key = false ∧ s.tethered key =
          false ∧ s.roomIn (d0 % 64) = true) ∧ (s.nodeEnt key = some e ∧ e.bound = true ∧ s.standsBy = false) ∧
      (5 < d0 % 8)) ∧
    (let s : State := withNode ((((svc.wr SAST_KEY.VALUE 5).wr SAST_DATA0.VALUE 8).wr SAST_DATA2.VALUE 0).wr
        SAST_DATA3.VALUE 0) 5 aMac; let c := 63; let m := aMac; let key := s.rd SAST_KEY.VALUE;
    let d0 := s.rd SAST_DATA0.VALUE;
      Takes s 3 SAST_STAT.addr ∧ s.mac key = some m ∧ s.cellOf key = some c ∧ s.standsBy = false ∧ d0 / 8 = 1) ∧
    (let s : State := withNode ((((svc.wr SAST_KEY.VALUE 5).wr SAST_DATA0.VALUE 6).wr SAST_DATA2.VALUE 0).wr
        SAST_DATA3.VALUE 0) 5 aMac; let c := 63; let m := aMac; let key := s.rd SAST_KEY.VALUE;
    let d0 := s.rd SAST_DATA0.VALUE; let t := s.setMac key (some { m with grant := none });
      Takes s 3 SAST_STAT.addr ∧ s.mac key = some m ∧ s.cellOf key = some c ∧ s.standsBy = false ∧ d0 < 7 ∧
      (t.allot c d0).1 = none) ∧
    (let s : State := { ((((svc.wr SAST_KEY.VALUE (2 ^ 18 - 1)).wr SAST_DATA0.VALUE 0).wr SAST_DATA2.VALUE (63 + 64 * 800 + 2 ^ 22 * 8)).wr SAST_DATA3.VALUE 600) with sast := { plan := some aPlan } };
    let i := 0; let p := aPlan; let q := aCell; let key := s.rd SAST_KEY.VALUE; let d2 := s.rd SAST_DATA2.VALUE;
    let d3 := s.rd SAST_DATA3.VALUE; let base := d3 / 2 ^ 16 % 128;
      Takes s 3 SAST_STAT.addr ∧ d2 / 2 ^ 27 = 0 ∧ (d2 / 2 ^ 26 = 1 ∨ key < 2 ^ 18) ∧ 2 ≤ d2 / 64 % 1024 ∧
      d2 / 64 % 1024 ≤ 800 ∧ d2 / 2 ^ 22 % 16 ≤ 8 ∧ 1 ≤ d3 % 1024 ∧ d3 % 1024 ≤ 600 ∧ d3 / 1024 % 64 = 0 ∧
      d3 / 2 ^ 23 = 0 ∧ (base = 0 ∨ s.on SAST_CTRL.BAND = true) ∧ base ≤ 65 ∧ (s.mode = 2 ∨ s.mode = 3) ∧
      s.holds = true ∧ s.tetherRoom (d2 % 64) = some i ∧ s.sast.plan = some p ∧ p.cells[d2 % 64]? = some q ∧
      2 ≤ ((q.rf.filter (fun c => base ≤ c && c ≤ base + 63 && c ≤ topChannel (s.rd
          SAST_CTRL.BAND))).eraseDups).length) ∧
    (let s : State := { ((((svc.wr SAST_KEY.VALUE 15).wr SAST_DATA0.VALUE 6).wr SAST_DATA2.VALUE 0).wr SAST_DATA3.VALUE 0) with sast := { tethers := [(15, some aTether)] } };
    let key := s.rd SAST_KEY.VALUE;
      Takes s 3 SAST_STAT.addr ∧ s.tether (key % 16) ≠ none) ∧
    (let s : State := { ((((svc.wr SAST_KEY.VALUE 15).wr SAST_DATA0.VALUE 5).wr SAST_DATA2.VALUE 0).wr SAST_DATA3.VALUE 0) with sast := { heads := [(15, { cap := some aCap })] } };
    let d := aCap; let key := s.rd SAST_KEY.VALUE; let d0 := s.rd SAST_DATA0.VALUE;
      Takes s 3 SAST_STAT.addr ∧ d0 % 8 ≤ 5 ∧ (s.head (key % 64)).cap = some d) ∧
    (let s : State := standby; let i := Instr.disassoc 5; let r : Req := 5;
      Takes s 3 SAST_STAT.addr ∧ s.standsBy = true ∧ i = Instr.disassoc r) := by
  refine ⟨?_, ?_, ?_, ?_, ?_, ?_, ?_, ?_, ?_⟩ <;> decide +kernel

/-- States and operands that meet the hypotheses of SastEvents. -/
theorem witness_SastEvents :
    (let s : State := ready; let v : Word := 0xFF0000#32; let n : Nat := 7; let pos : Nat := 7; let h : Nat := 63;
    let i : Nat := 15; let x := v.toNat; let adv := [x % 256, x / 256 % 256, x / 65536 % 256];
    let bad : Prop := (∃ c ∈ adv, topChannel (s.rd SAST_CTRL.BAND) < c) ∨ (∃ c ∈ adv, ∃ d ∈ adv, c + 63 < d);
      n < 8 ∧ pos < 8 ∧ h < 64 ∧ i < 16 ∧ (s.blkReady 3 = true ∧ bad) ∧ (NoErr s)) ∧
    (let s : State := ready.up (SAST_HEAD.PRESENT 63); let v : Word := 0#32; let n : Nat := 7; let pos : Nat := 7;
    let h : Nat := 63; let i : Nat := 15; let rtts := [300]; let x := v.toNat;
    let adv := [x % 256, x / 256 % 256, x / 65536 % 256];
    let bad : Prop := (∃ c ∈ adv, topChannel (s.rd SAST_CTRL.BAND) < c) ∨ (∃ c ∈ adv, ∃ d ∈ adv, c + 63 < d);
      n < 8 ∧ pos < 8 ∧ h < 64 ∧ i < 16 ∧ (s.blkReady 3 = true ∧ ¬ bad) ∧
      (s.on (SAST_HEAD.PRESENT h) = true ∧ rtts ≠ [])) ∧
    (let h : Nat := 0; let i : Nat := 0;
    let s : State := { svc with sast := { chains := [(7, { disc := some ⟨7, false, 0, 0, 0, 3, 0⟩ })] } };
    let n : Nat := 7; let pos : Nat := 7; let d := ⟨7, false, 0, 0, 0, 3, 0⟩; let k := ⟨7, false, 0, 0, 0, 3, 0⟩;
      n < 8 ∧ pos < 8 ∧ h < 64 ∧ i < 16 ∧ ((s.chain n).disc = some d ∧ d.caped = false ∧ d.pos < 8) ∧
      ((s.chain n).disc = some k ∧ k.pos = pos ∧ k.caped = false ∧ (s.chain n).span ≤ 8 ∧ (s.turned = false ∨ pos <
          (s.chain n).span)) ∧ (s.holds = true ∧ s.rdy 4 = true)) ∧
    (let h : Nat := 0; let i : Nat := 0;
    let s : State := { svc with sast := { chains := [(7, { disc := some ⟨7, true, 254, 0, 0, 3, 0⟩ })] } };
    let n : Nat := 7; let pos : Nat := 7; let k := ⟨7, true, 254, 0, 0, 3, 0⟩;
      n < 8 ∧ pos < 8 ∧ h < 64 ∧ i < 16 ∧ (s.chain n).disc = some k ∧ k.pos = pos ∧ k.caped = true ∧
      (s.chain n).span ≤ 8 ∧ k.echoes < 255) ∧
    (let h : Nat := 0; let i : Nat := 0;
    let s : State := { svc with sast := { chains := [(7, { disc := some ⟨7, true, 255, 0, 0, 3, 0⟩ })] } };
    let n : Nat := 7; let pos : Nat := 7; let k := ⟨7, true, 255, 0, 0, 3, 0⟩;
      n < 8 ∧ pos < 8 ∧ h < 64 ∧ i < 16 ∧ (s.chain n).disc = some k ∧ k.pos = pos ∧ k.caped = true ∧
      (s.chain n).span ≤ 8 ∧ k.echoes = 255) ∧
    (let n : Nat := 0; let pos : Nat := 0; let i : Nat := 0;
    let s : State := { svc with sast := { heads := [(63, { holds := [(0, some 7)] })] } }; let h : Nat := 63;
    let rssi := 127; let eui := 5;
      n < 8 ∧ pos < 8 ∧ h < 64 ∧ i < 16 ∧ (((s.head h).holds.filterMap Prod.snd) ≠ []) ∧
      (s.holds = true ∧ s.loud rssi = true) ∧ (s.holds = true ∧ NoSrcErr s ∧ s.nodeByEui eui = none)) ∧
    (let n : Nat := 0; let pos : Nat := 0; let i : Nat := 0;
    let s : State := withNode (svc.up SAST_CTRL.TETHER_SCAN) 9 aMac; let h : Nat := 63; let eui := 0x105; let m := 9;
    let j := 0; let chs := [s.rd SAST_ADV_CH.ADV0, s.rd SAST_ADV_CH.ADV1, s.rd SAST_ADV_CH.ADV2].eraseDups;
      n < 8 ∧ pos < 8 ∧ h < 64 ∧ i < 16 ∧ s.holds = true ∧ (j < 64) ∧
      (NoSrcErr s ∧ s.on SAST_CTRL.TETHER_SCAN = true ∧ 2 ≤ chs.length ∧ s.nodeByEui eui = some m ∧ s.tetherRoom h =
          some j)) ∧
    (let n : Nat := 0; let pos : Nat := 0; let h : Nat := 0;
    let s : State := { svc with sast := { tethers := [(15, some aTether)] } }; let i : Nat := 15; let t := aTether;
    let d := (⟨[], 979, 4800⟩ : TetherRx);
      n < 8 ∧ pos < 8 ∧ h < 64 ∧ i < 16 ∧ s.tether i = some t ∧
      (s.standsBy = true ∨ d.start < 980 ∨ d.stop < d.start ∨ 4800 < d.stop)) ∧
    (let n : Nat := 0; let pos : Nat := 0; let h : Nat := 0;
    let s : State := { svc with sast := { tethers := [(15, some aTether)] } }; let i : Nat := 15; let t := aTether;
    let d := (⟨[], 980, 4800⟩ : TetherRx);
      n < 8 ∧ pos < 8 ∧ h < 64 ∧ i < 16 ∧ s.tether i = some t ∧ s.standsBy = false ∧ 980 ≤ d.start ∧
      d.start ≤ d.stop ∧ d.stop ≤ 4800) ∧
    (let s : State := svc.down SAST_CTRL.TETHER_SCAN; let n : Nat := 7; let pos : Nat := 7; let h : Nat := 63;
    let i : Nat := 15; let chs := [s.rd SAST_ADV_CH.ADV0, s.rd SAST_ADV_CH.ADV1, s.rd SAST_ADV_CH.ADV2].eraseDups;
      n < 8 ∧ pos < 8 ∧ h < 64 ∧ i < 16 ∧ s.holds = true ∧ NoSrcErr s ∧
      (s.on SAST_CTRL.TETHER_SCAN = false ∨ chs.length < 2 ∨ s.tetherRoom h = none)) := by
  refine ⟨?_, ?_, ?_, ?_, ?_, ?_, ?_, ?_, ?_, ?_⟩ <;> decide +kernel

/-- States and operands that meet the hypotheses of SastNodes. -/
theorem witness_SastNodes :
    (let s : State := ready; let rx : RxInfo := aRx; let i := Instr.dataUp rx [];
      rxOk rx = true ∧ (s.holds = false ∨ rxInTime rx = false) ∧ i = .dataUp rx []) ∧
    (let s : State := svc; let rx : RxInfo := aRx; let i := Instr.dataUp rx [];
      rxOk rx = true ∧ s.holds = true ∧ rxInTime rx = true ∧ NoSrcErr s ∧ i = .dataUp rx [] ∧
      s.nodeByShort rx.head rx.short = none) ∧
    (let s : State := withNode svc (2 ^ 18 - 1) aMac; let rx : RxInfo := aRx; let i := Instr.dataUp rx [];
    let n := 2 ^ 18 - 1; let e := aNode 63; let m := aMac;
      rxOk rx = true ∧ s.holds = true ∧ s.nodeEnt n = some e ∧ s.mac n = some m ∧
      (rxInTime rx = true ∧ NoSrcErr s ∧ i = .dataUp rx [] ∧ s.nodeByShort rx.head rx.short = some n) ∧
      (n < 2 ^ 18 ∧ e.assoc = true ∧ m.lost = false)) ∧
    (let s : State := onAsk none; let rx : RxInfo := aRx; let eui := 0x105; let a := ⟨63, aCaps, none, 1, 0⟩;
      rxOk rx = true ∧ s.holds = true ∧ s.sast.assocs.find? (fun a => a.caps.eui == eui) = some a ∧ a.node = none) ∧
    (let s : State := onAsk (some 5); let rx : RxInfo := aRx; let eui := 0x105; let a := ⟨63, aCaps, some 5, 1, 0⟩;
    let n := 5; let e := aNode 63;
      rxOk rx = true ∧ s.holds = true ∧ s.sast.assocs.find? (fun a => a.caps.eui == eui) = some a ∧ a.node = some n ∧
      s.nodeEnt n = some e) ∧
    (let s : State := withNode svc 5 { aMac with move := some ⟨3, 9, none, 2⟩ }; let rx : RxInfo := aRx; let n := 5;
    let e := aNode 63; let m := { aMac with move := some ⟨3, 9, none, 2⟩ }; let v := ⟨3, 9, none, 2⟩;
      rxOk rx = true ∧ n < 2 ^ 18 ∧ s.mac n = some m ∧ s.nodeEnt n = some e ∧ m.move = some v ∧ s.holds = true) ∧
    (let s : State := withNode svc 5 { aMac with lost := true }; let rx : RxInfo := aRx; let n := 5;
    let e := aNode 63; let m := { aMac with lost := true };
      rxOk rx = true ∧ n < 2 ^ 18 ∧ s.mac n = some m ∧ s.nodeEnt n = some e ∧ m.lost = true ∧ s.holds = true) := by
  refine ⟨?_, ?_, ?_, ?_, ?_, ?_, ?_⟩ <;> decide +kernel

/-- States and operands that meet the hypotheses of Meltwater. -/
theorem witness_Meltwater :
    (let s : State := ready.wr MELT_KEY.VALUE (15 + 7 * 64); let f : Nat := 15; let n : Nat := 15; let ph : Nat := 2;
    let key := s.rd MELT_KEY.VALUE;
      f < 16 ∧ n < 16 ∧ ph < 3 ∧ (Takes s 4 MELT_STAT.addr ∧ s.on (MELT_POD.PRESENT (key % 16)) = false) ∧
      (Takes s 4 MELT_STAT.addr ∧ key / 64 % 8 = 7) ∧ (s.blkReady 4 = true) ∧ (s.meltOn = false)) ∧
    (let s : State := ready.wr MELT_KEY.VALUE (15 + 6 * 64) |>.up (MELT_POD.PRESENT 15); let f : Nat := 15;
    let n : Nat := 15; let ph : Nat := 2; let key := s.rd MELT_KEY.VALUE;
      f < 16 ∧ n < 16 ∧ ph < 3 ∧ Takes s 4 MELT_STAT.addr ∧ (s.on (MELT_POD.PRESENT (key % 16)) = true) ∧
      (key / 64 % 8 ≠ 7)) ∧
    (let s : State := metering; let f : Nat := 15; let n : Nat := 15; let ph : Nat := 2; let meas := [aMeas];
      f < 16 ∧ n < 16 ∧ ph < 3 ∧ s.meltOn = true ∧ (meas.all (fun b => decide (b.feeder < 16)) = true) ∧
      (s.melt.intStart = none ∧ s.melt.cuts = [])) ∧
    (let s : State := { metering with melt := { secDone := some (1000000000, [], []) } }; let f : Nat := 15;
    let n : Nat := 15; let ph : Nat := 2; let d := 1000000000; let a := []; let b := [];
      f < 16 ∧ n < 16 ∧ ph < 3 ∧ s.meltOn = true ∧ s.melt.secDone = some (d, a, b)) ∧
    (let s : State := { metering with melt := { intStart := some 900 } }; let f : Nat := 15; let n : Nat := 15;
    let ph : Nat := 2; let b := 900;
      f < 16 ∧ n < 16 ∧ ph < 3 ∧ s.meltOn = true ∧ s.melt.intStart = some b ∧ s.melt.cuts = []) ∧
    (let s : State := { (metering.up MELT_CTRL.RECON_EN).up (MELT_POD.PRESENT 15) with melt := { recon := true } };
    let f : Nat := 15; let n : Nat := 15; let ph : Nat := 2;
      f < 16 ∧ n < 16 ∧ ph < 3 ∧ s.meltOn = true ∧ (s.on MELT_CTRL.RECON_EN = true ∧ s.melt.recon = true) ∧
      (s.on (MELT_POD.PRESENT f) = true)) ∧
    (let s : State := { (((metering.up (MELT_POD.PRESENT 15)).wr (MELT_FS_V.FS 15) 500).wr (MELT_FS_I.FS 15) 50).wr (MELT_POD.LOW 15) 4 with melt := { live := [15] } };
    let f : Nat := 15; let n : Nat := 15; let ph : Nat := 2; let part := { aMeas with feeder := 15 };
      f < 16 ∧ n < 16 ∧ ph < 3 ∧ s.meltOn = true ∧ part.feeder = f ∧ s.lowPath f ph = true) ∧
    (let s : State := { (metering.up (MELT_PULSE.EN 15)).wr (MELT_PULSE_K.K 15) 1 with melt := { pulses := [(15, { acc := uwhUnit, closed := true, stop := 7 })] } };
    let f : Nat := 15; let n : Nat := 15; let ph : Nat := 2;
      f < 16 ∧ n < 16 ∧ ph < 3 ∧
      (s.meltOn = true ∧ s.pulseOn n = true ∧ (s.rd (MELT_PULSE_K.K n) * uwhUnit : Nat) ≤ (s.pulse n).total ∧
          (s.pulse n).total ≤ 65535 * (s.rd (MELT_PULSE_K.K n) * uwhUnit : Nat)) ∧ ((s.pulse n).closed = true)) ∧
    (let s : State := { metering with melt := { settle := [(15, some 7)] } }; let f : Nat := 15; let n : Nat := 15;
    let ph : Nat := 2; let c := 7;
      f < 16 ∧ n < 16 ∧ ph < 3 ∧ s.meltOn = true ∧ SMap.get (fun _ => none) s.melt.settle f = some c) ∧
    (let s : State := { metering with melt := { cuts := [(7, 8)] } }; let f : Nat := 15; let n : Nat := 15;
    let ph : Nat := 2;
      f < 16 ∧ n < 16 ∧ ph < 3 ∧ s.meltOn = true ∧ s.melt.cuts ≠ []) ∧
    (let s : State := metering; let f : Nat := 15; let n : Nat := 15; let ph : Nat := 2; let sig := 5; let lane := [];
      f < 16 ∧ n < 16 ∧ ph < 3 ∧ s.meltOn = true ∧ (sig < 6 ∧ s.metered f = false) ∧
      (s.on (MELT_POD.PRESENT f) = false ∧ alignOf lane = none)) ∧
    (let s : State := { (((metering.up (MELT_POD.PRESENT 15)).wr (MELT_FS_V.FS 15) 500).wr (MELT_FS_I.FS 15) 50).wr (MELT_FREQ.FREQ 15) 128000 with melt := { live := [15], win := [(125, List.replicate 1250 ⟨0, 0, false⟩)] } };
    let f : Nat := 15; let n : Nat := 15; let ph : Nat := 2; let sig := 5; let x := ([] : List Nat);
    let z := s.takeWords ⟨f, x, s.on (MELT_POD.PORT_B f)⟩; let all := SMap.get (fun _ => []) z.melt.win (8 * f + sig);
      f < 16 ∧ n < 16 ∧ ph < 3 ∧ s.meltOn = true ∧ sig < 6 ∧ s.metered f = true ∧ s.windowLen f ≤ all.length) ∧
    (let s : State := metering; let f : Nat := 15; let n : Nat := 15; let ph : Nat := 2;
    let lane := List.replicate 192 true; let o := 0;
      f < 16 ∧ n < 16 ∧ ph < 3 ∧ s.meltOn = true ∧ s.on (MELT_POD.PRESENT f) = false ∧ alignOf lane = some o) ∧
    (let s : State := (metering.up (MELT_PULSE.EN 15)).wr (MELT_PULSE_K.K 15) 1; let f : Nat := 15; let n : Nat := 15;
    let ph : Nat := 2;
      f < 16 ∧ n < 16 ∧ ph < 3 ∧ s.meltOn = true ∧ s.pulseOn n = true ∧
      (s.pulse n).total < (s.rd (MELT_PULSE_K.K n) * uwhUnit : Nat)) ∧
    (let s : State := { (((metering.up (MELT_POD.PRESENT 15)).wr (MELT_FS_V.FS 15) 500).wr (MELT_FS_I.FS 15) 50).wr (MELT_FREQ.FREQ 15) 128000 with melt := { live := [15] } };
    let f : Nat := 15; let n : Nat := 15; let ph : Nat := 2; let sig := 5; let x := ([] : List Nat);
    let z := s.takeWords ⟨f, x, s.on (MELT_POD.PORT_B f)⟩; let all := SMap.get (fun _ => []) z.melt.win (8 * f + sig);
      f < 16 ∧ n < 16 ∧ ph < 3 ∧ s.meltOn = true ∧ sig < 6 ∧ s.metered f = true ∧ all.length < s.windowLen f) := by
  refine ⟨?_, ?_, ?_, ?_, ?_, ?_, ?_, ?_, ?_, ?_, ?_, ?_, ?_, ?_, ?_⟩ <;> decide +kernel

/-- States and operands that meet the hypotheses of NetworkTime. -/
theorem witness_NetworkTime :
    (let s : State := ready.down TIME_SYNC.STEP_ARMED |>.wr TIME_DATA0.VALUE 219902326; let q : Nat := 0;
    let n : Nat := 0; let m : PtpMsg := aPtp; let d0 := s.rd TIME_DATA0.VALUE;
      launchQ q = true ∧ n < 5 ∧ (Takes s 5 TIME_STAT.addr ∧ s.on TIME_SYNC.STEP_ARMED = false) ∧
      (Takes s 5 TIME_STAT.addr ∧ (signedOf 32 d0 < -219902325 ∨ 219902325 < signedOf 32 d0)) ∧
      (s.rdy 4 = true ∧ m.domain = s.rd TIME_CTRL.DOMAIN ∧ m.kind = 0 ∧ m.twoStep = false ∧ n < 2 ∧ (s.bestMaster n =
          none ∨ s.bestMaster n = some m.source))) ∧
    (let s : State := (ready.up TIME_SYNC.STEP_ARMED).wr FIRN_COMMIT_STAT.STATE 2 |>.wr TIME_DATA0.VALUE 219902325
        |>.up TIME_CTRL.SERVO; let q : Nat := 0; let n : Nat := 1; let m : PtpMsg := { aPtp with domain := 255 };
    let d0 := s.rd TIME_DATA0.VALUE;
      launchQ q = true ∧ n < 5 ∧ (Takes s 5 TIME_STAT.addr ∧ s.on TIME_SYNC.STEP_ARMED = true ∧ s.firnBusy = true) ∧
      (Takes s 5 TIME_STAT.addr ∧ -219902325 ≤ signedOf 32 d0 ∧ signedOf 32 d0 ≤ 219902325 ∧ s.on TIME_CTRL.SERVO =
          true) ∧ (s.rdy 4 = true ∧ m.domain ≠ s.rd TIME_CTRL.DOMAIN)) ∧
    (let s : State := (ready.up TIME_SYNC.STEP_ARMED).wr TIME_DATA2.VALUE 999999999 |>.down TIME_CTRL.SERVO |>.wr
        TIME_SYNC.STATE 2; let q : Nat := 0; let n : Nat := 1; let d0 := s.rd TIME_DATA0.VALUE;
    let secs := d0 + 2 ^ 32 * (s.rd TIME_DATA1.VALUE % 65536); let ns := s.rd TIME_DATA2.VALUE;
      launchQ q = true ∧ n < 5 ∧
      (Takes s 5 TIME_STAT.addr ∧ s.on TIME_SYNC.STEP_ARMED = true ∧ s.firnBusy = false ∧ ns < 1000000000 ∧ 0 ≤
          (s.netNs : Int) + signedOf 48 secs * 1000000000 + ns ∧ (s.netNs : Int) + signedOf 48 secs * 1000000000 + ns
          < 2 ^ 48 * 1000000000) ∧
      (Takes s 5 TIME_STAT.addr ∧ -219902325 ≤ signedOf 32 d0 ∧ signedOf 32 d0 ≤ 219902325 ∧ s.on TIME_CTRL.SERVO =
          false) ∧ (s.rdy 4 = true ∧ s.on TIME_CTRL.SERVO = false)) ∧
    (let s : State := { (link ready 4).up TIME_CTRL.PPS_OUT_EN with now := 1, time := { ppsUntil := 9, ppsOut := true } };
    let n : Nat := 4; let q : Nat := 0;
      launchQ q = true ∧ n < 5 ∧ (s.rdy 4 = true ∧ s.on TIME_CTRL.PPS_OUT_EN = true) ∧
      (s.rdy 4 = true ∧ 2 ≤ n ∧ s.on (PORT_LINK.UP n) = true) ∧ (s.time.ppsOut = true) ∧ (2 ≤ n ∧ s.pstate n = 1)) ∧
    (let s : State := toLaunch { ready with now := 2 ^ 40 } 5 (some 0); let q : Nat := 5; let f := aFrame (some 0);
    let rest := []; let t := 0; let n : Nat := 0;
    let z := (match f.at? with | some t => s.reachNs t | none => s).ctlMet 10 (launchKey q);
      launchQ q = true ∧ n < 5 ∧ s.lq q = f :: rest ∧ s.launchReady q = true ∧ f.late = false ∧
      (z.isLate q f = true) ∧ (f.at? = some t)) ∧
    (let s : State := toLaunch (link ready 5) 5 none; let q : Nat := 5; let f := aFrame none; let rest := [];
    let n : Nat := 0; let z := (match f.at? with | some t => s.reachNs t | none => s).ctlMet 10 (launchKey q);
      launchQ q = true ∧ n < 5 ∧ s.lq q = f :: rest ∧ s.launchReady q = true ∧ z.isLate q f = false ∧ q < 6 ∧
      (z.port q).tx = none ∧ z.on (PORT_LINK.UP q) = true ∧ z.on (PORT_CTRL.EN q) = true ∧ (z.port q).pause = [] ∧
      z.skewed q = false) ∧
    (let s : State := toLaunch ready 15 none; let q : Nat := 15; let f := aFrame none; let rest := [];
    let n : Nat := 0; let z := (match f.at? with | some t => s.reachNs t | none => s).ctlMet 10 (launchKey q);
      launchQ q = true ∧ n < 5 ∧ s.lq q = f :: rest ∧ s.launchReady q = true ∧ z.isLate q f = false ∧ 8 ≤ q ∧
      q < 16) ∧
    (let s : State := toLaunch (ready.up (CAN_CTRL.EN 3)) 19 none; let q : Nat := 19; let f := aFrame none;
    let rest := []; let n : Nat := 0;
    let z := (match f.at? with | some t => s.reachNs t | none => s).ctlMet 10 (launchKey q);
      launchQ q = true ∧ n < 5 ∧ s.lq q = f :: rest ∧ s.launchReady q = true ∧ z.isLate q f = false ∧ 16 ≤ q ∧
      (s.can' (q - 16)).tx = none ∧ s.rd (CAN_ERR.STATE (q - 16)) ≠ 2 ∧ s.on (CAN_CTRL.EN (q - 16)) = true) ∧
    (let s : State := (ready.up TIME_CTRL.SERVO).wr TIME_SYNC.STATE 2; let q : Nat := 0; let n : Nat := 4;
      launchQ q = true ∧ n < 5 ∧ s.rdy 4 = true ∧ s.rd TIME_SYNC.STATE = 2 ∧ s.on TIME_CTRL.SERVO = true) ∧
    (let s : State := { ready with time := { ppsUntil := 9, ppsValid := true } }; let q : Nat := 0; let n : Nat := 4;
      launchQ q = true ∧ n < 5 ∧ s.rdy 4 = true ∧ s.time.ppsValid = true) := by
  refine ⟨?_, ?_, ?_, ?_, ?_, ?_, ?_, ?_, ?_, ?_⟩ <;> decide +kernel

/-- States and operands that meet the hypotheses of EthernetPorts. -/
theorem witness_EthernetPorts :
    (let s : State := ready; let n : Nat := 5; let k := 7; let up := true; let sp := 3;
    let live := s.rdy 8 = true ∧ s.on (PORT_CTRL.EN n) = true ∧ s.on (PORT_LINK.UP n) = true;
    let pfc := s.on (PORT_CTRL.PFC_EN n);
    let halted (u : State) (k : Nat) : Nat := SMap.get (fun _ => 0) (u.port n).pause k;
    let low := s.rd SNOW_SHARED.SHARED < 8 * s.rd (PORT_FC.XOFF n); let p := s.rd PORT_KEY.VALUE % 8;
    let i := s.rd PORT_KEY.VALUE / 256 % 16; let d := s.rd PORT_DATA0.VALUE;
      n < 6 ∧ (¬ live) ∧ ((4 ≤ n ∨ s.on (PORT_CTRL.PAUSE_RX n) = false ∨ pfc = true)) ∧ ((4 ≤ n ∨ pfc = false)) ∧
      (k < 8 ∧ halted s k = 0) ∧ (((s.port n).xoff = false ∨ ¬ low)) ∧
      (sp < 4 ∧ (s.on (PORT_LINK.UP n) ≠ up ∨ (up = true ∧ s.rd (PORT_LINK.SPEED n) ≠ sp))) ∧
      ((s.port n).ctl = [] ∧ (∀ k < 8, ∀ x ∈ s.served n k, s.queue x = [])) ∧
      (Takes s 8 PORT_STAT.addr ∧ p < 5 ∧ i < 10 ∧ s.sakOf (d / 4 % 64) = none) ∧
      (Takes s 8 PORT_STAT.addr ∧ p < 5 ∧ i < 2 ∧ s.on (PORT_SA.VALID p i) = false) ∧
      (Takes s 8 PORT_STAT.addr ∧ s.sa p i = none)) ∧
    (let s : State := link ready 5; let n : Nat := 5; let f : EthFrame := { aEth 1 with badFcs := true };
    let live := s.rdy 8 = true ∧ s.on (PORT_CTRL.EN n) = true ∧ s.on (PORT_LINK.UP n) = true;
      n < 6 ∧ live ∧ f.badFcs = true) ∧
    (let s : State := link ready 5; let n : Nat := 5; let f : EthFrame := ⟨(aEth 1).bytes.take 59, false⟩;
    let live := s.rdy 8 = true ∧ s.on (PORT_CTRL.EN n) = true ∧ s.on (PORT_LINK.UP n) = true;
    let ty := typeOf f.bytes; let len := f.bytes.length;
    let plain := s.macsec n = false ∧ ty ≠ 0x8808 ∧ ty ≠ 0x88B5 ∧ ty ≠ 0x88B6 ∧ ty ≠ 0x88B7 ∧ ty ≠ 0x888E ∧ isPtp
        f.bytes = false ∧ s.skewed n = false;
      n < 6 ∧ live ∧ f.badFcs = false ∧ plain ∧ (len < 60 ∨ s.rd SNOW_MAXPKT.LEN < len)) ∧
    (let s : State := macIs5 ((link ready 5).wr (PORT_MISSQ.QUEUE 5) 3071 |>.wr (SNOW_Q_CFG.KIND 3071) 2 |>.wr
        (SNOW_Q_CFG.QUOTA 3071) 100); let n : Nat := 5; let f : EthFrame := aEth 5;
    let live := s.rdy 8 = true ∧ s.on (PORT_CTRL.EN n) = true ∧ s.on (PORT_LINK.UP n) = true;
    let ty := typeOf f.bytes; let len := f.bytes.length;
    let plain := s.macsec n = false ∧ ty ≠ 0x8808 ∧ ty ≠ 0x88B5 ∧ ty ≠ 0x88B6 ∧ ty ≠ 0x88B7 ∧ ty ≠ 0x888E ∧ isPtp
        f.bytes = false ∧ s.skewed n = false; let fits := f.badFcs = false ∧ 60 ≤ len ∧ len ≤ s.rd SNOW_MAXPKT.LEN;
    let mq := s.rd (PORT_MISSQ.QUEUE n);
      n < 6 ∧ live ∧ fits ∧ plain ∧ dstOf f.bytes = s.macOf n ∧ ty ≠ 0x86DD ∧ mq < 3072 ∧ s.admits mq len = .accept) ∧
    (let s : State := { macIs5 (((link ready 5).down (SRC_TBL.LEARN 2)).wr (SNOW_Q_CFG.KIND (egressQ 2 0)) 2 |>.wr (SNOW_Q_CFG.QUOTA (egressQ 2 0)) 100) with src := { l2 := [(9, some ⟨0xAABBCCDDEE01, 0, 5, false, false, 0, 0, .clean⟩)] }, ports := [(2, { tx := some [] })] };
    let n : Nat := 5; let f : EthFrame := aEth 0xAABBCCDDEE01; let k := 9;
    let e := (⟨0xAABBCCDDEE01, 0, 5, false, false, 0, 0, .clean⟩ : L2Ent);
    let live := s.rdy 8 = true ∧ s.on (PORT_CTRL.EN n) = true ∧ s.on (PORT_LINK.UP n) = true;
    let ty := typeOf f.bytes; let len := f.bytes.length;
    let plain := s.macsec n = false ∧ ty ≠ 0x8808 ∧ ty ≠ 0x88B5 ∧ ty ≠ 0x88B6 ∧ ty ≠ 0x88B7 ∧ ty ≠ 0x888E ∧ isPtp
        f.bytes = false ∧ s.skewed n = false; let fits := f.badFcs = false ∧ 60 ≤ len ∧ len ≤ s.rd SNOW_MAXPKT.LEN;
      n < 6 ∧ live ∧ fits ∧ plain ∧ dstOf f.bytes ≠ s.macOf n ∧ s.on (SRC_TBL.LEARN 2) = false ∧
      s.l2Find (dstOf f.bytes) (vlanOf f.bytes) = some (k, e) ∧ e.mark = .clean ∧ e.port = n) ∧
    (let s : State := { macIs5 (((link ready 5).down (SRC_TBL.LEARN 2)).wr (SNOW_Q_CFG.KIND (egressQ 2 0)) 2 |>.wr (SNOW_Q_CFG.QUOTA (egressQ 2 0)) 100) with src := { l2 := [(9, some ⟨0xAABBCCDDEE01, 0, 2, false, false, 0, 0, .clean⟩)] }, ports := [(2, { tx := some [] })] };
    let n : Nat := 5; let f : EthFrame := aEth 0xAABBCCDDEE01; let k := 9;
    let e := (⟨0xAABBCCDDEE01, 0, 2, false, false, 0, 0, .clean⟩ : L2Ent);
    let live := s.rdy 8 = true ∧ s.on (PORT_CTRL.EN n) = true ∧ s.on (PORT_LINK.UP n) = true;
    let ty := typeOf f.bytes; let len := f.bytes.length;
    let plain := s.macsec n = false ∧ ty ≠ 0x8808 ∧ ty ≠ 0x88B5 ∧ ty ≠ 0x88B6 ∧ ty ≠ 0x88B7 ∧ ty ≠ 0x888E ∧ isPtp
        f.bytes = false ∧ s.skewed n = false; let fits := f.badFcs = false ∧ 60 ≤ len ∧ len ≤ s.rd SNOW_MAXPKT.LEN;
    let pri := if tagged f.bytes then ofBe ((f.bytes.drop 14).take 1) / 32 else s.rd (PORT_CTRL.DEFPRI n);
      n < 6 ∧ live ∧ fits ∧ plain ∧ dstOf f.bytes ≠ s.macOf n ∧ s.on (SRC_TBL.LEARN 2) = false ∧
      s.l2Find (dstOf f.bytes) (vlanOf f.bytes) = some (k, e) ∧ e.mark = .clean ∧ e.port ≠ n ∧ e.port < 6 ∧
      (s.port (s.outPort e.port)).tx.isSome = true ∧ s.admits (egressQ e.port pri) len = .accept) ∧
    (let s : State := (ready.up (PORT_CTRL.PAUSE_RX 3)).down (PORT_CTRL.PFC_EN 3); let n : Nat := 3;
    let pfc := s.on (PORT_CTRL.PFC_EN n);
      n < 6 ∧ n < 4 ∧ s.on (PORT_CTRL.PAUSE_RX n) = true ∧ pfc = false) ∧
    (let s : State := ready.up (PORT_CTRL.PFC_EN 3); let n : Nat := 3; let pfc := s.on (PORT_CTRL.PFC_EN n);
      n < 6 ∧ n < 4 ∧ pfc = true) ∧
    (let s : State := { ready with ports := [(5, { pause := [(7, 9)] })] }; let n : Nat := 5; let k := 7;
    let halted (u : State) (k : Nat) : Nat := SMap.get (fun _ => 0) (u.port n).pause k;
      n < 6 ∧ k < 8 ∧ halted s k ≠ 0) ∧
    (let s : State := { (ready.wr (PORT_FC.XOFF 3) 0xFFF).wr SNOW_SHARED.SHARED 0 |>.up (PORT_CTRL.PAUSE_TX 3) |>.down (PORT_CTRL.PFC_EN 3) with ports := [(3, { xoff := true, tx := some [] })] };
    let n : Nat := 3; let pfc := s.on (PORT_CTRL.PFC_EN n); let mask := s.rd (PORT_CTRL.PFC_TX_MASK n);
    let low := s.rd SNOW_SHARED.SHARED < 8 * s.rd (PORT_FC.XOFF n);
      n < 6 ∧ (s.port n).xoff = true ∧ low ∧ n < 4 ∧
      ((pfc && mask != 0) = true ∨ s.on (PORT_CTRL.PAUSE_TX n) = true) ∧ (s.port n).tx.isSome = true) ∧
    (let s : State := { (link ready 3).wr (PORT_FC.XOFF 3) 0xFFF |>.wr SNOW_SHARED.SHARED 0 |>.up (PORT_CTRL.PAUSE_TX 3) |>.down (PORT_CTRL.PFC_EN 3) with ports := [(3, { xoff := true })] };
    let n : Nat := 3; let pfc := s.on (PORT_CTRL.PFC_EN n); let mask := s.rd (PORT_CTRL.PFC_TX_MASK n);
    let pauses := padFrame (pauseFrame (s.macOf n) (pfc && mask != 0) mask 0xFFFF);
    let mac (c : List Byte) : Bool := typeOf c == 0x8808; let ctl := (s.port n).ctl;
    let low := s.rd SNOW_SHARED.SHARED < 8 * s.rd (PORT_FC.XOFF n);
      n < 6 ∧ (s.port n).xoff = true ∧ low ∧ n < 4 ∧
      ((pfc && mask != 0) = true ∨ s.on (PORT_CTRL.PAUSE_TX n) = true) ∧ (s.port n).tx = none ∧
      ctl.takeWhile mac = [] ∧ s.heldBack n pauses = false ∧ s.on (PORT_LINK.UP n) = true ∧
      s.on (PORT_CTRL.EN n) = true) ∧
    (let s : State := { link ready 5 with ports := [(5, { ctl := [[1], [2]] })] }; let n : Nat := 5; let c := [1];
    let cs := [[2]];
      n < 6 ∧ s.on (PORT_LINK.UP n) = true ∧ s.on (PORT_CTRL.EN n) = true ∧ (s.port n).ctl = c :: cs ∧
      s.heldBack n c = false ∧ (s.protect n (padFrame c)).1.isSome = true) ∧
    (let s : State := { link ready 5 with snow := { queues := [(egressQ 5 0, [.pkt [1] 3 0 5 .clean])] } };
    let n : Nat := 5; let k := 0; let x := egressQ 5 0; let data := [1]; let src := 3; let node := 0; let ns := 5;
    let rest := [];
      n < 6 ∧ k < 8 ∧ s.on (PORT_LINK.UP n) = true ∧ s.on (PORT_CTRL.EN n) = true ∧ (s.port n).ctl = [] ∧
      s.macsec n = false ∧ s.skewed n = false ∧ s.heldBack n data = false ∧ s.paused n k = false ∧
      (s.port n).halts = [] ∧ (s.served n k).find? (fun q => !(s.queue q).isEmpty) = some x ∧
      s.queue x = .pkt data src node ns .clean :: rest ∧
      (∀ j < 8, k < j → s.paused n j = true ∨ ∀ q ∈ s.served n j, s.queue q = [])) ∧
    (let s : State := ready.wr PORT_KEY.VALUE 5; let n : Nat := 5; let p := s.rd PORT_KEY.VALUE % 8;
      n < 6 ∧ Takes s 8 PORT_STAT.addr ∧ p = 5) ∧
    (let s : State := ready.wr PORT_KEY.VALUE (4 + 256 * 10); let n : Nat := 5; let p := s.rd PORT_KEY.VALUE % 8;
    let i := s.rd PORT_KEY.VALUE / 256 % 16;
      n < 6 ∧ Takes s 8 PORT_STAT.addr ∧ (5 < p ∨ (p ≠ 5 ∧ 9 < i))) ∧
    (let s : State := withSak (ready.wr PORT_DATA0.VALUE (63 * 4 + 8 * 65536)); let n : Nat := 5; let g := 7;
    let key := []; let p := s.rd PORT_KEY.VALUE % 8; let i := s.rd PORT_KEY.VALUE / 256 % 16;
    let d := s.rd PORT_DATA0.VALUE;
      n < 6 ∧ Takes s 8 PORT_STAT.addr ∧ p < 5 ∧ i < 10 ∧ s.sakOf (d / 4 % 64) = some (g, key) ∧ g ≠ d / 65536) ∧
    (let s : State := withSak (ready.wr PORT_DATA0.VALUE (63 * 4 + 7 * 65536)) |>.wr PORT_KEY.VALUE (4 + 256 * 9);
    let n : Nat := 5; let g := 7; let key := []; let p := s.rd PORT_KEY.VALUE % 8;
    let i := s.rd PORT_KEY.VALUE / 256 % 16; let d := s.rd PORT_DATA0.VALUE;
      n < 6 ∧ Takes s 8 PORT_STAT.addr ∧ p < 5 ∧ i < 10 ∧ s.sakOf (d / 4 % 64) = some (g, key) ∧ g = d / 65536) ∧
    (let s : State := ready.wr PORT_KEY.VALUE (4 + 256)|>.up (PORT_SA.VALID 4 1); let n : Nat := 5;
    let p := s.rd PORT_KEY.VALUE % 8; let i := s.rd PORT_KEY.VALUE / 256 % 16;
      n < 6 ∧ Takes s 8 PORT_STAT.addr ∧ p < 5 ∧ i < 2 ∧ s.on (PORT_SA.VALID p i) = true) ∧
    (let s : State := { ready.wr PORT_KEY.VALUE (4 + 256 * 9) with ports := [(4, { sas := [(9, some aSa)] })] };
    let n : Nat := 5; let p := s.rd PORT_KEY.VALUE % 8; let i := s.rd PORT_KEY.VALUE / 256 % 16;
      n < 6 ∧ Takes s 8 PORT_STAT.addr ∧ p < 6 ∧ i < 10 ∧ s.sa p i ≠ none) := by
  refine ⟨?_, ?_, ?_, ?_, ?_, ?_, ?_, ?_, ?_, ?_, ?_, ?_, ?_, ?_, ?_, ?_, ?_, ?_, ?_⟩ <;> decide +kernel

/-- States and operands that meet the hypotheses of SeracTables. -/
theorem witness_SeracTables :
    (let s : State := withSrc (srcAsk 0 0x105); let k := 0; let e := { aNode 63 with static := true };
    let t := s.srcTable; let ra := s.srcRa; let known (p : Nat × NodeEnt) : Bool := p.2.eui == ra; let i := s.srcIdx;
    let w := s.srcW;
      Takes s 6 SRC_STAT.addr ∧ NoSrcErr s ∧
      (((t = 0 ∧ s.nodeByEui ra = some k) ∨ (t = 1 ∧ ra < 2 ^ 22 ∧ s.nodeByShort (ra % 64) (ra / 64) = some k)) ∧
          s.nodeEnt k = some e ∧ e.image < 2 ^ 128) ∧
      (t = 0 ∧ ((present s.src.nodes).find? known).map (·.1) = some k ∧ s.nodeEnt k = some e) ∧
      (t = 0 ∧ s.nodeEnt i = some e ∧ e.suspect = false ∧ e.eui < 2 ^ 64 ∧ e.image < 2 ^ 128) ∧
      (t = 0 ∧ w / 2 ^ 72 % 2 = 0)) ∧
    (let s : State := withSrc (srcAsk 1 (63 + 64 * 2)); let t := s.srcTable;
      Takes s 6 SRC_STAT.addr ∧ NoSrcErr s ∧ t = 1) ∧
    (let s : State := { srcAsk 0 0x105 with src := { nodes := [(0, some { aNode 63 with mark := ⟨[], [0]⟩ })] } };
    let k := 0; let e := { aNode 63 with mark := ⟨[], [0]⟩ }; let t := s.srcTable; let ra := s.srcRa;
      Takes s 6 SRC_STAT.addr ∧ t = 0 ∧ e.mark.bad = true ∧
      (present s.src.nodes).filter (fun p => p.2.eui == ra && !p.2.suspect) = [(k, e)]) ∧
    (let s : State := withSrc (srcAsk 1 (2 ^ 22 - 1)); let t := s.srcTable; let ra := s.srcRa; let mac := ra % 2 ^ 48;
    let vlan := ra / 2 ^ 48 % 2 ^ 12;
      Takes s 6 SRC_STAT.addr ∧ NoSrcErr s ∧
      ((t = 0 ∧ s.nodeByEui ra = none) ∨ (t = 1 ∧ ra < 2 ^ 22 ∧ s.nodeByShort (ra % 64) (ra / 64) = none) ∨ (t = 3 ∧
          ra < 2 ^ 60 ∧ s.l2Find mac vlan = none))) ∧
    (let s : State := withSrc (srcAsk 1 (2 ^ 22)); let t := s.srcTable; let ra := s.srcRa;
      Takes s 6 SRC_STAT.addr ∧ NoSrcErr s ∧ ((t = 1 ∧ 2 ^ 22 ≤ ra) ∨ (t = 3 ∧ 2 ^ 60 ≤ ra))) ∧
    (let s : State := withSrc (srcAsk 3 (5 + 7 * 2 ^ 48)); let k := 65535;
    let e := (⟨5, 7, 3, true, false, 0, 0, .clean⟩ : L2Ent); let t := s.srcTable; let ra := s.srcRa;
    let mac := ra % 2 ^ 48; let vlan := ra / 2 ^ 48 % 2 ^ 12;
      Takes s 6 SRC_STAT.addr ∧ NoSrcErr s ∧ t = 3 ∧ ra < 2 ^ 60 ∧ s.l2Find mac vlan = some (k, e) ∧ e.port < 8) ∧
    (let s : State := withSrc (srcAsk 0 0x109); let k := 1; let t := s.srcTable; let ra := s.srcRa;
    let known (p : Nat × NodeEnt) : Bool := p.2.eui == ra;
      Takes s 6 SRC_STAT.addr ∧ NoSrcErr s ∧
      (t = 0 ∧ (present s.src.nodes).find? known = none ∧ firstFree 262144 s.src.nodes = some k) ∧
      (((t = 0 ∧ (present s.src.nodes).find? known = none) ∨ (t = 2 ∧ s.src.pfx.findIdx? (fun f => f.sameKey
          (s.srcPfx 0)) = none)))) ∧
    (let s : State := srcAsk (2 + 129 * 4) 0; let t := s.srcTable; let e0 := s.srcPfx s.src.use;
      Takes s 6 SRC_STAT.addr ∧ NoSrcErr s ∧ t = 2 ∧ 128 < e0.plen) ∧
    (let s : State := withSrc (srcAsk (2 + 128 * 4) 5); let k := 0; let bad : Nat := 0; let e := s.srcPfx 0;
    let t := s.srcTable; let e0 := s.srcPfx s.src.use;
      NoSrcErr s ∧
      (Takes s 6 SRC_STAT.addr ∧ t = 2 ∧ e0.plen ≤ 128 ∧ s.src.pfx.findIdx? (fun f => f.sameKey e0) = some k) ∧
      (Takes s 6 SRC_STAT.addr ∧ t = 2 ∧ s.src.pfx.findIdx? (fun f => f.sameKey (s.srcPfx 0)) = some k) ∧
      (bad < 2 ^ 18 ∧ s.src.pfx[bad]? = some e ∧ e.suspect = false)) ∧
    (let s : State := srcAsk (2 + 128 * 4) 5; let t := s.srcTable; let e0 := s.srcPfx s.src.use;
      Takes s 6 SRC_STAT.addr ∧ NoSrcErr s ∧ t = 2 ∧ e0.plen ≤ 128 ∧
      s.src.pfx.findIdx? (fun f => f.sameKey e0) = none ∧ s.src.pfx.length < 32768) ∧
    (let s : State := withSrc (srcAsk 3 9); let k := 0; let t := s.srcTable; let ra := s.srcRa;
    let mac := ra % 2 ^ 48; let vlan := ra / 2 ^ 48 % 2 ^ 12;
      Takes s 6 SRC_STAT.addr ∧ NoSrcErr s ∧ t = 3 ∧ ra < 2 ^ 60 ∧
      (present s.src.l2).find? (fun p => p.2.mac == mac && p.2.vlan == vlan) = none ∧
      firstFree 65536 s.src.l2 = some k) ∧
    (let s : State := withSrc (srcAsk (2 ^ 12) 9); let t := s.srcTable; let i := s.srcIdx;
      Takes s 6 SRC_STAT.addr ∧ NoSrcErr s ∧ t = 0 ∧ s.nodeEnt i = none) ∧
    (let s : State := withSrc (srcAsk ((2 ^ 18 - 1) * 2 ^ 12) 9);
    let e := { aNode 62 with eui := 0x106, suspect := true }; let t := s.srcTable; let i := s.srcIdx;
      Takes s 6 SRC_STAT.addr ∧ NoSrcErr s ∧ t = 0 ∧ s.nodeEnt i = some e ∧ e.suspect = true) ∧
    (let s : State := withSrc (srcAsk 0 9 (2 ^ 72)); let e := { aNode 63 with static := true }; let t := s.srcTable;
    let w := s.srcW; let i := s.srcIdx;
      Takes s 6 SRC_STAT.addr ∧ NoSrcErr s ∧ t = 0 ∧ w / 2 ^ 72 % 2 = 1 ∧ s.nodeEnt i = some e) ∧
    (let s : State := srcAsk (2 + 32768 * 2 ^ 12) 9; let t := s.srcTable; let i := s.srcIdx;
      Takes s 6 SRC_STAT.addr ∧ NoSrcErr s ∧ (t = 2 ∧ 32768 ≤ i ∨ t = 3 ∧ 65536 ≤ i)) ∧
    (let s : State := { srcAsk (2 + 2 ^ 12 + 128 * 4) 9 with src := { pfx := [{ srcAsk 2 0 |>.srcPfx 0 with plen := 5 }, { srcAsk 2 0 |>.srcPfx 0 with plen := 4 }] } };
    let t := s.srcTable; let i := s.srcIdx; let e0 := s.srcPfx s.src.use;
      Takes s 6 SRC_STAT.addr ∧ NoSrcErr s ∧ t = 2 ∧ i < s.src.pfx.length ∧ pfxSorted (s.src.pfx.set i e0) = false) ∧
    (let s : State := withSrc ready; let n : Nat := 65535; let e := (⟨5, 7, 3, true, false, 0, 0, .clean⟩ : L2Ent);
      n < 65536 ∧ s.l2Ent n = some e ∧ (e.static = true ∨ s.rd (SRC_TBL.AGE 2) = 0)) ∧
    (let s : State := withSrc (ready.wr (SRC_TBL.AGE 2) 1); let n : Nat := 65534;
    let e := (⟨6, 7, 3, false, false, 0, 0, .clean⟩ : L2Ent);
      n < 65536 ∧ s.l2Ent n = some e ∧ e.static = false ∧ s.rd (SRC_TBL.AGE 2) ≠ 0) := by
  refine ⟨?_, ?_, ?_, ?_, ?_, ?_, ?_, ?_, ?_, ?_, ?_, ?_, ?_, ?_, ?_, ?_, ?_, ?_⟩ <;> decide +kernel

/-- States and operands that meet the hypotheses of Snowpack. -/
theorem witness_Snowpack :
    (let s : State := (ready.wr (SNOW_Q_CFG.KIND 4047) 2).wr (SNOW_Q_CFG.QUOTA 4047) 36; let q : Nat := 4047;
    let data : List Byte := List.replicate 9216 0; let cells := cellsOf data.length;
    let k := s.rd SNOW_KEY.VALUE % 4096; let quota := s.rd SNOW_DATA0.VALUE % 2 ^ 18;
    let res := s.rd SNOW_DATA1.VALUE % 2 ^ 18; let cons := s.rd SNOW_DATA2.VALUE % 4;
    let bad := quota < 36 ∨ 192512 < quota ∨ quota < res ∨ queueReserved k = true ∨ (k < 3072 ∧ cons = 3);
    let len := s.rd SNOW_DATA0.VALUE % 2 ^ 14;
    let addr := s.rd SNOW_KEY.VALUE + 2 ^ 32 * (s.rd SNOW_DATA0.VALUE % 256); let rb := s.rd SNOW_DATA1.VALUE;
    let plen := rb % 2 ^ 14;
      q < 4096 ∧ (s.admits q data.length = .accept ∧ s.rd (SNOW_Q_OCC.OCC q) + cells < 2 ^ 18) ∧
      (Takes s 7 SNOW_STAT.addr ∧ bad) ∧
      (Takes s 7 SNOW_STAT.addr ∧ (len < 60 ∨ 9216 < len ∨ s.quotasAtLeast (cellsOf len) = false)) ∧
      (Takes s 7 SNOW_STAT.addr ∧ s.rdy 7 = true ∧ (addr % 8 ≠ 0 ∨ 2 ^ 28 ≤ rb ∨ rb / 2 ^ 14 % 4 ≠ 0 ∨ plen = 0 ∨
          s.rd SNOW_MAXPKT.LEN < plen))) ∧
    (let s : State := ready.wr (SNOW_Q_CFG.KIND 4095) 0; let q : Nat := 4095; let data : List Byte := [];
    let r : Req := 131; let l := [QItem.pkt [] 0 0 0 .clean];
      q < 4096 ∧ (s.admits q data.length ≠ .accept) ∧
      (l.all (fun i => match i with | .gap _ _ _ _ _ => false | .pkt _ _ _ _ _ => true) = true) ∧
      (l.all (fun i => match i with | .gap _ _ _ _ _ => false | .pkt _ _ _ _ _ => true) = true) ∧
      (Takes s 7 SNOW_STAT.addr ∧ r ≠ 128)) ∧
    (let s : State := { (((ready.wr SNOW_KEY.VALUE 3071).wr SNOW_DATA0.VALUE 192512).wr SNOW_DATA1.VALUE 1).wr SNOW_DATA2.VALUE 0 with snow := { resSum := 192512 } };
    let q : Nat := 0; let k := s.rd SNOW_KEY.VALUE % 4096; let quota := s.rd SNOW_DATA0.VALUE % 2 ^ 18;
    let res := s.rd SNOW_DATA1.VALUE % 2 ^ 18; let cons := s.rd SNOW_DATA2.VALUE % 4;
    let bad := quota < 36 ∨ 192512 < quota ∨ quota < res ∨ queueReserved k = true ∨ (k < 3072 ∧ cons = 3);
    let sum := s.snow.resSum - s.rd (SNOW_Q_RES.RESERVE k) + res;
      q < 4096 ∧ Takes s 7 SNOW_STAT.addr ∧ ¬ bad ∧ 192512 < sum) ∧
    (let s : State := (((ready.wr SNOW_KEY.VALUE 3071).wr SNOW_DATA0.VALUE 36).wr SNOW_DATA1.VALUE 36).wr
        SNOW_DATA2.VALUE 0; let q : Nat := 0; let k := s.rd SNOW_KEY.VALUE % 4096;
    let quota := s.rd SNOW_DATA0.VALUE % 2 ^ 18; let res := s.rd SNOW_DATA1.VALUE % 2 ^ 18;
    let cons := s.rd SNOW_DATA2.VALUE % 4;
    let bad := quota < 36 ∨ 192512 < quota ∨ quota < res ∨ queueReserved k = true ∨ (k < 3072 ∧ cons = 3);
    let sum := s.snow.resSum - s.rd (SNOW_Q_RES.RESERVE k) + res;
      q < 4096 ∧ Takes s 7 SNOW_STAT.addr ∧ ¬ bad ∧ sum ≤ 192512) ∧
    (let s : State := (((ready.wr SNOW_KEY.VALUE 0).wr SNOW_DATA0.VALUE 9216).wr SNOW_DATA1.VALUE 0).wr
        SNOW_DATA2.VALUE 0; let q : Nat := 0; let len := s.rd SNOW_DATA0.VALUE % 2 ^ 14;
      q < 4096 ∧ Takes s 7 SNOW_STAT.addr ∧ 60 ≤ len ∧ len ≤ 9216 ∧ s.quotasAtLeast (cellsOf len) = true) ∧
    (let s : State := ((ready.wr SNOW_KEY.VALUE 3071).wr (SNOW_Q_CFG.KIND 3071) 2).wr (SNOW_RXBUF_LO.ADDR_LO 128) 64;
    let q : Nat := 0; let k := s.rd SNOW_KEY.VALUE % 4096;
    let open' (x : Nat) : Prop := s.rdy 7 = true ∧ s.rd SNOW_KEY.VALUE < 4096 ∧ s.noticed 2 128 x = true ∧ s.rxbuf
        128 ≠ 0;
      q < 4096 ∧ Takes s 7 SNOW_STAT.addr ∧ open' k ∧ s.queue k = []) ∧
    (let s : State := { ((ready.wr SNOW_KEY.VALUE 3071).wr (SNOW_Q_CFG.KIND 3071) 2).wr (SNOW_RXBUF_LO.ADDR_LO 128) 64 with snow := { queues := [(3071, [.pkt [1] 5 0 8 .clean, .pkt [2] 5 0 8 .clean])] } };
    let q : Nat := 0; let d := [1]; let src := 5; let node := 0; let ns := 8; let rest := [.pkt [2] 5 0 8 .clean];
    let k := s.rd SNOW_KEY.VALUE % 4096;
    let open' (x : Nat) : Prop := s.rdy 7 = true ∧ s.rd SNOW_KEY.VALUE < 4096 ∧ s.noticed 2 128 x = true ∧ s.rxbuf
        128 ≠ 0;
      q < 4096 ∧ Takes s 7 SNOW_STAT.addr ∧ open' k ∧ s.queue k = .pkt d src node ns .clean :: rest) ∧
    (let s : State := { ((ready.wr SNOW_KEY.VALUE 3071).wr (SNOW_Q_CFG.KIND 3071) 2).wr (SNOW_RXBUF_LO.ADDR_LO 128) 64 with snow := { queues := [(3071, [.gap (2 ^ 32 - 1) 5 8 true .clean])] } };
    let q : Nat := 0; let p := 2 ^ 32 - 1; let o := 5; let ns := 8; let m := true; let rest := [];
    let k := s.rd SNOW_KEY.VALUE % 4096;
    let open' (x : Nat) : Prop := s.rdy 7 = true ∧ s.rd SNOW_KEY.VALUE < 4096 ∧ s.noticed 2 128 x = true ∧ s.rxbuf
        128 ≠ 0;
      q < 4096 ∧ Takes s 7 SNOW_STAT.addr ∧ open' k ∧ s.queue k = .gap p o ns m .clean :: rest ∧ p < 2 ^ 32 ∧
      o < 2 ^ 32) ∧
    (let s : State := ((((ready.wr SNOW_KEY.VALUE (2 ^ 32 - 8)).wr SNOW_DATA0.VALUE 0).wr SNOW_DATA1.VALUE (3071 * 2
        ^ 16 + 8)).wr SNOW_DATA2.VALUE 0).wr (SNOW_Q_CFG.KIND 3071) 2 |>.wr (SNOW_Q_CFG.QUOTA 3071) 36;
    let q : Nat := 0; let bs := List.replicate 8 0;
    let addr := s.rd SNOW_KEY.VALUE + 2 ^ 32 * (s.rd SNOW_DATA0.VALUE % 256); let rb := s.rd SNOW_DATA1.VALUE;
    let pq := rb / 2 ^ 16; let plen := rb % 2 ^ 14;
      q < 4096 ∧ Takes s 7 SNOW_STAT.addr ∧ s.rdy 7 = true ∧ addr % 8 = 0 ∧ rb / 2 ^ 14 % 4 = 0 ∧ plen ≠ 0 ∧
      plen ≤ s.rd SNOW_MAXPKT.LEN ∧ addr + plen ≤ 2 ^ 36 ∧ s.rd SNOW_DATA2.VALUE = 0 ∧ pq < 3072 ∧
      s.rd (SNOW_Q_CFG.KIND pq) ≠ 0 ∧ s.admits pq plen = .accept ∧ s.dmaRead addr plen = some bs ∧ NoCe s) ∧
    (let s : State := ((((ready.wr SNOW_KEY.VALUE (2 ^ 32 - 8)).wr SNOW_DATA0.VALUE 0).wr SNOW_DATA1.VALUE (3071 * 2
        ^ 16 + 8)).wr SNOW_DATA2.VALUE 0).wr (SNOW_Q_CFG.KIND 3071) 2 |>.wr (SNOW_Q_CFG.QUOTA 3071) 0;
    let q : Nat := 0; let addr := s.rd SNOW_KEY.VALUE + 2 ^ 32 * (s.rd SNOW_DATA0.VALUE % 256);
    let rb := s.rd SNOW_DATA1.VALUE; let pq := rb / 2 ^ 16; let plen := rb % 2 ^ 14;
      q < 4096 ∧ Takes s 7 SNOW_STAT.addr ∧ s.rdy 7 = true ∧ addr % 8 = 0 ∧ rb / 2 ^ 14 % 4 = 0 ∧ plen ≠ 0 ∧
      plen ≤ s.rd SNOW_MAXPKT.LEN ∧ addr + plen ≤ 2 ^ 36 ∧ s.rd SNOW_DATA2.VALUE = 0 ∧ pq < 3072 ∧
      s.rd (SNOW_Q_CFG.KIND pq) ≠ 0 ∧ s.admits pq plen = .quota) ∧
    (let s : State := ((((ready.wr SNOW_KEY.VALUE (2 ^ 32 - 8)).wr SNOW_DATA0.VALUE 0).wr SNOW_DATA1.VALUE (3071 * 2
        ^ 16 + 8)).wr SNOW_DATA2.VALUE 0).wr (SNOW_Q_CFG.KIND 3071) 2 |>.wr (SNOW_Q_CFG.QUOTA 3071) 36 |>.wr
        SNOW_POOL.FREE 0 |>.wr (SNOW_Q_RES.RESERVE 3071) 0; let q : Nat := 0;
    let addr := s.rd SNOW_KEY.VALUE + 2 ^ 32 * (s.rd SNOW_DATA0.VALUE % 256); let rb := s.rd SNOW_DATA1.VALUE;
    let pq := rb / 2 ^ 16; let plen := rb % 2 ^ 14;
      q < 4096 ∧ Takes s 7 SNOW_STAT.addr ∧ s.rdy 7 = true ∧ addr % 8 = 0 ∧ rb / 2 ^ 14 % 4 = 0 ∧ plen ≠ 0 ∧
      plen ≤ s.rd SNOW_MAXPKT.LEN ∧ addr + plen ≤ 2 ^ 36 ∧ s.rd SNOW_DATA2.VALUE = 0 ∧ pq < 3072 ∧
      s.rd (SNOW_Q_CFG.KIND pq) ≠ 0 ∧ s.admits pq plen = .full) := by
  refine ⟨?_, ?_, ?_, ?_, ?_, ?_, ?_, ?_, ?_, ?_, ?_⟩ <;> decide +kernel

/-- States and operands that meet the hypotheses of StreamStore. -/
theorem witness_StreamStore :
    (let s : State := ((((ready.wr MOR_KEY.VALUE 256).wr MOR_DATA0.VALUE 0).wr MOR_DATA1.VALUE 0).wr MOR_DATA2.VALUE
        0).wr MOR_DATA3.VALUE 0; let n : Nat := 255; let d : Nat := 15; let key := s.rd MOR_KEY.VALUE;
    let d0 := s.rd MOR_DATA0.VALUE; let d2 := s.rd MOR_DATA2.VALUE; let slot := key % 16;
      n < 256 ∧ d < 16 ∧ (Takes s 9 MOR_STAT.addr ∧ (s.mode ≠ 2 ∨ s.holds = false)) ∧
      (Takes s 9 MOR_STAT.addr ∧ (256 ≤ key ∨ 2 ≤ d0 ∨ 65536 ≤ d2)) ∧ (Takes s 9 MOR_STAT.addr ∧ s.readDest = none) ∧
      (Takes s 9 MOR_STAT.addr ∧ (s.on (MOR_DRIVE.FAILED slot) = false ∨ s.mor.accepted.contains slot = false ∨
          s.holds = false ∨ s.on (MOR_GROUP.FAILED (slot / 8)) = true)) ∧ (s.blkReady 9 = true) ∧
      (s.stream n = none) ∧ ((s.on (MOR_DRIVE.REBUILDING d) = false ∨ s.holds = false))) ∧
    (let s : State := (((((((ready.wr SYS_MODE.MODE 2).up PAIR_STATUS.HOLD)).wr MOR_KEY.VALUE 3).wr MOR_DATA0.VALUE
        0x11).wr MOR_DATA1.VALUE 0).wr MOR_DATA2.VALUE 0).wr MOR_DATA3.VALUE 0; let n : Nat := 3; let d : Nat := 15;
    let d0 := s.rd MOR_DATA0.VALUE; let l := (List.range 16).filter (fun k => d0 / 2 ^ k % 2 == 1);
    let cnt (g : Nat) : Nat := (l.filter (fun k => k / 8 == g)).length;
    let badMask := cnt 0 ∈ [1, 2, 3] ∨ cnt 1 ∈ [1, 2, 3] ∨ ∃ k ∈ l, s.mor.accepted.contains k = false;
      n < 256 ∧ d < 16 ∧ Takes s 9 MOR_STAT.addr ∧ s.mode = 2 ∧ s.holds = true ∧ badMask) ∧
    (let s : State := { (((((((ready.wr SYS_MODE.MODE 2).up PAIR_STATUS.HOLD)).wr MOR_KEY.VALUE 3).wr MOR_DATA0.VALUE 0xFF00).wr MOR_DATA1.VALUE 0).wr MOR_DATA2.VALUE 4096).wr MOR_DATA3.VALUE 256 with mor := { accepted := List.range 16 } };
    let n : Nat := 3; let d : Nat := 15; let d0 := s.rd MOR_DATA0.VALUE;
    let l := (List.range 16).filter (fun k => d0 / 2 ^ k % 2 == 1);
    let cnt (g : Nat) : Nat := (l.filter (fun k => k / 8 == g)).length;
    let badMask := cnt 0 ∈ [1, 2, 3] ∨ cnt 1 ∈ [1, 2, 3] ∨ ∃ k ∈ l, s.mor.accepted.contains k = false;
    let key := s.rd MOR_KEY.VALUE;
      n < 256 ∧ d < 16 ∧ (Takes s 9 MOR_STAT.addr ∧ s.mode = 2 ∧ s.holds = true ∧ ¬ badMask) ∧
      (Takes s 9 MOR_STAT.addr ∧ s.stream (key % 256) = none ∧ s.readDest ≠ none) ∧
      (s.rdy 21 = true ∧ s.mor.accepted.contains d = true)) ∧
    (let s : State := ((((svc.wr MOR_KEY.VALUE 255).wr MOR_DATA0.VALUE 1).wr MOR_DATA1.VALUE 0).wr MOR_DATA2.VALUE
        65535).wr MOR_DATA3.VALUE 0; let n : Nat := 255; let d : Nat := 15; let key := s.rd MOR_KEY.VALUE;
    let d0 := s.rd MOR_DATA0.VALUE; let d2 := s.rd MOR_DATA2.VALUE;
      n < 256 ∧ d < 16 ∧ Takes s 9 MOR_STAT.addr ∧ key = n ∧ d0 < 2 ∧ d2 < 65536) ∧
    (let s : State := { ((((svc.wr MOR_KEY.VALUE 3).wr MOR_DATA0.VALUE 5).wr MOR_DATA1.VALUE 0).wr MOR_DATA2.VALUE 4096).wr MOR_DATA3.VALUE (256 + 15) with mor := { streams := [(3, some ({ isOpen := true, staged := [⟨5, 7, 9, [1], 0⟩] } : Stream))] } };
    let n : Nat := 3; let d : Nat := 15;
    let x : Stream := ({ isOpen := true, staged := [⟨5, 7, 9, [1], 0⟩] } : Stream); let a := 4096 + 15 * 2 ^ 32;
    let m := 4096; let y := (⟨5, 7, 9, [1], 0⟩ : MRec); let key := s.rd MOR_KEY.VALUE; let d0 := s.rd MOR_DATA0.VALUE;
    let d1 := s.rd MOR_DATA1.VALUE; let clear (a m : Nat) : Prop := NoErr s ∧ unguarded s = true;
    let hi := s.netSec / 2 ^ 32 * 2 ^ 32;
    let inRange (y : MRec) : Bool := decide (hi + d0 ≤ y.ns / 1000000000) && decide (y.ns / 1000000000 ≤ hi + d1);
      n < 256 ∧ d < 16 ∧ Takes s 9 MOR_STAT.addr ∧ s.readDest = some (a, m) ∧ s.stream (key % 256) = some x ∧
      ((s.readable x).find? (fun z => z.seq == d0 + 2 ^ 32 * d1) = some y ∧ y.size ≤ m ∧ clear a m) ∧
      (key / 256 % 2 = 0 ∧ (s.readable x).filter inRange = [])) ∧
    (let s : State := { ((((svc.wr MOR_KEY.VALUE 3).wr MOR_DATA0.VALUE 6).wr MOR_DATA1.VALUE 7).wr MOR_DATA2.VALUE 4096).wr MOR_DATA3.VALUE 256 with mor := { streams := [(3, some ({ isOpen := true, staged := [⟨5, 7, 9, [1], 0⟩] } : Stream))] } };
    let n : Nat := 3; let d : Nat := 15;
    let x : Stream := ({ isOpen := true, staged := [⟨5, 7, 9, [1], 0⟩] } : Stream); let a := 4096; let m := 4096;
    let key := s.rd MOR_KEY.VALUE; let d0 := s.rd MOR_DATA0.VALUE; let d1 := s.rd MOR_DATA1.VALUE;
      n < 256 ∧ d < 16 ∧ Takes s 9 MOR_STAT.addr ∧ s.readDest = some (a, m) ∧ s.stream (key % 256) = some x ∧
      (s.readable x).find? (fun z => z.seq == d0 + 2 ^ 32 * d1) = none) ∧
    (let s : State := { ((((svc.wr MOR_KEY.VALUE 3).wr MOR_DATA0.VALUE 0).wr MOR_DATA1.VALUE 7).wr MOR_DATA2.VALUE 4096).wr MOR_DATA3.VALUE 256 with mor := { streams := [(3, some ({ isOpen := true, staged := [⟨5, 7, 9, [1], 0⟩] } : Stream))] } };
    let n : Nat := 3; let d : Nat := 15;
    let x : Stream := ({ isOpen := true, staged := [⟨5, 7, 9, [1], 0⟩] } : Stream); let a := 4096; let m := 4096;
    let y := (⟨5, 7, 9, [1], 0⟩ : MRec); let key := s.rd MOR_KEY.VALUE; let d0 := s.rd MOR_DATA0.VALUE;
    let d1 := s.rd MOR_DATA1.VALUE; let hi := s.netSec / 2 ^ 32 * 2 ^ 32;
    let inRange (y : MRec) : Bool := decide (hi + d0 ≤ y.ns / 1000000000) && decide (y.ns / 1000000000 ≤ hi + d1);
    let clear (a m : Nat) : Prop := NoErr s ∧ unguarded s = true;
      n < 256 ∧ d < 16 ∧ Takes s 9 MOR_STAT.addr ∧ s.readDest = some (a, m) ∧ s.stream (key % 256) = some x ∧
      key / 256 % 2 = 0 ∧ (s.readable x).filter inRange ≠ [] ∧ clear a m) ∧
    (let s : State := { (((((svc.wr MOR_KEY.VALUE 15).wr MOR_DATA0.VALUE 0).wr MOR_DATA1.VALUE 0).wr MOR_DATA2.VALUE 0).wr MOR_DATA3.VALUE 0).up (MOR_DRIVE.FAILED 15) |>.up (MOR_DRIVE.REBUILDING 14) with mor := { accepted := [15] } };
    let n : Nat := 3; let d : Nat := 14; let key := s.rd MOR_KEY.VALUE; let slot := key % 16;
      n < 256 ∧ d < 16 ∧ Takes s 9 MOR_STAT.addr ∧ s.on (MOR_DRIVE.FAILED slot) = true ∧
      s.mor.accepted.contains slot = true ∧ s.holds = true ∧ s.on (MOR_GROUP.FAILED (slot / 8)) = false ∧
      s.on (MOR_DRIVE.REBUILDING d) = true) ∧
    (let s : State := { (((((svc.wr MOR_KEY.VALUE 15).wr MOR_DATA0.VALUE 0).wr MOR_DATA1.VALUE 0).wr MOR_DATA2.VALUE 0).wr MOR_DATA3.VALUE 0).up (MOR_DRIVE.FAILED 15) |>.up (MOR_DRIVE.PRESENT 15) with mor := { accepted := [15] } };
    let n : Nat := 3; let d : Nat := 15; let k := 3;
    let drives := [none, none, none, some (⟨1000000, true, 1, 4096, 8, true⟩ : DriveId)];
    let di : DriveId := (⟨1000000, true, 1, 4096, 8, true⟩ : DriveId); let key := s.rd MOR_KEY.VALUE;
    let slot := key % 16;
      n < 256 ∧ d < 16 ∧
      (Takes s 9 MOR_STAT.addr ∧ s.on (MOR_DRIVE.FAILED slot) = true ∧ s.mor.accepted.contains slot = true ∧ s.holds
          = true ∧ s.on (MOR_GROUP.FAILED (slot / 8)) = false ∧ (∀ k < 16, s.on (MOR_DRIVE.REBUILDING k) = false)) ∧
      (s.rdy 21 = true ∧ k < 4 ∧ drives.getD (d % 4) none = some di ∧ k = d / 4) ∧
      (s.rdy 21 = true ∧ s.on (MOR_DRIVE.PRESENT d) = true)) ∧
    (let s : State := { (svc.up MOR_CTRL.EN).up (MOR_GROUP.FORMED 1) with mor := { streams := [(255, some ({ isOpen := true, staged := [⟨5, 7, 9, [1], 0⟩] } : Stream))] } };
    let n : Nat := 255; let d : Nat := 15;
    let x : Stream := ({ isOpen := true, staged := [⟨5, 7, 9, [1], 0⟩] } : Stream);
    let runs := s.rdy 21 = true ∧ s.on MOR_CTRL.EN = true ∧ s.holds = true; let t := takeBlock 65536 x.staged;
    let size := packedSize ((t.1.map MRec.bytes).flatten);
      n < 256 ∧ d < 16 ∧ s.stream n = some x ∧ runs ∧ x.staged ≠ [] ∧ (s.extentFor x size).isSome = true) ∧
    (let s : State := { (svc.up MOR_CTRL.EN).up (MOR_GROUP.FORMED 1) with mor := { streams := [(255, some ({ isOpen := true, blocks := [⟨1, [⟨5, 7, 9, [1], 0⟩], 64⟩] } : Stream))] } };
    let n : Nat := 255; let d : Nat := 15;
    let x : Stream := ({ isOpen := true, blocks := [⟨1, [⟨5, 7, 9, [1], 0⟩], 64⟩] } : Stream);
    let b := ⟨1, [⟨5, 7, 9, [1], 0⟩], 64⟩; let rest := [];
    let runs := s.rdy 21 = true ∧ s.on MOR_CTRL.EN = true ∧ s.holds = true;
      n < 256 ∧ d < 16 ∧ s.stream n = some x ∧ x.blocks = b :: rest ∧ runs ∧ x.overQuota = false ∧ x.retain = 0) ∧
    (let s : State := { (svc.up MOR_CTRL.EN).up (MOR_GROUP.FORMED 1) with mor := { streams := [(255, some ({ isOpen := true, blocks := [⟨1, [⟨5, 7, 9, [1], 0⟩], 64⟩], overQuota := true } : Stream))] } };
    let n : Nat := 255; let d : Nat := 15;
    let x : Stream := ({ isOpen := true, blocks := [⟨1, [⟨5, 7, 9, [1], 0⟩], 64⟩], overQuota := true } : Stream);
    let b := ⟨1, [⟨5, 7, 9, [1], 0⟩], 64⟩; let rest := [];
    let runs := s.rdy 21 = true ∧ s.on MOR_CTRL.EN = true ∧ s.holds = true;
      n < 256 ∧ d < 16 ∧ s.stream n = some x ∧ x.blocks = b :: rest ∧ runs ∧ (x.overQuota = true ∨ x.retain ≠ 0)) := by
  refine ⟨?_, ?_, ?_, ?_, ?_, ?_, ?_, ?_, ?_, ?_, ?_, ?_⟩ <;> decide +kernel

/-- States and operands that meet the hypotheses of Pair. -/
theorem witness_Pair :
    (let seq : Nat := 0; let s : State := State.reset.setReg SYS_READY.addr 0#32;
    let hb := s.rails = true ∧ s.rdy 23 = true;
      (¬ hb) ∧ (s.on PAIR_STATUS.PEER_ALIVE = false) ∧
      ((s.mayClaim = false ∨ s.on PAIR_STATUS.COMPAT = false ∨ s.on PAIR_CTRL.TAKEOVER_EN = false ∨ s.on
          PAIR_STATUS.ILK_OPEN = true ∨ (s.on PAIR_STATUS.PAIRED = false ∧ s.on PAIR_STATUS.PEER_ALIVE = true))) ∧
      (s.pair.retry = none) ∧ (s.holds = false) ∧
      ((s.mode ≠ 4 ∨ s.on PAIR_STATUS.COMPAT = false ∨ seq ≤ s.pair.applied)) ∧
      ((s.holds = false ∨ s.pair.sent ≤ s.pair.acked)) ∧ (s.pair.copying = false) ∧
      ((s.mode ≠ 4 ∨ s.on PAIR_STATUS.COMPAT = false)) ∧ (s.pair.handover = none) ∧ (s.pair.revertFrom = none) ∧
      ((s.rd PAIR_DRILL_CFG.PERIOD = 0 ∨ s.holds = false ∨ s.rdy 4 = false)) ∧ (s.pair.drillEnd = none) ∧
      (s.holdIn = false)) ∧
    (let v : Word := 0xFFFFF#32; let s : State := ready; let n : Nat := 15;
    let hb := s.rails = true ∧ s.rdy 23 = true; let x := v.toNat; let pages := x % 2 ^ 20;
    let base := s.rd (PAIR_MREG_LO.BASE_LO n) * 4096 + s.rd (PAIR_MREG_HI.BASE_HI n) * 2 ^ 32;
    let total := (List.range 16).foldl (fun a k => a + if k = n then pages else s.rd (PAIR_MREG_SIZE.PAGES k)) 0;
      (hb) ∧ (s.blkReady 10 = true ∧ n < 16 ∧ total ≤ 2 ^ 20 ∧ (pages = 0 ∨ base + 4096 * pages ≤ 2 ^ 36)) ∧
      (Takes s 10 PAIR_STAT.addr ∧ s.pairBusy = false ∧ s.mayHandOver = false)) ∧
    (let v : Word := 1#32; let s : State := ready.wr (PAIR_MREG_HI.BASE_HI 15) 16; let n : Nat := 15;
    let x := v.toNat; let pages := x % 2 ^ 20;
    let base := s.rd (PAIR_MREG_LO.BASE_LO n) * 4096 + s.rd (PAIR_MREG_HI.BASE_HI n) * 2 ^ 32;
    let total := (List.range 16).foldl (fun a k => a + if k = n then pages else s.rd (PAIR_MREG_SIZE.PAGES k)) 0;
      s.blkReady 10 = true ∧ n < 16 ∧ (2 ^ 20 < total ∨ (pages ≠ 0 ∧ 2 ^ 36 < base + 4096 * pages))) ∧
    (let s : State := standby.up PAIR_STATUS.ROLE; let seq : Nat := 1;
    let may := s.mayClaim = true ∧ s.on PAIR_STATUS.COMPAT = true ∧ s.on PAIR_CTRL.TAKEOVER_EN = true ∧ s.on
        PAIR_STATUS.ILK_OPEN = false ∧ s.on PAIR_STATUS.PAIRED = true;
    let stand := s.mode = 4 ∧ s.rdy 23 = true ∧ s.on PAIR_STATUS.COMPAT = true;
      (may ∧ s.secondary = true ∧ s.on PAIR_STATUS.ROLE_CLASH = false) ∧ (stand ∧ s.pair.applied < seq)) ∧
    (let s : State := standby;
    let may := s.mayClaim = true ∧ s.on PAIR_STATUS.COMPAT = true ∧ s.on PAIR_CTRL.TAKEOVER_EN = true ∧ s.on
        PAIR_STATUS.ILK_OPEN = false ∧ s.on PAIR_STATUS.PAIRED = true;
      may ∧ s.secondary = false) ∧
    (let s : State := pairing (standby) (fun p => { p with retry := some 7 }); let c : Nat := 7;
      (s.pair.retry = some c ∧ s.mayClaim = true) ∧ (Takes s 10 PAIR_STAT.addr ∧ s.pairBusy = true)) ∧
    (let s : State := pairing (holder) (fun p => { p with sent := 1 });
    let ready := s.pairBusy = false ∧ s.mayHandOver = true;
      (s.holds = true ∧ s.rails = true) ∧
      (s.holds = true ∧ s.pair.acked < s.pair.sent ∧ s.on PAIR_STATUS.COMPAT = true) ∧
      (Takes s 10 PAIR_STAT.addr ∧ ready) ∧ (s.rd PAIR_DRILL_CFG.PERIOD ≠ 0 ∧ s.rdy 4 = true ∧ ready)) ∧
    (let s : State := pairing (holder) (fun p => { p with copying := true });
      s.pair.copying = true ∧ s.on PAIR_STATUS.COMPAT = true ∧ s.on PAIR_STATUS.PEER_ALIVE = true) ∧
    (let ho : Handover := ⟨9, true, 0, none⟩;
    let s : State := pairing (holder) (fun p => { p with handover := some ⟨9, true, 0, none⟩ });
      s.pair.handover = some ho ∧ ho.releases = true ∧ s.holds = true ∧ (s.mode = 2 ∨ s.mode = 3) ∧
      s.firn.commit.all (fun k => k.epoch != ho.sec) = true ∧ ho.judged.getD (!s.copying) = true) ∧
    (let s : State := pairing (holder) (fun p => { p with revertFrom := some 7, drillEnd := some 7 });
    let c : Nat := 7; let ready := s.pairBusy = false ∧ s.mayHandOver = true;
      (s.pair.revertFrom = some c ∧ ready) ∧ (s.pair.drillEnd = some c ∧ s.mayHandOver = true)) ∧
    (let s : State := svc.up PAIR_STATUS.HOLD_IN;
      s.holdIn = true ∧ s.mode ≠ 4) ∧
    (let ho : Handover := ⟨9, false, 0, none⟩;
    let s : State := pairing (standby.up PAIR_STATUS.HOLD_IN) (fun p => { p with handover := some ⟨9, false, 0, none⟩ });
      s.holdIn = true ∧ s.mode = 4 ∧ s.faults.cur = none ∧
      (s.pair.handover = none ∨ (s.pair.handover = some ho ∧ (ho.releases = true ∨ s.netNs < 1000000000 * ho.sec)))) ∧
    (let s : State := pairing (ready) (fun p => { p with retry := some 7 }); let c : Nat := 7;
    let own := s.holds = false ∧ s.holdIn = false ∧ (s.mode = 2 ∨ s.mode = 3 ∨ s.mode = 5 ∧ s.on SYS_MODE_RES.NO_OUT
        = false);
      s.pair.retry = some c ∧ s.mayClaim = false ∧ ¬ own) ∧
    (let ho : Handover := ⟨9, true, 0, none⟩;
    let s : State := pairing (standby) (fun p => { p with handover := some ⟨9, true, 0, none⟩ });
      s.pair.handover = some ho ∧ ho.releases = true ∧ (s.holds = false ∨ (s.mode ≠ 2 ∧ s.mode ≠ 3))) ∧
    (let ho : Handover := ⟨9, true, 0, some false⟩;
    let s : State := pairing (holder) (fun p => { p with handover := some ⟨9, true, 0, some false⟩ });
      s.pair.handover = some ho ∧ ho.releases = true ∧ s.holds = true ∧ (s.mode = 2 ∨ s.mode = 3) ∧
      (s.firn.commit.any (fun k => k.epoch == ho.sec) = true ∨ ho.judged.getD (!s.copying) = false)) ∧
    (let s : State := pairing (standby) (fun p => { p with drillEnd := some 7 }); let c : Nat := 7;
    let fail : Nat := 0;
      s.pair.drillEnd = some c ∧ (s.holds = false ∨ (fail % 16 = 0 ∧ s.mayHandOver = false))) ∧
    (let s : State := pairing (svc) (fun p => { p with drillEnd := some 7 }); let c : Nat := 7; let fail : Nat := 1;
      s.pair.drillEnd = some c ∧ s.holds = true ∧ fail % 16 ≠ 0 ∧ s.mayHandOver = false) ∧
    (let ho : Handover := ⟨0, false, 0, none⟩;
    let s : State := pairing (standby.up PAIR_STATUS.HOLD_IN) (fun p => { p with handover := some ⟨0, false, 0, none⟩ });
      s.holdIn = true ∧ s.mode = 4 ∧ s.pair.handover = some ho ∧ ho.releases = false ∧
      1000000000 * ho.sec ≤ s.netNs) ∧
    (let s : State := pairing (ready.wr SYS_MODE.MODE 3) (fun p => { p with retry := some 7 }); let c : Nat := 7;
    let own := s.holds = false ∧ s.holdIn = false ∧ (s.mode = 2 ∨ s.mode = 3 ∨ s.mode = 5 ∧ s.on SYS_MODE_RES.NO_OUT
        = false);
      s.pair.retry = some c ∧ s.mayClaim = false ∧ own) := by
  refine ⟨?_, ?_, ?_, ?_, ?_, ?_, ?_, ?_, ?_, ?_, ?_, ?_, ?_, ?_, ?_, ?_, ?_, ?_, ?_⟩ <;> decide +kernel

/-- States and operands that meet the hypotheses of Floe. -/
theorem witness_Floe :
    (let sec : Nat := 0; let ns : Nat := 0; let s : State := State.reset.setReg SYS_READY.addr 0#32;
    let n : Nat := 1023; let on := s.floeOn = true; let epoch := sec * 1000000000 + ns;
    let fresh := s.rd FLOE_CHANGE.STATE ≠ 1 ∧ s.floe.wait = none ∧ s.faults.cur = none;
      (¬ on) ∧ (n < 1024 ∧ s.member n = none) ∧ (fresh ∧ epoch < s.netNs + 300000000) ∧
      ((¬ on ∨ s.leads = false ∨ s.abortsDue = [])) ∧ (s.rd FLOE_CHANGE.STATE ≠ 1)) ∧
    (let b : Beacon := aBeacon 2 7; let h : RingHdr := ⟨true, 0, 0, 1⟩; let m : Member := aMember 0;
    let s : State := follows; let term : Nat := 1; let n : Nat := 1023; let id : Nat := 9; let kind : Nat := 1;
    let target : Nat := 5; let sec : Nat := 60; let ns : Nat := 0; let viaW : Bool := false; let own := s.ownIndex;
    let on := s.floeOn = true; let wrap := if viaW then FLOE_STATUS.WRAPPED_W else FLOE_STATUS.WRAPPED_E;
    let epoch := sec * 1000000000 + ns;
    let fresh := s.rd FLOE_CHANGE.STATE ≠ 1 ∧ s.floe.wait = none ∧ s.faults.cur = none;
    let timely := s.netNs + 300000000 ≤ epoch ∧ epoch ≤ s.netNs + 60000000000;
    let heard := on ∧ h.src ≠ own ∧ s.fromLead h.src term = true ∧ s.rd FLOE_CHANGE_ID.ID ≠ id ∧ s.isActive = true ∧
        s.mode ≠ 4 ∧ s.on FLOE_STATUS.MEMBER = true; let key := s.rd PAIR_KEY.VALUE;
      (on ∧ b.src < 1024 ∧ b.src ≠ own ∧ b.maj = s.floeMaj ∧ s.clashes viaW b.src b.hops = false) ∧
      (on ∧ s.on wrap = false) ∧ (fresh ∧ timely ∧ kind = 1 ∧ target ∈ [2, 3, 5]) ∧
      (heard ∧ s.prepareCode kind target epoch = some ccOk ∧ sec < 2 ^ 48 ∧ ns < 1000000000 ∧ id < 2 ^ 32 ∧ kind < 4)
          ∧ (on ∧ n = own ∧ s.fromLead h.src term = true ∧ s.on FLOE_STATUS.MEMBER = true) ∧
      (Takes s 10 PAIR_STAT.addr ∧ s.leads = false) ∧ (Takes s 10 PAIR_STAT.addr ∧ s.member (key % 1024) = some m)) ∧
    (let h : RingHdr := ⟨true, 0, 0, 1⟩; let m : Member := aMember 0; let s : State := follows; let term : Nat := 1;
    let n : Nat := 0; let kind : Nat := 1; let target : Nat := 7; let sec : Nat := 60; let ns : Nat := 0;
    let own := s.ownIndex; let on := s.floeOn = true; let epoch := sec * 1000000000 + ns;
    let fresh := s.rd FLOE_CHANGE.STATE ≠ 1 ∧ s.floe.wait = none ∧ s.faults.cur = none;
    let timely := s.netNs + 300000000 ≤ epoch ∧ epoch ≤ s.netNs + 60000000000;
      (n < 1024 ∧ on ∧ s.member n = some m ∧ n ≠ own) ∧ (fresh ∧ timely ∧ kind = 1 ∧ target ∉ [2, 3, 5]) ∧
      (on ∧ (n ≠ own ∨ s.fromLead h.src term = false))) ∧
    (let s : State := follows; let sec : Nat := 60; let ns : Nat := 1; let epoch := sec * 1000000000 + ns;
    let fresh := s.rd FLOE_CHANGE.STATE ≠ 1 ∧ s.floe.wait = none ∧ s.faults.cur = none;
      fresh ∧ s.netNs + 60000000000 < epoch) ∧
    (let h : RingHdr := ⟨true, 0, 0, 1⟩; let s : State := follows; let term : Nat := 1; let id : Nat := 9;
    let kind : Nat := 1; let target : Nat := 7; let sec : Nat := 0; let ns : Nat := 299999999;
    let code : Nat := ccLate; let own := s.ownIndex; let epoch := sec * 1000000000 + ns; let on := s.floeOn = true;
    let heard := on ∧ h.src ≠ own ∧ s.fromLead h.src term = true ∧ s.rd FLOE_CHANGE_ID.ID ≠ id ∧ s.isActive = true ∧
        s.mode ≠ 4 ∧ s.on FLOE_STATUS.MEMBER = true;
      heard ∧ s.prepareCode kind target epoch = some code ∧ code ≠ ccOk) ∧
    (let h : RingHdr := ⟨true, 0, 0, 1⟩; let s : State := follows; let term : Nat := 1; let id : Nat := 9;
    let kind : Nat := 2; let target : Nat := 0; let sec : Nat := 0; let ns : Nat := 300000000;
    let epoch := sec * 1000000000 + ns;
    let fresh := s.rd FLOE_CHANGE.STATE ≠ 1 ∧ s.floe.wait = none ∧ s.faults.cur = none;
    let timely := s.netNs + 300000000 ≤ epoch ∧ epoch ≤ s.netNs + 60000000000; let own := s.ownIndex;
    let on := s.floeOn = true;
    let heard := on ∧ h.src ≠ own ∧ s.fromLead h.src term = true ∧ s.rd FLOE_CHANGE_ID.ID ≠ id ∧ s.isActive = true ∧
        s.mode ≠ 4 ∧ s.on FLOE_STATUS.MEMBER = true;
      (fresh ∧ timely ∧ kind = 2 ∧ s.mode ≠ 5) ∧ (heard ∧ s.prepareCode kind target epoch = none)) ∧
    (let b : Beacon := { aBeacon 0 7 with hops := 5 }; let s : State := follows; let viaW : Bool := true;
    let own := s.ownIndex; let on := s.floeOn = true;
      on ∧ b.src < 1024 ∧ b.src ≠ own ∧ b.maj = s.floeMaj ∧ s.clashes viaW b.src b.hops = true) ∧
    (let s : State := follows.wr SYS_MODE.MODE 5; let kind : Nat := 2; let sec : Nat := 0; let ns : Nat := 300000000;
    let epoch := sec * 1000000000 + ns;
    let fresh := s.rd FLOE_CHANGE.STATE ≠ 1 ∧ s.floe.wait = none ∧ s.faults.cur = none;
    let timely := s.netNs + 300000000 ≤ epoch ∧ epoch ≤ s.netNs + 60000000000;
      fresh ∧ timely ∧ kind = 2 ∧ s.mode = 5) ∧
    (let b : Beacon := aBeacon 1023 7;
    let s : State := { follows with floe := { follows.floe with fwd := [(1023, 1, 0)] } }; let own := s.ownIndex;
    let on := s.floeOn = true;
      on ∧ b.src = own ∧ own < 1024 ∧ s.ringSeen b.src b.seq = true) ∧
    (let h : RingHdr := ⟨true, 0, 0, 1⟩;
    let s : State := { follows.up FLOE_STATUS.WRAPPED_W with floe := { crossW := some 7 } }; let term : Nat := 1;
    let viaW : Bool := true; let c : Nat := 7; let on := s.floeOn = true;
    let wrap := if viaW then FLOE_STATUS.WRAPPED_W else FLOE_STATUS.WRAPPED_E; let own := s.ownIndex;
    let key := s.rd PAIR_KEY.VALUE;
      (on ∧ s.on wrap = true ∧ (if viaW then s.floe.crossW else s.floe.crossE) = some c) ∧
      (on ∧ (h.src = own ∨ s.fromLead h.src term = false)) ∧
      (Takes s 10 PAIR_STAT.addr ∧ s.member (key % 1024) = none)) ∧
    (let s : State := { follows.wr FLOE_LEAD.LEAD 1023 with floe := { members := [(0, some (aMember 0)), (1023, some (aMember 1023))] } };
    let n : Nat := 1023; let k := 0; let on := s.floeOn = true; let key := s.rd PAIR_KEY.VALUE;
    let mode := s.rd PAIR_DATA0.VALUE % 8;
    let when' := (s.rd PAIR_DATA1.VALUE + s.rd PAIR_DATA2.VALUE % 65536 * 2 ^ 32) * 1000000000 + key % 2 ^ 30;
    let bad := (mode ≠ 2 ∧ mode ≠ 3 ∧ mode ≠ 5) ∨ 1000000000 ≤ key % 2 ^ 30 ∨ when' < s.netNs + 500000000 ∨ s.netNs +
        60000000000 < when';
      (on ∧ s.leadNow = some n ∧ k < n ∧ k < 1024 ∧ lowest ((s.candidates.filter (fun x => decide (x.1 < n))).map
          (·.1)) = some k) ∧ (on ∧ s.leads = true) ∧
      (Takes s 10 PAIR_STAT.addr ∧ s.leads = true ∧ s.changePending = false ∧ bad)) ∧
    (let s : State := follows.down FLOE_LEAD.LEAD_VALID; let k := 0; let on := s.floeOn = true;
      on ∧ s.leadNow = none ∧ k < 1024 ∧ s.leadBy = some k) ∧
    (let h : RingHdr := ⟨true, 0, 0, 1⟩;
    let s : State := (follows.wr FLOE_CHANGE.STATE 1).wr FLOE_CHANGE.KIND 1 |>.wr FLOE_CHANGE_ID.ID 9;
    let term : Nat := 1; let id : Nat := 9; let own := s.ownIndex; let on := s.floeOn = true;
      ((s.rd FLOE_CHANGE.STATE = 1 ∨ s.floe.wait ≠ none ∨ s.faults.cur ≠ none)) ∧
      (on ∧ h.src ≠ own ∧ s.fromLead h.src term = true ∧ s.rd FLOE_CHANGE_ID.ID = id ∧ s.floe.wait = none ∧ s.rd
          FLOE_CHANGE.STATE = 1 ∧ s.rd FLOE_CHANGE.KIND = 1 ∧ s.floe.late = false) ∧
      (s.rd FLOE_CHANGE.STATE = 1 ∧ s.rails = true)) ∧
    (let h : RingHdr := ⟨true, 2, 0, 1⟩; let o : Order := theOrder; let s : State := rules theOrder;
    let id : Nat := 9; let on := s.floeOn = true; let rules := on ∧ s.leads = true ∧ s.floe.order = some o;
    let own := s.ownIndex;
      (rules ∧ o.id = id ∧ o.parts.any (fun p => p.1 == h.src) = true ∧ s.clashes h.viaW h.src h.hops = false ∧
          o.aborted = false) ∧ (rules ∧ o.aborted = false ∧ o.parts.all (fun p => o.readies.contains p.1) = false) ∧
      (rules ∧ (o.intended own = none ∨ o.intended own = some s.mode) ∧ o.checked = false) ∧
      (s.floe.order = some o ∧ o.checked = false) ∧
      (Takes s 10 PAIR_STAT.addr ∧ s.leads = true ∧ s.changePending = true)) ∧
    (let o : Order := anOrder (fun o => { o with readies := [2, 1023] });
    let s : State := rules (anOrder (fun o => { o with readies := [2, 1023] }));
      s.floe.order = some o ∧ o.parts.all (fun p => o.readies.contains p.1) = true) ∧
    (let s : State := { follows with floe := { wait := some 7 } }; let c : Nat := 7;
      s.floe.wait = some c) ∧
    (let o : Order := anOrder (fun o => { o with checked := true });
    let s : State := rules (anOrder (fun o => { o with checked := true })); let own := s.ownIndex;
    let on := s.floeOn = true; let rules := on ∧ s.leads = true ∧ s.floe.order = some o;
      rules ∧ (o.intended own = none ∨ o.intended own = some s.mode) ∧ o.checked = true ∧
      (∀ p ∈ s.setsDue o, p.1 ≠ own)) ∧
    (let s : State := (({ rules theOrder with floe := { members := [(0, some (aMember 0))] } }.wr PAIR_KEY.VALUE 0).wr PAIR_DATA0.VALUE 3).wr PAIR_DATA1.VALUE 1;
    let key := s.rd PAIR_KEY.VALUE; let mode := s.rd PAIR_DATA0.VALUE % 8;
    let when' := (s.rd PAIR_DATA1.VALUE + s.rd PAIR_DATA2.VALUE % 65536 * 2 ^ 32) * 1000000000 + key % 2 ^ 30;
    let bad := (mode ≠ 2 ∧ mode ≠ 3 ∧ mode ≠ 5) ∨ 1000000000 ≤ key % 2 ^ 30 ∨ when' < s.netNs + 500000000 ∨ s.netNs +
        60000000000 < when';
      Takes s 10 PAIR_STAT.addr ∧ s.leads = true ∧ s.changePending = false ∧ ¬ bad) := by
  refine ⟨?_, ?_, ?_, ?_, ?_, ?_, ?_, ?_, ?_, ?_, ?_, ?_, ?_, ?_, ?_, ?_, ?_, ?_⟩ <;> decide +kernel

/-- States and operands that meet the hypotheses of RimeAndIcecore. -/
theorem witness_RimeAndIcecore :
    (let r : Req := 5; let v : Word := 0#32; let n : Nat := 31; let t1 : Tamper1 := Tamper1.light;
    let s : State := { ready with rime := { stopped := true } }; let w := v.toNat % 2 ^ 25; let en := w / 512 % 2;
    let live := s.rime.stopped = false; let t := v &&& 0x071F_3F3F#32;
    let d := s.rime.heldDate.getD (s.reg RIME_RTC_DATE.addr); let key := s.rd RIME_KEY.VALUE;
    let addr := s.rd RIME_DATA0.VALUE + s.rd RIME_DATA1.VALUE % 256 * 2 ^ 32;
    let badRec := (key % 256 ∉ [1, 2, 3, 4, 0x41, 0x50]) ∨ (key / 2 ^ 16 % 2 = 1 ∧ key % 256 ≠ 0x41) ∨ addr % 8 ≠ 0 ∨
        2 ^ 36 < addr + 156;
      (n < 32 ∧ (s.rule n).since = none) ∧
      (s.rails = true ∧ n < 32 ∧ s.on (RIME_RULE.EN n) = false ∧ (en = 0 ∨ ruleBad w (s.reg (RIME_RULE.addr n +
          4)).toNat = false)) ∧ ((s.on RIME_PWR.PFW = false ∨ ¬ live)) ∧ (s.rime.holdupEnd = none) ∧
      (s.rime.rtcOff = false) ∧ (s.rails = true ∧ s.rime.locked = false ∧ rtcReal d.toNat t.toNat = true) ∧
      ((s.on (tamper1Bit t1) = true ∨ s.lightMeets t1 true = false)) ∧ (s.lightMeets t1 false = true) ∧
      (s.on RIME_ICE_STAT.FLUSHING = false) ∧
      (s.rails = true ∧ SMap.get (fun _ => none) s.latch (latchKey r (RIME_ICE_WIN.addr 71)) = none) ∧
      (s.rails = true ∧ SMap.get (fun _ => none) s.latch (latchKey r (RIME_ICE_WIN.addr 0)) = none) ∧
      (Takes s 14 RIME_STAT.addr ∧ s.on RIME_ICE_CFG.H2 = false) ∧ (Takes s 14 RIME_STAT.addr ∧ r ≠ 128) ∧
      (Takes s 14 RIME_STAT.addr ∧ badRec) ∧ (Takes s 14 RIME_STAT.addr ∧ s.mode ≠ 2) ∧ (s.rime.pwronAt = none) ∧
      ((s.on RIME_ICE_CFG.H2 = false ∨ s.ice.buf = []))) ∧
    (let n : Nat := 31; let c : Nat := 7; let y : Int := 5;
    let s : State := { ready.up (RIME_RULE.EN 31) with rime := { rules := [(31, { since := some 7, y := some 5 })] } };
    let live := s.rime.stopped = false;
      live ∧ (n < 32 ∧ s.on (RIME_RULE.EN n) = true ∧ (s.rule n).since = some c ∧ (s.rule n).y = some y) ∧
      (s.on RIME_PWR.PFW = false) ∧ (s.on RIME_WAKE.EXT = true)) ∧
    (let v : Word := 0x0000021F#32; let n : Nat := 31; let s : State := ready; let w := v.toNat % 2 ^ 25;
    let en := w / 512 % 2;
      s.rails = true ∧ n < 32 ∧ s.on (RIME_RULE.EN n) = false ∧ en = 1 ∧
      ruleBad w (s.reg (RIME_RULE.addr n + 4)).toNat = true) ∧
    (let c : Nat := 7; let s : State := { ready.up RIME_PWR.PFW with rime := { holdupEnd := some 7 } };
    let live := s.rime.stopped = false;
      (s.on RIME_PWR.PFW = true ∧ live) ∧ (s.rime.holdupEnd = some c ∧ s.rails = true)) ∧
    (let s : State := ready.up RIME_WAKE.EXT |>.up RIME_ICE_STAT.FLUSHING;
      s.on RIME_ICE_STAT.FLUSHING = true) ∧
    (let c : Nat := 7; let s : State := { ready with rime := { locked := true, pwronAt := some 7 } };
      (s.rails = true ∧ s.rime.locked = true) ∧ (s.rime.pwronAt = some c)) ∧
    (let v : Word := 0x0018003B#32; let s : State := ready; let t := v &&& 0x071F_3F3F#32;
    let d := s.rime.heldDate.getD (s.reg RIME_RTC_DATE.addr);
      s.rails = true ∧ s.rime.locked = false ∧ rtcReal d.toNat t.toNat = false) ∧
    (let s : State := ready.up RIME_ICE_CFG.H2;
      Takes s 14 RIME_STAT.addr ∧ s.on RIME_ICE_CFG.H2 = true ∧ s.ice.buf = []) ∧
    (let s : State := (ready.wr RIME_KEY.VALUE (0x41 + 2 ^ 16)).wr RIME_DATA0.VALUE (2 ^ 32 - 160) |>.wr
        RIME_DATA1.VALUE 15; let room := s.rails = true ∧ s.on RIME_ICE_CFG.H2 = false ∧ s.ice.buf.length < 910;
    let key := s.rd RIME_KEY.VALUE; let addr := s.rd RIME_DATA0.VALUE + s.rd RIME_DATA1.VALUE % 256 * 2 ^ 32;
    let badRec := (key % 256 ∉ [1, 2, 3, 4, 0x41, 0x50]) ∨ (key / 2 ^ 16 % 2 = 1 ∧ key % 256 ≠ 0x41) ∨ addr % 8 ≠ 0 ∨
        2 ^ 36 < addr + 156;
      Takes s 14 RIME_STAT.addr ∧ ¬ badRec ∧ NoErr s ∧ room) ∧
    (let s : State := ready.wr SYS_MODE.MODE 2;
      Takes s 14 RIME_STAT.addr ∧ s.mode = 2) ∧
    (let s : State := ready.wr SYS_MODE.MODE 0; let live := s.rime.stopped = false;
      s.rails = false ∧ live) ∧
    (let s : State := { ready.up RIME_ICE_CFG.H2 with ice := { buf := [⟨0, 0, 0, 0, 0, 0, 0, 1, 0, [], false, false⟩] } };
    let x := ⟨0, 0, 0, 0, 0, 0, 0, 1, 0, [], false, false⟩; let xs := [];
      s.on RIME_ICE_CFG.H2 = true ∧ (Takes s 14 RIME_STAT.addr ∧ s.ice.buf ≠ []) ∧ (s.ice.buf = x :: xs)) ∧
    (let t1 : Tamper1 := Tamper1.light;
    let s : State := (ready.down (tamper1En .light)).wr RIME_TAMP_CFG.LIGHT_TRIP 0 |>.wr (RIME_IN.VALUE 8) 1;
    let live := s.rime.stopped = false;
      (live ∧ s.on (tamper1En t1) = false ∧ s.on (tamper1Bit t1) = false ∧ s.lightMeets t1 true = true) ∧
      (s.lightMeets t1 false = false)) ∧
    (let t1 : Tamper1 := Tamper1.light;
    let s : State := (ready.up (tamper1En .light)).wr RIME_TAMP_CFG.LIGHT_TRIP 0 |>.wr (RIME_IN.VALUE 8) 1;
    let live := s.rime.stopped = false;
      live ∧ s.on (tamper1En t1) = true ∧ s.on (tamper1Bit t1) = false ∧ s.lightMeets t1 true = true) ∧
    (let low : Bool := true; let s : State := { ready.wr SYS_MODE.MODE 0 with rime := { stopped := true } };
    let live := s.rime.stopped = false;
      s.rails = false ∧ ¬ live ∧ low = true ∧ s.rime.rtcOff = false) ∧
    (let low : Bool := false; let s : State := { ready.wr SYS_MODE.MODE 0 with rime := { stopped := true } };
    let live := s.rime.stopped = false;
      s.rails = false ∧ ¬ live ∧ (low = false ∨ s.rime.rtcOff = true)) ∧
    (let s : State := { ready with rime := { rtcOff := true } };
      s.rime.rtcOff = true) ∧
    (let s : State := ready.down RIME_WAKE.EXT |>.down (tamper1En .light);
      s.on RIME_WAKE.EXT = false) := by
  refine ⟨?_, ?_, ?_, ?_, ?_, ?_, ?_, ?_, ?_, ?_, ?_, ?_, ?_, ?_, ?_, ?_, ?_, ?_⟩ <;> decide +kernel

/-- States and operands that meet the hypotheses of ModesAndBoard. -/
theorem witness_ModesAndBoard :
    (let v : Word := 6#32; let n : Nat := 3; let r : Req := 0; let s : State := ready; let new := v.toNat % 8;
    let noOut := v.getLsbD 3; let legal := new ≤ 5 ∧ (noOut = true → new = 5); let up := s.rails = true;
    let asks := up ∧ r ≠ 129 ∧ s.on SYS_MODE_RES.BUSY = false;
      n < 4 ∧ (¬ legal) ∧ (asks) ∧ (s.modeReq = none) ∧ (up ∧ s.mode ≠ 2) ∧ (up ∧ s.holds = false) ∧
      (up ∧ v.getLsbD 31 = false) ∧ ((up ∨ s.feedGood = false ∨ s.rime.stopped = true ∨ s.pwronLow = false)) ∧
      (s.holds = false ∧ s.holdIn = false ∧ s.on (SYS_CTR.FALLBACK 0) = false ∧ s.rime.stopped = false) ∧
      (s.pair.autoSince = none) ∧ (s.ctrDrive n = false) ∧ (SMap.get (fun _ => none) s.board.off n = none) ∧
      (up ∧ s.rd SYS_FAN.DUTY < 30)) ∧
    (let v : Word := 1#32; let n : Nat := 3; let r : Req := 131; let s : State := ready; let new := v.toNat % 8;
    let noOut := v.getLsbD 3; let same := new = s.mode ∧ (new ≠ 5 ∨ noOut = s.on SYS_MODE_RES.NO_OUT);
    let legal := new ≤ 5 ∧ (noOut = true → new = 5); let up := s.rails = true;
      n < 4 ∧ (legal ∧ same) ∧ (up ∧ v.getLsbD 0 = true ∧ 128 ≤ r)) ∧
    (let v : Word := 5#32; let n : Nat := 3; let s : State := ready; let new := v.toNat % 8; let noOut := v.getLsbD 3;
    let same := new = s.mode ∧ (new ≠ 5 ∨ noOut = s.on SYS_MODE_RES.NO_OUT);
    let legal := new ≤ 5 ∧ (noOut = true → new = 5);
      n < 4 ∧ legal ∧ ¬ same ∧ s.permitted new = false) ∧
    (let v : Word := 5#32; let n : Nat := 3;
    let s : State := { (ready.wr SYS_MODE.MODE 2).wr FLOE_CHANGE.STATE 1 with crq := { booted := true } } |>.up VLT_STATUS.PROVISIONED;
    let new := v.toNat % 8; let noOut := v.getLsbD 3;
    let same := new = s.mode ∧ (new ≠ 5 ∨ noOut = s.on SYS_MODE_RES.NO_OUT);
    let legal := new ≤ 5 ∧ (noOut = true → new = 5); let up := s.rails = true;
      n < 4 ∧
      (legal ∧ ¬ same ∧ s.permitted new = true ∧ (s.pairBusy = true ∨ s.floeHolds new = true ∨ s.canEnter new =
          false)) ∧ (up ∧ s.mode = 2)) ∧
    (let v : Word := 3#32; let n : Nat := 3; let s : State := (ready.wr SYS_MODE.MODE 2); let new := v.toNat % 8;
    let noOut := v.getLsbD 3; let same := new = s.mode ∧ (new ≠ 5 ∨ noOut = s.on SYS_MODE_RES.NO_OUT);
    let legal := new ≤ 5 ∧ (noOut = true → new = 5);
      n < 4 ∧ legal ∧ ¬ same ∧ s.permitted new = true ∧ s.pairBusy = false ∧ s.floeHolds new = false ∧
      s.canEnter new = true) ∧
    (let n : Nat := 3; let r : Req := 129; let s : State := ready.up SYS_MODE_RES.BUSY; let up := s.rails = true;
      n < 4 ∧ up ∧ r = 129) ∧
    (let n : Nat := 3; let r : Req := 131; let s : State := ready.up SYS_MODE_RES.BUSY; let up := s.rails = true;
      n < 4 ∧ up ∧ r ≠ 129 ∧ s.on SYS_MODE_RES.BUSY = true) ∧
    (let v : Word := 0x80000001#32; let n : Nat := 3; let s : State := svc; let up := s.rails = true;
      n < 4 ∧ (up ∧ v.getLsbD 31 = true) ∧
      ((s.holds = true ∨ s.holdIn = true ∨ s.on (SYS_CTR.FALLBACK 0) = true ∨ s.rime.stopped = true))) ∧
    (let v : Word := 0#32; let n : Nat := 3; let s : State := svc; let up := s.rails = true;
      n < 4 ∧ up ∧ s.holds = true ∧ v.getLsbD 0 = false) ∧
    (let n : Nat := 3; let bit : Nat := 25;
    let s : State := (State.reset.setReg SYS_READY.addr 0#32).wr SYS_BOOT.TARGET 3; let up := s.rails = true;
      n < 4 ∧ up ∧ bit < 26 ∧ bit ≠ 9 ∧ s.rdy bit = false ∧ s.rd SYS_BOOT.TARGET ∈ [2, 3]) ∧
    (let v : Word := 3#32; let n : Nat := 3; let r : Req := 0; let c : Nat := 0;
    let s : State := { svc with modeReq := some ⟨3, false, 0⟩ }; let new := v.toNat % 8; let noOut := v.getLsbD 3;
    let same := new = s.mode ∧ (new ≠ 5 ∨ noOut = s.on SYS_MODE_RES.NO_OUT);
    let runs := s.modeReq = some ⟨new, noOut, c⟩; let up := s.rails = true;
      n < 4 ∧ (runs ∧ (s.modeCode new noOut ≠ ccOk ∨ same)) ∧
      (up ∧ s.holds = true ∧ v.getLsbD 0 = true ∧ r < 128 ∧ s.on (SYS_CTR.OWN n) = false)) ∧
    (let v : Word := 3#32; let n : Nat := 3; let c : Nat := 0;
    let s : State := { ready.wr SYS_MODE.MODE 2 with modeReq := some ⟨3, false, 0⟩ }; let new := v.toNat % 8;
    let noOut := v.getLsbD 3; let same := new = s.mode ∧ (new ≠ 5 ∨ noOut = s.on SYS_MODE_RES.NO_OUT);
    let runs := s.modeReq = some ⟨new, noOut, c⟩;
      n < 4 ∧ runs ∧ s.modeCode new noOut = ccOk ∧ ¬ same) ∧
    (let n : Nat := 3; let s : State := { ready.wr SYS_MODE.MODE 0 with rime := { pwronAt := some 7 } };
      n < 4 ∧ s.rails = false ∧ s.feedGood = true ∧ s.rime.stopped = false ∧ s.pwronLow = true) ∧
    (let n : Nat := 3; let c : Nat := 7;
    let s : State := pairing (svc.up SYS_ISL_CFG.AUTO) (fun p => { p with autoSince := some 7 });
      n < 4 ∧ s.pair.autoSince = some c ∧ s.mode = 3 ∧ s.autoCond = true ∧ s.rd FLOE_CHANGE.STATE ≠ 1) ∧
    (let n : Nat := 3; let c : Nat := 7;
    let s : State := pairing (((svc.wr SYS_MODE.MODE 5).up SYS_MODE_RES.AUTO).up FLOE_LEAD.LEAD_VALID |>.up (PORT_LINK.UP 0)) (fun p => { p with autoSince := some 7 });
      n < 4 ∧ s.pair.autoSince = some c ∧ s.mode = 5 ∧ s.autoCond = true ∧ s.canEnter 3 = true) ∧
    (let n : Nat := 3; let s : State := (svc.up (SYS_CTR.OWN 3)).up (SYS_CTR.CMD 3); let up := s.rails = true;
      n < 4 ∧ s.ctrDrive n = true ∧ up) ∧
    (let n : Nat := 3; let c : Nat := 7; let s : State := { svc with board := { off := [(3, some 7)] } };
      n < 4 ∧ SMap.get (fun _ => none) s.board.off n = some c) ∧
    (let n : Nat := 2; let s : State := ready.wr SYS_FAN.DUTY 30; let up := s.rails = true;
      n < 4 ∧ up ∧ n < 3 ∧ 30 ≤ s.rd SYS_FAN.DUTY) ∧
    (let v : Word := 1#32; let n : Nat := 3; let r : Req := 5; let s : State := svc.up (SYS_CTR.OWN 3);
    let up := s.rails = true;
      n < 4 ∧ up ∧ s.holds = true ∧ v.getLsbD 0 = true ∧ r < 128 ∧ s.on (SYS_CTR.OWN n) = true) := by
  refine ⟨?_, ?_, ?_, ?_, ?_, ?_, ?_, ?_, ?_, ?_, ?_, ?_, ?_, ?_, ?_, ?_, ?_, ?_, ?_⟩ <;> decide +kernel

/-- States and operands that meet the hypotheses of CirqueAndManagement. -/
theorem witness_CirqueAndManagement :
    (let m : Nat := 0; let isl : Nat := 20; let i : Nat := 20;
    let s : State := State.reset.setReg SYS_READY.addr 0#32; let up := s.rails = true; let run := up ∧ s.rdy 2 = true;
    let idle := s.faults.cur = none ∧ s.faults.deferred = []; let session := up ∧ s.on CRQ_MGMT.SESSION = true;
      isl < 21 ∧ i < 21 ∧ (¬ run) ∧ (s.crq.crossings = [] ∧ (∀ q ∈ crossingPairs, s.crossDiff q ≤ 30 * degC)) ∧
      (SMap.get (fun _ => none) s.crq.dwell (8 * isl + 4) = none) ∧
      (up ∧ s.faults.cur = none ∧ s.crq.vddBad.contains isl = false ∧ offBy 5 m (s.setPoint isl) = true) ∧ (idle) ∧
      (¬ session) ∧
      (up ∧ s.on CRQ_MGMT.EN = true ∧ s.on CRQ_MGMT.SESSION = false ∧ s.on VLT_STATUS.PROVISIONED = false)) ∧
    (let isl : Nat := 20; let i : Nat := 20; let p : Nat × Nat := ((0, 1) : Nat × Nat);
    let s : State := { ready with crq := { temps := [(0, some 0), (1, some (40 * degC))] } };
    let up := s.rails = true; let run := up ∧ s.rdy 2 = true;
      isl < 21 ∧ i < 21 ∧ (p ∈ crossingPairs ∧ 30 * degC < s.crossDiff p) ∧ (run ∧ s.rd CRQ_HOT.HOT = 0)) ∧
    (let isl : Nat := 20; let i : Nat := 7;
    let s : State := { ready.wr CRQ_HOT.HOT 128 with crq := { temps := [(7, some (103 * degC))] } };
    let up := s.rails = true; let run := up ∧ s.rdy 2 = true;
      isl < 21 ∧ i < 21 ∧ run ∧ i < 8 ∧ s.rd CRQ_HOT.HOT = 2 ^ i ∧
      (s.temp i).any (fun t => decide (103 * degC ≤ t)) = true) ∧
    (let isl : Nat := 20; let i : Nat := 20; let c : Nat := 7;
    let s : State := { ready with crq := { dwell := [(164, some 7)] } }; let up := s.rails = true;
      isl < 21 ∧ i < 21 ∧ up ∧ SMap.get (fun _ => none) s.crq.dwell (8 * isl + 4) = some c ∧ s.faults.cur = none) ∧
    (let isl : Nat := 20; let i : Nat := 20; let s : State := ready.wr SYS_MODE.MODE 0;
      isl < 21 ∧ i < 21 ∧ s.rails = false) ∧
    (let isl : Nat := 20; let i : Nat := 20; let f : FaultRec := (⟨0x08, 2, 20, 0, 1, 0⟩ : FaultRec);
    let s : State := withFault ready (some (⟨0x08, 2, 20, 0, 1, 0⟩ : FaultRec));
      isl < 21 ∧ i < 21 ∧ s.faults.cur = some f ∧ f.cause = 0x08 ∧ s.islandUp f.island = true ∧
      s.faults.deferred = []) ∧
    (let isl : Nat := 20; let i : Nat := 20; let g : FaultRec := (⟨0x08, 2, 20, 0, 1, 0⟩ : FaultRec);
    let gs : List FaultRec := [];
    let s : State := { withFault ready none [(⟨0x08, 2, 20, 0, 1, 0⟩ : FaultRec)] with crq := { vddBad := [20] } };
    let up := s.rails = true;
      isl < 21 ∧ i < 21 ∧ (up ∧ s.crq.vddBad.contains isl = true) ∧
      (s.faults.cur = none ∧ s.faults.deferred = g :: gs ∧ g.cause = 0x08 ∧ s.causeGone g = false)) ∧
    (let isl : Nat := 20; let i : Nat := 20; let f : FaultRec := (⟨0x20, 2, 20, 0, 1, 0⟩ : FaultRec);
    let s : State := withFault ready (some (⟨0x20, 2, 20, 0, 1, 0⟩ : FaultRec));
      isl < 21 ∧ i < 21 ∧ s.faults.cur = some f ∧ f.cls = 2 ∧ f.cause ∉ [0x08, 0x09] ∧ s.faults.step2 = false ∧
      s.faults.deferred = [] ∧ s.canEnter 3 = true ∧ s.mode ≠ 5) ∧
    (let isl : Nat := 20; let i : Nat := 20; let f : FaultRec := (⟨0x08, 1, 17, 0, 1, 0⟩ : FaultRec);
    let s : State := withFault (ready.setReg SYS_READY.addr 0x03FFFFF7#32) (some (⟨0x08, 1, 17, 0, 1, 0⟩ : FaultRec));
    let up := s.rails = true;
      isl < 21 ∧ i < 21 ∧ up ∧ s.faults.cur = some f ∧ f.cause = 0x08 ∧ f.cls < 2 ∧ s.islandUp f.island = false) ∧
    (let isl : Nat := 20; let i : Nat := 20; let d : List Byte := [];
    let s : State := session.down VLT_STATUS.PROVISIONED |>.up RIME_TAMP.LID; let up := s.rails = true;
    let session := up ∧ s.on CRQ_MGMT.SESSION = true;
      isl < 21 ∧ i < 21 ∧ ((s.on CRQ_MGMT.EN = false ∨ s.on CRQ_MGMT.SESSION = true)) ∧
      (session ∧ (s.on VLT_STATUS.PROVISIONED = false ∨ s.crq.plainMgmt = true)) ∧
      (session ∧ s.rdy 3 = true ∧ s.mayProvision = true ∧ (d.length < 97 ∨ pointOf (d.take 97) = none))) ∧
    (let m : Nat := 750; let isl : Nat := 20; let i : Nat := 20; let s : State := ready; let up := s.rails = true;
      isl < 21 ∧ i < 21 ∧ up ∧ s.crq.vddBad.contains isl = false ∧ offBy 5 m (s.setPoint isl) = false) ∧
    (let isl : Nat := 20; let i : Nat := 20; let s : State := (ready.up CRQ_MGMT.EN).up VLT_STATUS.PROVISIONED;
    let up := s.rails = true;
      isl < 21 ∧ i < 21 ∧ up ∧ s.on CRQ_MGMT.EN = true ∧ s.on CRQ_MGMT.SESSION = false ∧
      s.on VLT_STATUS.PROVISIONED = true ∧ s.mgmtIdentity = false) ∧
    (let isl : Nat := 20; let i : Nat := 20;
    let s : State := { (ready.up CRQ_MGMT.EN).up VLT_STATUS.PROVISIONED with vlt := { cert := [1], slots := [(0, ⟨3, 1, 1, [1]⟩), (1, ⟨4, 1, 1, [1]⟩)] } };
    let up := s.rails = true;
      isl < 21 ∧ i < 21 ∧ up ∧ s.on CRQ_MGMT.EN = true ∧ s.on CRQ_MGMT.SESSION = false ∧
      s.on VLT_STATUS.PROVISIONED = true ∧ s.mgmtIdentity = true) ∧
    (let a : Nat := 2 ^ 36; let m : Nat := 257; let isl : Nat := 20; let i : Nat := 20; let ws : List Word := [];
    let s : State := session; let up := s.rails = true; let session := up ∧ s.on CRQ_MGMT.SESSION = true;
    let serves := session ∧ s.on VLT_STATUS.PROVISIONED = true ∧ s.crq.plainMgmt = false;
    let clear (b n : Nat) : Prop := NoErr s ∧ b + n ≤ 2 ^ 36 ∧ unguarded s = true;
      isl < 21 ∧ i < 21 ∧ (serves ∧ (m = 0 ∨ 256 < m)) ∧ (serves ∧ clear a (4 * ws.length)) ∧
      (serves ∧ 2 ^ 36 < a + 4 ∧ isReg a = false) ∧ (serves ∧ (m = 0 ∨ 64 < m ∨ 28672 < a + m)) ∧
      (session ∧ s.rdy 3 = true ∧ s.mayProvision = false)) ∧
    (let a : Nat := 2 ^ 36 - 1024; let m : Nat := 256; let isl : Nat := 20; let i : Nat := 20;
    let s : State := session; let up := s.rails = true; let session := up ∧ s.on CRQ_MGMT.SESSION = true;
    let serves := session ∧ s.on VLT_STATUS.PROVISIONED = true ∧ s.crq.plainMgmt = false;
      isl < 21 ∧ i < 21 ∧ serves ∧ m ≠ 0 ∧ m ≤ 256 ∧ s.mem.dramPoison = [] ∧ a + 4 * m ≤ 2 ^ 36) ∧
    (let a : Nat := 28672 - 64; let m : Nat := 64; let isl : Nat := 20; let i : Nat := 20; let s : State := session;
    let up := s.rails = true; let session := up ∧ s.on CRQ_MGMT.SESSION = true;
    let serves := session ∧ s.on VLT_STATUS.PROVISIONED = true ∧ s.crq.plainMgmt = false;
      isl < 21 ∧ i < 21 ∧ serves ∧ m ≠ 0 ∧ m ≤ 64 ∧ a + m ≤ 28672) ∧
    (let isl : Nat := 20; let i : Nat := 20; let s : State := (session.setReg SYS_READY.addr 0#32);
    let up := s.rails = true; let session := up ∧ s.on CRQ_MGMT.SESSION = true;
      isl < 21 ∧ i < 21 ∧ session ∧ (s.rdy 25 = false) ∧ (s.rdy 3 = false)) ∧
    (let isl : Nat := 20; let i : Nat := 20; let d : List Byte := aPoint;
    let s : State := (session.wr SYS_MODE.MODE 2).up RIME_TAMP.LID; let up := s.rails = true;
    let session := up ∧ s.on CRQ_MGMT.SESSION = true;
      isl < 21 ∧ i < 21 ∧ session ∧ s.rdy 3 = true ∧ s.mayProvision = true ∧ 97 ≤ d.length ∧
      pointOf (d.take 97) ≠ none ∧ s.mode = 2) := by
  refine ⟨?_, ?_, ?_, ?_, ?_, ?_, ?_, ?_, ?_, ?_, ?_, ?_, ?_, ?_, ?_, ?_, ?_, ?_⟩ <;> decide +kernel

/-- States and operands that meet the hypotheses of VaultCommands. -/
theorem witness_VaultCommands :
    (let s : State := ((ready.wr VLT_KEY.VALUE 0).wr VLT_DATA2.VALUE 17).wr VLT_DATA0.VALUE 0; let r : Req := 128;
    let cc := ccRange; let op := s.rd VLT_DATA2.VALUE % 64; let key := s.rd VLT_KEY.VALUE; let a := s.vltAddr;
    let w : Wide := BitVec.ofNat 128 (s.rd (VLT_W.W 0) + 2 ^ 32 * s.rd (VLT_W.W 1) + 2 ^ 64 * s.rd (VLT_W.W 2) + 2 ^
        96 * s.rd (VLT_W.W 3)); let clear (b m : Nat) : Prop := NoErr s ∧ b + m ≤ 2 ^ 36 ∧ unguarded s = true;
      Takes s 12 VLT_STAT.addr ∧ ((s.kopStart none (r < 128) op key a w).1 = some cc) ∧
      (s.faults.cur = none ∧ (∀ o ∈ s.vlt.ops, s.now < o.ends)) ∧ (clear a 32) ∧ (s.vlt.nonce = none) ∧
      (s.on VLT_STATUS.PROVISIONED = false)) ∧
    (let s : State := svc; let r : Req := 0; let op := s.rd VLT_DATA2.VALUE % 64; let key := s.rd VLT_KEY.VALUE;
    let a := s.vltAddr;
    let w : Wide := BitVec.ofNat 128 (s.rd (VLT_W.W 0) + 2 ^ 32 * s.rd (VLT_W.W 1) + 2 ^ 64 * s.rd (VLT_W.W 2) + 2 ^
        96 * s.rd (VLT_W.W 3));
    let open' := (s.mode = 1 ∨ s.mode = 2) ∧ (s.slot 0).typ = 0 ∧ s.on RIME_TAMP.LID = true;
      Takes s 12 VLT_STAT.addr ∧ ((s.kopStart none (r < 128) op key a w).1 = none) ∧ (¬ open' ∧ s.mode ≠ 1)) ∧
    (let s : State := { ready.wr SYS_BOOT.TARGET 3 with crq := { phase := 0 } };
    let open' := (s.mode = 1 ∨ s.mode = 2) ∧ (s.slot 0).typ = 0 ∧ s.on RIME_TAMP.LID = true;
    let boots := s.rd SYS_BOOT.TARGET ∈ [2, 3] ∧ s.crq.phase ≠ 1;
      Takes s 12 VLT_STAT.addr ∧ ¬ open' ∧ s.mode = 1 ∧ boots) ∧
    (let s : State := (unprovisioned.wr SYS_MODE.MODE 2).wr VLT_DATA0.VALUE 65; let a := s.vltAddr;
    let open' := (s.mode = 1 ∨ s.mode = 2) ∧ (s.slot 0).typ = 0 ∧ s.on RIME_TAMP.LID = true;
      Takes s 12 VLT_STAT.addr ∧ open' ∧ s.mode = 2 ∧ a % 8 ≠ 0) ∧
    (let s : State := unprovisioned.wr SYS_MODE.MODE 2; let a := s.vltAddr;
    let clear (b m : Nat) : Prop := NoErr s ∧ b + m ≤ 2 ^ 36 ∧ unguarded s = true;
    let open' := (s.mode = 1 ∨ s.mode = 2) ∧ (s.slot 0).typ = 0 ∧ s.on RIME_TAMP.LID = true;
    let boots := s.rd SYS_BOOT.TARGET ∈ [2, 3] ∧ s.crq.phase ≠ 1;
      Takes s 12 VLT_STAT.addr ∧ open' ∧ a % 8 = 0 ∧ clear a 225 ∧ pointOf (s.dramBytes a 97) ≠ none ∧
      (s.mode = 2 ∨ boots)) ∧
    (let s : State := { ready with now := 8, vlt := { nonce := some ([], 7) } }; let n := []; let t := 7;
      Takes s 12 VLT_STAT.addr ∧ s.vlt.nonce = some (n, t) ∧ t < s.ctr) ∧
    (let s : State := { ready with vlt := { nonce := some ([], 7) } }; let n := []; let t := 7; let a := s.vltAddr;
      Takes s 12 VLT_STAT.addr ∧ s.vlt.nonce = some (n, t) ∧ s.ctr ≤ t ∧ s.mem.blkUe = [] ∧ a + 96 ≤ 2 ^ 36 ∧
      s.mem.dramPoison = [] ∧ pointOf (s.slot 1).key = none) ∧
    (let s : State := (ready.up VLT_STATUS.PROVISIONED).wr VLT_DATA2.VALUE 4097;
    let len := s.rd VLT_DATA2.VALUE % 2 ^ 13;
      Takes s 12 VLT_STAT.addr ∧ s.on VLT_STATUS.PROVISIONED = true ∧ 4096 < len) ∧
    (let s : State := (unprovisioned.wr SYS_MODE.MODE 2).wr VLT_DATA0.VALUE 0xFFFFFFF8 |>.wr VLT_DATA1.VALUE 15;
    let a := s.vltAddr; let open' := (s.mode = 1 ∨ s.mode = 2) ∧ (s.slot 0).typ = 0 ∧ s.on RIME_TAMP.LID = true;
      Takes s 12 VLT_STAT.addr ∧ open' ∧ s.mode = 2 ∧ a % 8 = 0 ∧ 2 ^ 36 < a + 97) ∧
    (let s : State := ((ready.up RIME_TAMP.LID).wr VLT_DATA0.VALUE 64).wr SYS_MODE.MODE 2; let a := s.vltAddr;
    let open' := (s.mode = 1 ∨ s.mode = 2) ∧ (s.slot 0).typ = 0 ∧ s.on RIME_TAMP.LID = true;
      Takes s 12 VLT_STAT.addr ∧ open' ∧ s.mode = 2 ∧ a % 8 = 0 ∧ a + 97 ≤ 2 ^ 36 ∧ s.mem.dramPoison = [] ∧
      pointOf (s.dramBytes a 97) = none) ∧
    (let s : State := { ready with vlt := { nonce := some ([], 7) } }.wr VLT_DATA0.VALUE 0xFFFFFFF8 |>.wr VLT_DATA1.VALUE 15;
    let n := []; let t := 7; let a := s.vltAddr;
      Takes s 12 VLT_STAT.addr ∧ s.vlt.nonce = some (n, t) ∧ s.ctr ≤ t ∧ 2 ^ 36 < a + 96) ∧
    (let s : State := (ready.up VLT_STATUS.PROVISIONED).wr VLT_DATA2.VALUE 4096 |>.wr VLT_DATA0.VALUE 0xFFFFFFF8
        |>.wr VLT_DATA1.VALUE 15; let a := s.vltAddr; let len := s.rd VLT_DATA2.VALUE % 2 ^ 13;
      Takes s 12 VLT_STAT.addr ∧ s.on VLT_STATUS.PROVISIONED = true ∧ len ≤ 4096 ∧ 2 ^ 36 < a + len) ∧
    (let s : State := (ready.up VLT_STATUS.PROVISIONED).wr VLT_DATA2.VALUE 4096 |>.wr VLT_DATA0.VALUE 0xFFFFF000
        |>.wr VLT_DATA1.VALUE 15; let a := s.vltAddr; let len := s.rd VLT_DATA2.VALUE % 2 ^ 13;
      Takes s 12 VLT_STAT.addr ∧ s.on VLT_STATUS.PROVISIONED = true ∧ len ≤ 4096 ∧ a + len ≤ 2 ^ 36 ∧
      s.mem.dramPoison = []) := by
  refine ⟨?_, ?_, ?_, ?_, ?_, ?_, ?_, ?_, ?_, ?_, ?_, ?_, ?_⟩ <;> decide +kernel

/-- States and operands that meet the hypotheses of CanPorts. -/
theorem witness_CanPorts :
    (let v : Word := 0#32; let n : Nat := 3; let cf : CanFrame := ⟨5, false, false, false, false, false, 0, []⟩;
    let s : State := ready.down ⟨SYS_READY.addr, 4, 1⟩; let x := v.toNat; let size := s.rd (CAN_RX_SIZE.SIZE n);
    let enters := s.on (CAN_CTRL.ACCEPT_ALL n) = true ∨ ∃ k < 32, s.on (CAN_FLT_ID.EN n k) = true ∧ s.on
        (CAN_FLT_ID.IDE n k) = cf.ide ∧ (cf.id ^^^ s.rd (CAN_FLT_ID.ID n k)) &&& s.rd (CAN_FLT_MASK.MASK n k) = 0;
    let takes := s.rdy 22 = true ∧ s.on (CAN_CTRL.EN n) = true ∧ (cf.fdf = true → s.on (CAN_CTRL.FD n) = true) ∧
        enters;
      n < 4 ∧ (Takes s 11 CAN_STAT.addr ∧ s.rdy 4 = false) ∧ (s.blkReady 11 = true ∧ size ≤ x % 4096) ∧ (¬ takes) ∧
      ((s.can' n).tx = none) ∧ (s.rdy 22 = true)) ∧
    (let n : Nat := 3; let s : State := canAsk.wr CAN_DATA0.VALUE (15 * 256 + 3 * 2 ^ 22);
    let d0 := s.rd CAN_DATA0.VALUE; let addr := s.rd CAN_KEY.VALUE + 2 ^ 32 * (d0 % 256);
    let len := d0 / 256 % 2 ^ 14; let p := d0 / 2 ^ 22 % 4; let ns := s.rd CAN_DATA3.VALUE;
    let at' := (s.rd CAN_DATA1.VALUE + 2 ^ 32 * (s.rd CAN_DATA2.VALUE % 65536)) * 1000000000 + ns;
    let frame := s.dramBytes addr len;
    let bad := 2 ^ 25 ≤ d0 ∨ addr % 8 ≠ 0 ∨ 2 ^ 36 < addr + len ∨ len = 0 ∨ 9216 < len ∨ 1000000000 ≤ ns ∨ (at' ≠ 0 ∧
        s.netNs + 16000000000 < at') ∨ s.canRange p frame = true;
      n < 4 ∧ Takes s 11 CAN_STAT.addr ∧ s.rdy 4 = true ∧ NoErr s ∧ bad) ∧
    (let n : Nat := 3; let s : State := canAsk.down (CAN_CTRL.EN 3); let d0 := s.rd CAN_DATA0.VALUE;
    let addr := s.rd CAN_KEY.VALUE + 2 ^ 32 * (d0 % 256); let len := d0 / 256 % 2 ^ 14; let p := d0 / 2 ^ 22 % 4;
    let ns := s.rd CAN_DATA3.VALUE;
    let at' := (s.rd CAN_DATA1.VALUE + 2 ^ 32 * (s.rd CAN_DATA2.VALUE % 65536)) * 1000000000 + ns;
    let frame := s.dramBytes addr len;
    let bad := 2 ^ 25 ≤ d0 ∨ addr % 8 ≠ 0 ∨ 2 ^ 36 < addr + len ∨ len = 0 ∨ 9216 < len ∨ 1000000000 ≤ ns ∨ (at' ≠ 0 ∧
        s.netNs + 16000000000 < at') ∨ s.canRange p frame = true;
    let denied := s.on (CAN_CTRL.EN p) = false ∨ s.on (CAN_CTRL.LISTEN p) = true ∨ (txFlag frame 0 = true ∧ s.gate 3
        = false);
      n < 4 ∧ Takes s 11 CAN_STAT.addr ∧ s.rdy 4 = true ∧ NoErr s ∧ ¬ bad ∧ denied) ∧
    (let n : Nat := 3; let s : State := { canAsk with now := 8 * 10 ^ 9 } |>.wr CAN_DATA3.VALUE 1;
    let d0 := s.rd CAN_DATA0.VALUE; let addr := s.rd CAN_KEY.VALUE + 2 ^ 32 * (d0 % 256);
    let len := d0 / 256 % 2 ^ 14; let p := d0 / 2 ^ 22 % 4; let ns := s.rd CAN_DATA3.VALUE;
    let at' := (s.rd CAN_DATA1.VALUE + 2 ^ 32 * (s.rd CAN_DATA2.VALUE % 65536)) * 1000000000 + ns;
    let late := decide (d0 / 2 ^ 24 % 2 = 1); let frame := s.dramBytes addr len;
    let bad := 2 ^ 25 ≤ d0 ∨ addr % 8 ≠ 0 ∨ 2 ^ 36 < addr + len ∨ len = 0 ∨ 9216 < len ∨ 1000000000 ≤ ns ∨ (at' ≠ 0 ∧
        s.netNs + 16000000000 < at') ∨ s.canRange p frame = true; let past := at' ≠ 0 ∧ at' < s.netNs ∧ late = false;
    let denied := s.on (CAN_CTRL.EN p) = false ∨ s.on (CAN_CTRL.LISTEN p) = true ∨ (txFlag frame 0 = true ∧ s.gate 3
        = false);
      n < 4 ∧ Takes s 11 CAN_STAT.addr ∧ s.rdy 4 = true ∧ NoErr s ∧ ¬ bad ∧ ¬ denied ∧ past) ∧
    (let n : Nat := 3;
    let s : State := { canAsk with time := { queues := [(19, List.replicate 256 (aFrame none))] } };
    let d0 := s.rd CAN_DATA0.VALUE; let addr := s.rd CAN_KEY.VALUE + 2 ^ 32 * (d0 % 256);
    let len := d0 / 256 % 2 ^ 14; let p := d0 / 2 ^ 22 % 4; let ns := s.rd CAN_DATA3.VALUE;
    let at' := (s.rd CAN_DATA1.VALUE + 2 ^ 32 * (s.rd CAN_DATA2.VALUE % 65536)) * 1000000000 + ns;
    let late := decide (d0 / 2 ^ 24 % 2 = 1); let frame := s.dramBytes addr len;
    let bad := 2 ^ 25 ≤ d0 ∨ addr % 8 ≠ 0 ∨ 2 ^ 36 < addr + len ∨ len = 0 ∨ 9216 < len ∨ 1000000000 ≤ ns ∨ (at' ≠ 0 ∧
        s.netNs + 16000000000 < at') ∨ s.canRange p frame = true; let past := at' ≠ 0 ∧ at' < s.netNs ∧ late = false;
    let full := s.lqRoom (16 + p) len = false;
    let denied := s.on (CAN_CTRL.EN p) = false ∨ s.on (CAN_CTRL.LISTEN p) = true ∨ (txFlag frame 0 = true ∧ s.gate 3
        = false);
      n < 4 ∧ Takes s 11 CAN_STAT.addr ∧ s.rdy 4 = true ∧ NoErr s ∧ ¬ bad ∧ ¬ denied ∧ ¬ past ∧ full) ∧
    (let n : Nat := 3; let s : State := canAsk; let d0 := s.rd CAN_DATA0.VALUE;
    let addr := s.rd CAN_KEY.VALUE + 2 ^ 32 * (d0 % 256); let len := d0 / 256 % 2 ^ 14; let p := d0 / 2 ^ 22 % 4;
    let ns := s.rd CAN_DATA3.VALUE;
    let at' := (s.rd CAN_DATA1.VALUE + 2 ^ 32 * (s.rd CAN_DATA2.VALUE % 65536)) * 1000000000 + ns;
    let late := decide (d0 / 2 ^ 24 % 2 = 1); let frame := s.dramBytes addr len;
    let bad := 2 ^ 25 ≤ d0 ∨ addr % 8 ≠ 0 ∨ 2 ^ 36 < addr + len ∨ len = 0 ∨ 9216 < len ∨ 1000000000 ≤ ns ∨ (at' ≠ 0 ∧
        s.netNs + 16000000000 < at') ∨ s.canRange p frame = true; let past := at' ≠ 0 ∧ at' < s.netNs ∧ late = false;
    let full := s.lqRoom (16 + p) len = false;
    let denied := s.on (CAN_CTRL.EN p) = false ∨ s.on (CAN_CTRL.LISTEN p) = true ∨ (txFlag frame 0 = true ∧ s.gate 3
        = false);
      n < 4 ∧ Takes s 11 CAN_STAT.addr ∧ s.rdy 4 = true ∧ NoErr s ∧ ¬ bad ∧ ¬ denied ∧ ¬ past ∧ ¬ full) ∧
    (let v : Word := 4#32; let n : Nat := 3; let s : State := ready.wr (CAN_RX_SIZE.SIZE 3) 5; let x := v.toNat;
    let size := s.rd (CAN_RX_SIZE.SIZE n);
      n < 4 ∧ s.blkReady 11 = true ∧ x % 4096 < size) ∧
    (let n : Nat := 3; let cf : CanFrame := ⟨5, false, false, false, false, false, 0, []⟩;
    let s : State := (ready.up (CAN_CTRL.EN 3)).up (CAN_CTRL.ACCEPT_ALL 3) |>.wr (CAN_RX_SIZE.SIZE 3) 4096 |>.wr
        (CAN_RX_HEAD.HEAD 3) 4095; let size := s.rd (CAN_RX_SIZE.SIZE n); let head := s.rd (CAN_RX_HEAD.HEAD n);
    let enters := s.on (CAN_CTRL.ACCEPT_ALL n) = true ∨ ∃ k < 32, s.on (CAN_FLT_ID.EN n k) = true ∧ s.on
        (CAN_FLT_ID.IDE n k) = cf.ide ∧ (cf.id ^^^ s.rd (CAN_FLT_ID.ID n k)) &&& s.rd (CAN_FLT_MASK.MASK n k) = 0;
    let takes := s.rdy 22 = true ∧ s.on (CAN_CTRL.EN n) = true ∧ (cf.fdf = true → s.on (CAN_CTRL.FD n) = true) ∧
        enters;
      n < 4 ∧ takes ∧ size ≠ 0 ∧ size ≤ 4096 ∧ (head + 1) % size = s.rd (CAN_RX_TAIL.TAIL n)) ∧
    (let n : Nat := 3; let cf : CanFrame := ⟨5, false, false, false, false, false, 0, []⟩;
    let s : State := (ready.up (CAN_CTRL.EN 3)).up (CAN_CTRL.ACCEPT_ALL 3) |>.wr (CAN_RX_SIZE.SIZE 3) 4096 |>.wr
        (CAN_RX_HEAD.HEAD 3) 4095 |>.wr (CAN_RX_TAIL.TAIL 3) 1; let size := s.rd (CAN_RX_SIZE.SIZE n);
    let head := s.rd (CAN_RX_HEAD.HEAD n);
    let base := s.rd (CAN_RX_LO.BASE_LO n) * 64 + s.rd (CAN_RX_HI.BASE_HI n) * 2 ^ 32;
    let enters := s.on (CAN_CTRL.ACCEPT_ALL n) = true ∨ ∃ k < 32, s.on (CAN_FLT_ID.EN n k) = true ∧ s.on
        (CAN_FLT_ID.IDE n k) = cf.ide ∧ (cf.id ^^^ s.rd (CAN_FLT_ID.ID n k)) &&& s.rd (CAN_FLT_MASK.MASK n k) = 0;
    let takes := s.rdy 22 = true ∧ s.on (CAN_CTRL.EN n) = true ∧ (cf.fdf = true → s.on (CAN_CTRL.FD n) = true) ∧
        enters;
      n < 4 ∧ takes ∧ size ≠ 0 ∧ size ≤ 4096 ∧ (head + 1) % size ≠ s.rd (CAN_RX_TAIL.TAIL n) ∧ NoErr s ∧
      base + 80 * head + 80 ≤ 2 ^ 36 ∧ (unguarded s = true)) ∧
    (let n : Nat := 3; let lec : Nat := 5; let f : LFrame := (⟨7, none, false, [0, 0, 0, 0, 0, 2]⟩ : LFrame);
    let o := TxOutcome.lostArbitration; let c := 1; let s : State := onBus ready 2;
      n < 4 ∧ (s.can' n).tx = some f ∧ ((o = TxOutcome.lostArbitration ∧ c = 1) ∨ (o = TxOutcome.error lec ∧ c = 2)) ∧
      txFlag f.data 1 = true) ∧
    (let n : Nat := 3; let lec : Nat := 5; let f : LFrame := (⟨7, none, false, [0, 0, 0, 0, 0, 0]⟩ : LFrame);
    let o := TxOutcome.error 5; let c := 2; let s : State := onBus (ready.down (CAN_CTRL.EN 3)) 0;
      n < 4 ∧ (s.can' n).tx = some f ∧ ((o = TxOutcome.lostArbitration ∧ c = 1) ∨ (o = TxOutcome.error lec ∧ c = 2)) ∧
      txFlag f.data 1 = false ∧ s.on (CAN_CTRL.EN n) = false) ∧
    (let n : Nat := 3; let lec : Nat := 5; let f : LFrame := (⟨7, none, false, [0, 0, 0, 0, 0, 1]⟩ : LFrame);
    let o := TxOutcome.lostArbitration; let c := 1; let s : State := onBus (ready.up (CAN_CTRL.EN 3)) 1;
      n < 4 ∧ (s.can' n).tx = some f ∧ ((o = TxOutcome.lostArbitration ∧ c = 1) ∨ (o = TxOutcome.error lec ∧ c = 2)) ∧
      txFlag f.data 1 = false ∧ s.on (CAN_CTRL.EN n) = true ∧ txFlag f.data 0 = true ∧ s.gate 3 = false) ∧
    (let n : Nat := 3; let lec : Nat := 5; let f : LFrame := (⟨7, none, false, [0, 0, 0, 0, 0, 1]⟩ : LFrame);
    let o := TxOutcome.lostArbitration; let c := 1; let s : State := onBus (svc.up (CAN_CTRL.EN 3)) 1;
      n < 4 ∧ (s.can' n).tx = some f ∧ ((o = TxOutcome.lostArbitration ∧ c = 1) ∨ (o = TxOutcome.error lec ∧ c = 2)) ∧
      txFlag f.data 1 = false ∧ s.on (CAN_CTRL.EN n) = true ∧ (txFlag f.data 0 = false ∨ s.gate 3 = true)) ∧
    (let n : Nat := 3; let s : State := State.reset.setReg SYS_READY.addr 0#32;
      n < 4 ∧ s.rdy 22 = false) := by
  refine ⟨?_, ?_, ?_, ?_, ?_, ?_, ?_, ?_, ?_, ?_, ?_, ?_, ?_, ?_⟩ <;> decide +kernel

/-- States and operands that meet the hypotheses of IcefallCommands. -/
theorem witness_IcefallCommands :
    (let s : State := (ringed.wr FLOE_LEAD.LEAD 1023); let key := s.rd ICF_KEY.VALUE; let k := key % 8;
    let floe := key % 2 = 1; let sec := s.rd ICF_DATA0.VALUE + s.rd ICF_DATA1.VALUE % 65536 * 2 ^ 32;
    let near := sec * 1000000000 < s.netNs + 10000000000 ∨ s.netNs + 604800000000000 < sec * 1000000000;
    let partner := s.on PAIR_STATUS.PEER_ALIVE = true ∧ s.peer (·.mode == 1) = true; let e := key % 4;
    let barred := s.on (ICF_SLOT.RUNNING e) = true ∨ (s.on (ICF_SLOT.NEXT e) = true ∧ s.icf.act ≠ none);
      Takes s 15 ICF_STAT.addr ∧ (s.leads = true ∧ s.slotValid k = false) ∧ ((floe → s.leads = true) ∧ near) ∧
      (s.slotValid 2 = false) ∧ (s.runningSlot = none) ∧ (¬ partner) ∧ (e < 3 ∧ ¬ barred)) ∧
    (let s : State := ((({ ((ringed.wr FLOE_LEAD.LEAD 1023).wr (ICF_SLOT.STATE 2) 2) with icf := { job := some ⟨0, 0, []⟩ } }).wr ICF_KEY.VALUE 2).wr ICF_DATA0.VALUE 0).wr ICF_DATA1.VALUE 0;
    let key := s.rd ICF_KEY.VALUE; let k := key % 8;
    let cores := (List.range 32).filter (fun c => key / 2 ^ c % 2 == 1);
    let held := ∃ c ∈ cores, ∃ j < 4, (match s.prim (4 * c + j) with | some (.wait _ _) => false | some _ => true | none => false) = true;
    let load := s.loadImage (s.programOf 2 (some cores));
      Takes s 15 ICF_STAT.addr ∧ (s.leads = true ∧ s.slotValid k = true ∧ s.icf.job ≠ none) ∧
      (s.slotValid 2 = true ∧ ¬ held ∧ load.1 = ccOk)) ∧
    (let s : State := (((((ringed.wr FLOE_LEAD.LEAD 1023).wr (ICF_SLOT.STATE 2) 2)).wr ICF_KEY.VALUE 2).wr
        ICF_DATA0.VALUE 0).wr ICF_DATA1.VALUE 0; let key := s.rd ICF_KEY.VALUE; let k := key % 8;
      Takes s 15 ICF_STAT.addr ∧ s.leads = true ∧ s.slotValid k = true ∧ s.icf.job = none) ∧
    (let s : State := (((follows).wr ICF_KEY.VALUE 1).wr ICF_DATA0.VALUE 9).wr ICF_DATA1.VALUE 0;
    let key := s.rd ICF_KEY.VALUE; let floe := key % 2 = 1;
      Takes s 15 ICF_STAT.addr ∧ floe ∧ s.leads = false) ∧
    (let s : State := (((putReg ((ready.wr (ICF_SLOT.STATE 1) 2)) ICF_SVN.addr 0#32).wr ICF_KEY.VALUE 2).wr
        ICF_DATA0.VALUE 10).wr ICF_DATA1.VALUE 0; let key := s.rd ICF_KEY.VALUE; let floe := key % 2 = 1;
    let a := key / 2 % 2; let sec := s.rd ICF_DATA0.VALUE + s.rd ICF_DATA1.VALUE % 65536 * 2 ^ 32;
    let near := sec * 1000000000 < s.netNs + 10000000000 ∨ s.netNs + 604800000000000 < sec * 1000000000;
      Takes s 15 ICF_STAT.addr ∧ (floe → s.leads = true) ∧ ¬ near ∧ s.slotValid a = true ∧
      s.notRolledBack (s.storeOf a).header = true ∧ s.icf.act = none) ∧
    (let s : State := (((ready).wr ICF_KEY.VALUE 2).wr ICF_DATA0.VALUE 604800).wr ICF_DATA1.VALUE 0;
    let key := s.rd ICF_KEY.VALUE; let floe := key % 2 = 1; let a := key / 2 % 2;
    let sec := s.rd ICF_DATA0.VALUE + s.rd ICF_DATA1.VALUE % 65536 * 2 ^ 32;
    let near := sec * 1000000000 < s.netNs + 10000000000 ∨ s.netNs + 604800000000000 < sec * 1000000000;
      Takes s 15 ICF_STAT.addr ∧ (floe → s.leads = true) ∧ ¬ near ∧ s.slotValid a = false) ∧
    (let s : State := (((inStore (putReg ((ready.wr (ICF_SLOT.STATE 1) 2).wr (ICF_AR.VERSION 0) 8) ICF_SVN.addr 0#32) 1 { header := aHeader 1 1 [] }).wr ICF_KEY.VALUE 2).wr ICF_DATA0.VALUE 10).wr ICF_DATA1.VALUE 0;
    let key := s.rd ICF_KEY.VALUE; let floe := key % 2 = 1; let a := key / 2 % 2;
    let sec := s.rd ICF_DATA0.VALUE + s.rd ICF_DATA1.VALUE % 65536 * 2 ^ 32;
    let near := sec * 1000000000 < s.netNs + 10000000000 ∨ s.netNs + 604800000000000 < sec * 1000000000;
      Takes s 15 ICF_STAT.addr ∧ (floe → s.leads = true) ∧ ¬ near ∧ s.slotValid a = true ∧
      s.notRolledBack (s.storeOf a).header = false) ∧
    (let s : State := ((({ inStore (putReg (ready.wr (ICF_SLOT.STATE 1) 2) ICF_SVN.addr 0#32) 1 { header := aHeader 1 1 [] } with icf := { store := [(1, { header := aHeader 1 1 [] })], act := some (⟨true, 7, false, false⟩ : Act) } }).wr ICF_KEY.VALUE 2).wr ICF_DATA0.VALUE 10).wr ICF_DATA1.VALUE 0;
    let x := (⟨true, 7, false, false⟩ : Act); let key := s.rd ICF_KEY.VALUE; let floe := key % 2 = 1;
    let a := key / 2 % 2; let sec := s.rd ICF_DATA0.VALUE + s.rd ICF_DATA1.VALUE % 65536 * 2 ^ 32;
    let near := sec * 1000000000 < s.netNs + 10000000000 ∨ s.netNs + 604800000000000 < sec * 1000000000;
      Takes s 15 ICF_STAT.addr ∧
      ((floe → s.leads = true) ∧ ¬ near ∧ s.slotValid a = true ∧ s.notRolledBack (s.storeOf a).header = true ∧
          s.icf.act ≠ none) ∧ (s.icf.act = some x ∧ s.actOpen = false)) ∧
    (let s : State := pendingAct ready (⟨true, 7, false, false⟩ : Act) 2; let x := (⟨true, 7, false, false⟩ : Act);
      Takes s 15 ICF_STAT.addr ∧ s.icf.act = some x ∧ s.actOpen = true) ∧
    (let s : State := (((((ready.setPrim 127 (some .commit)).wr (ICF_SLOT.STATE 2) 2)).wr ICF_KEY.VALUE
        0x80000000).wr ICF_DATA0.VALUE 0).wr ICF_DATA1.VALUE 0; let key := s.rd ICF_KEY.VALUE;
    let cores := (List.range 32).filter (fun c => key / 2 ^ c % 2 == 1);
    let held := ∃ c ∈ cores, ∃ j < 4, (match s.prim (4 * c + j) with | some (.wait _ _) => false | some _ => true | none => false) = true;
      Takes s 15 ICF_STAT.addr ∧ s.slotValid 2 = true ∧ held) ∧
    (let s : State := (((inStore (ready.wr (ICF_SLOT.STATE 2) 2) 2 { header := (aHeader 4 0 []).take 256 ++ [2, 0, 255, 255, 255, 255, 255] ++ List.replicate 9 0 }).wr ICF_KEY.VALUE 0x80000000).wr ICF_DATA0.VALUE 0).wr ICF_DATA1.VALUE 0;
    let key := s.rd ICF_KEY.VALUE; let cores := (List.range 32).filter (fun c => key / 2 ^ c % 2 == 1);
    let held := ∃ c ∈ cores, ∃ j < 4, (match s.prim (4 * c + j) with | some (.wait _ _) => false | some _ => true | none => false) = true;
    let load := s.loadImage (s.programOf 2 (some cores));
      Takes s 15 ICF_STAT.addr ∧ s.slotValid 2 = true ∧ ¬ held ∧ load.1 ≠ ccOk) ∧
    (let s : State := (((putReg ((ready.up (ICF_SLOT.RUNNING 1)).up (ICF_SLOT.CONFIRMED 1) |>.wr (ICF_SLOT.SVN 1)
        255) ICF_SVN.addr 0#32).wr ICF_KEY.VALUE 3).wr ICF_DATA0.VALUE 255).wr ICF_DATA1.VALUE 0; let j := 1;
    let n := s.rd ICF_DATA0.VALUE % 256; let key := s.rd ICF_KEY.VALUE; let e := key % 4;
      Takes s 15 ICF_STAT.addr ∧
      (s.runningSlot = some j ∧ s.on (ICF_SLOT.CONFIRMED j) = true ∧ s.rd ICF_SVN.COUNT ≤ n ∧ n ≤ s.rd (ICF_SLOT.SVN
          j)) ∧ (e = 3)) ∧
    (let s : State := { ((pairing ready (fun p => { p with hb := some (aBeat 1) })).up PAIR_STATUS.PEER_ALIVE) with icf := { job := some ⟨0, 0, []⟩ } };
    let partner := s.on PAIR_STATUS.PEER_ALIVE = true ∧ s.peer (·.mode == 1) = true;
      Takes s 15 ICF_STAT.addr ∧ partner ∧ s.icf.job ≠ none) ∧
    (let s : State := ((pairing ready (fun p => { p with hb := some (aBeat 1) })).up PAIR_STATUS.PEER_ALIVE);
    let partner := s.on PAIR_STATUS.PEER_ALIVE = true ∧ s.peer (·.mode == 1) = true;
      Takes s 15 ICF_STAT.addr ∧ partner ∧ s.icf.job = none ∧ s.runningSlot = none) ∧
    (let s : State := ((pairing ready (fun p => { p with hb := some (aBeat 1) })).up PAIR_STATUS.PEER_ALIVE).up (ICF_SLOT.RUNNING 1);
    let j := 1; let partner := s.on PAIR_STATUS.PEER_ALIVE = true ∧ s.peer (·.mode == 1) = true;
      Takes s 15 ICF_STAT.addr ∧ partner ∧ s.icf.job = none ∧ s.runningSlot = some j) ∧
    (let s : State := (ready.up (ICF_SLOT.RUNNING 2)).wr ICF_KEY.VALUE 2; let key := s.rd ICF_KEY.VALUE;
    let e := key % 4;
    let barred := s.on (ICF_SLOT.RUNNING e) = true ∨ (s.on (ICF_SLOT.NEXT e) = true ∧ s.icf.act ≠ none);
      Takes s 15 ICF_STAT.addr ∧ e < 3 ∧ barred) := by
  refine ⟨?_, ?_, ?_, ?_, ?_, ?_, ?_, ?_, ?_, ?_, ?_, ?_, ?_, ?_, ?_, ?_⟩ <;> decide +kernel

/-- States and operands that meet the hypotheses of IcefallEvents. -/
theorem witness_IcefallEvents :
    (let port : Nat := 3; let src : Nat := 0; let id : Nat := 1; let i : Nat := 0; let slot : Nat := 1;
    let sec : Nat := 0; let d : List Byte := []; let s : State := State.reset.setReg SYS_READY.addr 0#32;
    let takes := s.relayFrom port = true;
    let new := takes ∧ s.icf.rx = none ∧ s.hasImage id = false ∧ d.length = 4096 ∧ hdrId d = id;
    let sl := s.rd ICF_ACT_HI.SLOT;
      port < 5 ∧ slot < 2 ∧ sec < 2 ^ 48 ∧ (¬ new) ∧ ((¬ takes ∨ s.icf.rx = none)) ∧
      ((s.rdy 25 = false ∨ (∀ m < 5, ¬ (hdrId (s.storeOf m).header = id ∧ s.hasChunk m i = true)))) ∧
      ((s.actFrom src = false ∨ (s.on ICF_ACT_HI.PENDING = true ∧ s.actSec = sec ∧ sl = slot))) ∧
      ((s.actFrom src = false ∨ s.icf.act = none ∨ s.actOpen = false)) ∧ (s.icf.act = none) ∧
      ((s.icf.runFrom = none ∨ s.runningSlot = none)) ∧
      ((s.rdy 25 = false ∨ (s.icf.queue = [] ∧ s.icf.job = none)))) ∧
    (let port : Nat := 3; let id : Nat := 1; let slot : Nat := 1; let sec : Nat := 0;
    let d : List Byte := (aHeader 3 1 ([1] ++ List.replicate 47 0)); let s : State := svc;
    let takes := s.relayFrom port = true; let target := s.rxSlot (hdrKind d);
    let new := takes ∧ s.icf.rx = none ∧ s.hasImage id = false ∧ d.length = 4096 ∧ hdrId d = id;
      port < 5 ∧ slot < 2 ∧ sec < 2 ^ 48 ∧ new ∧ (hdrShape d = false ∨ target.1 ≠ ccOk)) ∧
    (let port : Nat := 3; let id : Nat := 1; let slot : Nat := 1; let sec : Nat := 0;
    let d : List Byte := (aHeader 1 1000000 ([1] ++ List.replicate 47 0)); let s : State := svc;
    let takes := s.relayFrom port = true; let target := s.rxSlot (hdrKind d);
    let new := takes ∧ s.icf.rx = none ∧ s.hasImage id = false ∧ d.length = 4096 ∧ hdrId d = id;
      port < 5 ∧ slot < 2 ∧ sec < 2 ^ 48 ∧ new ∧ hdrShape d = true ∧ target.1 = ccOk ∧ s.headerCode d ≠ ccOk) ∧
    (let port : Nat := 3; let id : Nat := 1; let part : Nat := 0; let slot : Nat := 1; let sec : Nat := 0;
    let d : List Byte := [1];
    let s : State := receiving (svc) { header := aHeader 1 1 ([1] ++ List.replicate 47 0) } (aReceipt 1 false 1 []);
    let r : Receipt := (aReceipt 1 false 1 []); let takes := s.relayFrom port = true; let x := s.storeOf r.slot;
    let c := hdrChunks x.header; let gets := takes ∧ s.icf.rx = some r ∧ r.id = id ∧ r.source ≠ 1 ∧ r.slot < 5;
    let ps := SMap.set r.leafParts part d;
    let leaves := (((List.range (divUp (48 * c) 8192)).map (fun n => (SMap.get? ps n).getD [])).flatten).take (48 *
        c);
      port < 5 ∧ slot < 2 ∧ sec < 2 ^ 48 ∧ r.ok = false ∧ (gets ∧ leaves.length < 48 * c) ∧ (s.icf.rx = some r)) ∧
    (let port : Nat := 3; let id : Nat := 1; let part : Nat := 0; let slot : Nat := 1; let sec : Nat := 0;
    let d : List Byte := List.replicate 48 0;
    let s : State := receiving (svc) { header := aHeader 1 1 ([1] ++ List.replicate 47 0) } (aReceipt 1 false 1 []);
    let r : Receipt := (aReceipt 1 false 1 []); let takes := s.relayFrom port = true; let x := s.storeOf r.slot;
    let c := hdrChunks x.header; let gets := takes ∧ s.icf.rx = some r ∧ r.id = id ∧ r.source ≠ 1 ∧ r.slot < 5;
    let ps := SMap.set r.leafParts part d;
    let leaves := (((List.range (divUp (48 * c) 8192)).map (fun n => (SMap.get? ps n).getD [])).flatten).take (48 *
        c);
      port < 5 ∧ slot < 2 ∧ sec < 2 ^ 48 ∧ gets ∧ r.ok = false ∧ leaves.length = 48 * c ∧
      sha384 leaves ≠ hdrRoot x.header) ∧
    (let port : Nat := 3; let id : Nat := 2; let slot : Nat := 1; let sec : Nat := 0;
    let s : State := receiving (svc) { header := aHeader 1 1 ([1] ++ List.replicate 47 0) } (aReceipt 1 true 1 []);
    let r : Receipt := (aReceipt 1 true 1 []);
      port < 5 ∧ slot < 2 ∧ sec < 2 ^ 48 ∧ s.icf.rx = some r ∧ ((r.id ≠ id ∨ r.source = 1)) ∧ (r.ok = true)) ∧
    (let port : Nat := 3; let id : Nat := hdrId (aHeader 1 1 (sha384 (List.replicate 48 0))); let part : Nat := 0;
    let slot : Nat := 1; let sec : Nat := 0; let d : List Byte := List.replicate 48 0;
    let s : State := receiving (svc) { header := aHeader 1 1 (sha384 (List.replicate 48 0)) } (aReceipt 1 false (hdrId (aHeader 1 1 (sha384 (List.replicate 48 0)))));
    let r : Receipt := (aReceipt 1 false (hdrId (aHeader 1 1 (sha384 (List.replicate 48 0)))));
    let takes := s.relayFrom port = true;
    let room (e m : Nat) : Prop := NoErr s ∧ e + m ≤ 2 ^ 36 ∧ unguarded s = true; let x := s.storeOf r.slot;
    let c := hdrChunks x.header; let gets := takes ∧ s.icf.rx = some r ∧ r.id = id ∧ r.source ≠ 1 ∧ r.slot < 5;
    let ps := SMap.set r.leafParts part d;
    let leaves := (((List.range (divUp (48 * c) 8192)).map (fun n => (SMap.get? ps n).getD [])).flatten).take (48 *
        c);
      port < 5 ∧ slot < 2 ∧ sec < 2 ^ 48 ∧ gets ∧ r.ok = false ∧ leaves.length = 48 * c ∧
      sha384 leaves = hdrRoot x.header ∧ x.chunks.length < c ∧
      (r.slot < 3 ∨ room (s.nodeArea r.slot + 4096) (48 * c))) ∧
    (let port : Nat := 3; let id : Nat := 1; let i : Nat := 0; let part : Nat := 7; let slot : Nat := 1;
    let sec : Nat := 0; let d : List Byte := [];
    let s : State := receiving (svc) { header := aHeader 1 1 ([1] ++ List.replicate 47 0) } (aReceipt 1 true 1 []);
    let r : Receipt := (aReceipt 1 true 1 []); let takes := s.relayFrom port = true; let x := s.storeOf r.slot;
    let c := hdrChunks x.header; let gets := takes ∧ s.icf.rx = some r ∧ r.id = id ∧ r.source ≠ 1 ∧ r.slot < 5;
    let key (n : Nat) : Nat := (8 * i + n) * 3 + dirOf port; let qs := SMap.set r.parts (key part) d;
    let whole := ∀ n < 8, SMap.get? qs (key n) ≠ none;
    let wants := gets ∧ r.ok = true ∧ part < 8 ∧ i < c ∧ SMap.get? x.chunks i = none ∧ r.stopped.contains (dirOf
        port) = false;
      port < 5 ∧ slot < 2 ∧ sec < 2 ^ 48 ∧ wants ∧ ¬ whole) ∧
    (let port : Nat := 3; let id : Nat := 1; let i : Nat := 0; let part : Nat := 7; let slot : Nat := 1;
    let sec : Nat := 0; let d : List Byte := [];
    let s : State := receiving (svc) { header := aHeader 1 1 ([1] ++ List.replicate 47 0) } (aReceipt 1 true 1 ((List.range 8).map (fun n => (3 * n + 1, ([] : List Byte)))));
    let r : Receipt := (aReceipt 1 true 1 ((List.range 8).map (fun n => (3 * n + 1, ([] : List Byte)))));
    let takes := s.relayFrom port = true; let x := s.storeOf r.slot; let c := hdrChunks x.header;
    let gets := takes ∧ s.icf.rx = some r ∧ r.id = id ∧ r.source ≠ 1 ∧ r.slot < 5;
    let key (n : Nat) : Nat := (8 * i + n) * 3 + dirOf port; let qs := SMap.set r.parts (key part) d;
    let whole := ∀ n < 8, SMap.get? qs (key n) ≠ none;
    let w := ((List.range 8).map (fun n => (SMap.get? qs (key n)).getD [])).flatten;
    let right := w.length = 65536 ∧ sha384 w = cut x.leaves (48 * i) 48;
    let wants := gets ∧ r.ok = true ∧ part < 8 ∧ i < c ∧ SMap.get? x.chunks i = none ∧ r.stopped.contains (dirOf
        port) = false;
      port < 5 ∧ slot < 2 ∧ sec < 2 ^ 48 ∧ wants ∧ whole ∧ ¬ right) ∧
    (let port : Nat := 3; let id : Nat := 1; let i : Nat := 0; let slot : Nat := 1; let sec : Nat := 0;
    let s : State := inStore svc 4 { header := aHeader 1 1 ([1] ++ List.replicate 47 0), chunks := [(0, [])] };
    let n := 4;
      port < 5 ∧ slot < 2 ∧ sec < 2 ^ 48 ∧ n < 5 ∧ s.rdy 25 = true ∧
      (∀ m < n, ¬ (hdrId (s.storeOf m).header = id ∧ s.hasChunk m i = true)) ∧ hdrId (s.storeOf n).header = id ∧
      s.hasChunk n i = true) ∧
    (let port : Nat := 3; let src : Nat := 0; let slot : Nat := 0; let sec : Nat := 0;
    let s : State := pendingAct follows (⟨true, 7, false, false⟩ : Act) 2; let sl := s.rd ICF_ACT_HI.SLOT;
      port < 5 ∧ slot < 2 ∧ sec < 2 ^ 48 ∧ s.actFrom src = true ∧
      (¬ (s.on ICF_ACT_HI.PENDING = true ∧ s.actSec = sec ∧ sl = slot)) ∧ (s.icf.act ≠ none ∧ s.actOpen = true)) ∧
    (let port : Nat := 3; let slot : Nat := 1; let sec : Nat := 0;
    let s : State := pendingAct ready (⟨true, 7, false, false⟩ : Act) 2; let a := (⟨true, 7, false, false⟩ : Act);
    let sl := s.rd ICF_ACT_HI.SLOT; let good := s.slotValid sl = true ∧ s.imageGood sl = true;
      port < 5 ∧ slot < 2 ∧ sec < 2 ^ 48 ∧ s.icf.act = some a ∧
      (a.checked = false ∧ ¬ (good ∧ s.rd (ICF_SLOT_VER.VERSION sl) = a.version)) ∧ (a.waits = false)) ∧
    (let port : Nat := 3; let slot : Nat := 1; let sec : Nat := 0;
    let s : State := pendingAct ready (⟨true, 7, true, false⟩ : Act) 2; let a := (⟨true, 7, true, false⟩ : Act);
      port < 5 ∧ slot < 2 ∧ sec < 2 ^ 48 ∧ s.icf.act = some a ∧ a.checked = true ∧
      (s.on PAIR_STATUS.PAIRED = false ∨ s.holds = false)) ∧
    (let port : Nat := 3; let slot : Nat := 1; let sec : Nat := 0;
    let s : State := pendingAct ready (⟨true, 7, true, true⟩ : Act) 2; let a := (⟨true, 7, true, true⟩ : Act);
      port < 5 ∧ slot < 2 ∧ sec < 2 ^ 48 ∧ s.icf.act = some a ∧ a.waits = true) ∧
    (let port : Nat := 3; let slot : Nat := 1; let sec : Nat := 0;
    let s : State := pendingAct (svc.up PAIR_STATUS.PAIRED) (⟨true, 7, true, false⟩ : Act) 2;
    let a := (⟨true, 7, true, false⟩ : Act); let sl := s.rd ICF_ACT_HI.SLOT;
      port < 5 ∧ slot < 2 ∧ sec < 2 ^ 48 ∧ s.icf.act = some a ∧ a.checked = true ∧ s.on PAIR_STATUS.PAIRED = true ∧
      s.holds = true ∧ s.partnerReady = false ∧ ((s.storeOf sl).header.getD 28 0).toNat = s.pairMaj) ∧
    (let port : Nat := 3; let slot : Nat := 1; let sec : Nat := 0;
    let s : State := { ready.up (ICF_SLOT.RUNNING 1) with icf := { runFrom := some 7 } }; let n := 7; let j := 1;
      port < 5 ∧ slot < 2 ∧ sec < 2 ^ 48 ∧ s.icf.runFrom = some n ∧ s.runningSlot = some j) ∧
    (let port : Nat := 3; let i : Nat := 0; let slot : Nat := 1; let sec : Nat := 0;
    let s : State := { ready with icf := { store := [(2, { header := aHeader 1 1 ([1] ++ List.replicate 47 0), chunks := [(0, [9])] })], queue := [(2, 0, 3)] } };
    let n := 2; let p := 3; let rest := []; let b := [9];
      port < 5 ∧ slot < 2 ∧ sec < 2 ^ 48 ∧ s.rdy 25 = true ∧ s.icf.queue = (n, i, p) :: rest ∧
      s.chunkOf n i = some b) ∧
    (let port : Nat := 3; let slot : Nat := 1; let sec : Nat := 0;
    let s : State := { ready with icf := { store := [(2, { header := aHeader 1 1 ([1] ++ List.replicate 47 0), chunks := [(0, [9])] })], job := some ⟨2, 0, [2, 3]⟩ } };
    let b := [9]; let j := (⟨2, 0, [2, 3]⟩ : RelayJob); let all := hdrChunks (s.storeOf j.slot).header;
      port < 5 ∧ slot < 2 ∧ sec < 2 ^ 48 ∧ s.rdy 25 = true ∧ s.icf.queue = [] ∧ s.icf.job = some j ∧ j.next < all ∧
      s.chunkOf j.slot j.next = some b) ∧
    (let port : Nat := 3; let slot : Nat := 1; let sec : Nat := 0;
    let s : State := { ready with icf := { store := [(2, { header := aHeader 1 1 ([1] ++ List.replicate 47 0), chunks := [(0, [9])] })], job := some ⟨2, 1, [2, 3]⟩ } };
    let j := (⟨2, 1, [2, 3]⟩ : RelayJob); let all := hdrChunks (s.storeOf j.slot).header;
      port < 5 ∧ slot < 2 ∧ sec < 2 ^ 48 ∧ s.rdy 25 = true ∧ s.icf.queue = [] ∧ s.icf.job = some j ∧ all ≤ j.next) ∧
    (let port : Nat := 3; let slot : Nat := 1; let sec : Nat := 0;
    let s : State := { ready with icf := { store := [(2, { header := aHeader 1 1 ([1] ++ List.replicate 47 0) })], job := some ⟨2, 0, [2, 3]⟩ } };
    let j := (⟨2, 0, [2, 3]⟩ : RelayJob); let all := hdrChunks (s.storeOf j.slot).header;
      port < 5 ∧ slot < 2 ∧ sec < 2 ^ 48 ∧ s.rdy 25 = true ∧ s.icf.queue = [] ∧ s.icf.job = some j ∧ j.next < all ∧
      s.hasChunk j.slot j.next = false) := by
  refine ⟨?_, ?_, ?_, ?_, ?_, ?_, ?_, ?_, ?_, ?_, ?_, ?_, ?_, ?_, ?_, ?_, ?_, ?_, ?_, ?_⟩ <;> decide +kernel

/-- States and operands that meet the hypotheses of ResetState. -/
theorem witness_ResetState :
    let b := 25; let k := 15; let t := 127;
      (b < 26) ∧ (k < 16) ∧ (t < 128) := by
  decide +kernel

/-- States and operands that meet the hypotheses of GnorRoundTrip. -/
theorem witness_GnorRoundTrip :
    let rd : GReg := 0; let ra : GReg := 0; let rb : GReg := 0; let wd : WReg := 0; let wa : WReg := 0;
    let wb : WReg := 0; let imm : Imm16 := 0; let off : BitVec 26 := 0; let k : BitVec 4 := 0; let n : BitVec 6 := 0;
    let t : Tid := 0; let w : BitVec 32 := 0#32; let i : Instr := Instr.add 0 0 0 0;
    let i : Instr := Instr.add 0 0 0 0;
      (decodeGnor t w = some i) ∧
      (i ∈ [Instr.add t rd ra rb, .popc t rd ra, .addi t rd ra imm, .lui t rd imm, .srai t rd ra n, .mul t rd ra rb,
          .lb t rd ra imm, .sd t rd ra imm, .aswpd t rd ra rb, .flush t ra imm, .inval t ra imm, .beq t rd ra imm,
          .bccz t imm, .j t off, .jalr t rd ra imm, .wld t wd ra imm, .wadd t wd wa wb, .wlerp t wd wa wb k, .wsll t
          wd wa k, .wsum t rd wa, .mfs t rd ra, .mts t rd ra, .trap t rb, .qpush t ra rb wd, .commit t wd, .wait t rd
          ra, .log t ra rb wd, .info t rd ra rb wd]) := by
  decide +kernel


/-! ### Witnesses whose states are too large for evaluation, or whose hypotheses name an opaque constant -/

theorem dramBytes_drop (s : State) : ∀ (n a k : Nat), (s.dramBytes a n).drop k = s.dramBytes (a + k) (n - k)
  | 0, _, k => by simp [State.dramBytes]
  | _ + 1, _, 0 => rfl
  | n + 1, a, k + 1 => by
    simp only [State.dramBytes, List.drop_succ_cons, dramBytes_drop s n (a + 1) k, Nat.add_sub_add_right]; congr 1; omega
theorem dramBytes_take (s : State) : ∀ (n a k : Nat), k ≤ n → (s.dramBytes a n).take k = s.dramBytes a k
  | _, _, 0, _ => by simp [State.dramBytes]
  | n + 1, a, k + 1, h => by simp [State.dramBytes, dramBytes_take s n (a + 1) k (by omega)]
theorem dramBytes_map (s : State) (f : Nat → Byte) : ∀ (n a : Nat), (∀ e, a ≤ e → e < a + n → s.dramByte e = f e) →
    s.dramBytes a n = (List.range' a n).map f
  | 0, _, _ => rfl
  | n + 1, a, h => by
    simp only [State.dramBytes, List.range'_succ, List.map_cons, h a (by omega) (by omega)]
    rw [dramBytes_map s f n (a + 1) (fun e h1 h2 => h e (by omega) (by omega))]
/-- DRAM without a byte reads as zeros. -/
theorem ready_dramByte (e : Nat) : ready.dramByte e = 0 := by
  have h1 : ready.planeOff e = none := by
    have : ready.planes.base = none := by decide +kernel
    simp [State.planeOff, this]
  have h2 : ready.on MOR_CTRL.EN = false := by decide +kernel
  have h3 : ready.mem.dram = [] := by decide +kernel
  simp [State.dramByte, h1, h2, h3, SMap.get]
theorem unusedCell (c : Nat) : ready.dramBytes (0 + 1024 * c) 1024 = List.replicate 1024 0 := by
  rw [dramBytes_map ready (fun _ => 0) _ _ (fun e _ _ => ready_dramByte e)]; simp [List.map_const']
theorem unused_used : (cellOfBytes (List.replicate 1024 0)).used = false := by decide +kernel
/-- A plan whose cell 0 is used and has no positions. -/
def badPlan : State := { ready with mem := { dram := [(9, 1)] } }

/-- States that meet the hypotheses of the clauses of SastCommands about PLAN_LOAD: a plan in poisoned words, one with a cell
that is used and has no positions, and one that uses no cell. -/
theorem witness_SastCommands_planLoad :
    (let s : State := { ready with mem := { dramPoison := [8191] } }
     Takes s 3 SAST_STAT.addr ∧ s.sast.next = none ∧ s.planAddr + 65536 ≤ 2 ^ 36 ∧ s.dmaRead s.planAddr 65536 = none) ∧
    (let s := badPlan
     Takes s 3 SAST_STAT.addr ∧ s.sast.next = none ∧ s.planAddr + 65536 ≤ 2 ^ 36 ∧
       NoCe s ∧ ∃ bs, s.dmaRead s.planAddr 65536 = some bs ∧
        ∃ c < 64, cellOk (s.rd SAST_CTRL.BAND) ((s.head c).cap.map CapDesc.phys) ((bs.drop (1024 * c)).take 1024) = false) ∧
    (let s := ready
     Takes s 3 SAST_STAT.addr ∧ s.sast.next = none ∧ s.planAddr + 65536 ≤ 2 ^ 36 ∧
       NoCe s ∧ ∃ bs, s.dmaRead s.planAddr 65536 = some bs ∧
        (∀ c < 64, cellOk (s.rd SAST_CTRL.BAND) ((s.head c).cap.map CapDesc.phys) ((bs.drop (1024 * c)).take 1024) = true) ∧
        ∀ i j, i < j → j < 64 → s.conflicting i j = true →
          cellClash (cellOfBytes ((bs.drop (1024 * i)).take 1024)) (cellOfBytes ((bs.drop (1024 * j)).take 1024)) = false) := by
  refine ⟨by decide +kernel, ⟨by decide +kernel, by decide +kernel, by decide +kernel, ⟨rfl, rfl, rfl⟩, badPlan.dramBytes 0 65536, ?_, 0,
    by decide, ?_⟩, by decide +kernel, by decide +kernel, by decide +kernel, by decide +kernel, ready.dramBytes 0 65536, ?_, ?_, ?_⟩
  · have h : badPlan.planAddr = 0 := by decide +kernel
    have p : badPlan.dramPoisonIn 0 65536 = false := by decide +kernel
    simp [State.dmaRead, h, p]
  · rw [Nat.mul_zero, List.drop_zero, dramBytes_take _ _ _ _ (by decide)]; decide +kernel
  · have h : ready.planAddr = 0 := by decide +kernel
    have p : ready.dramPoisonIn 0 65536 = false := by decide +kernel
    simp [State.dmaRead, h, p]
  · intro c hc
    rw [dramBytes_drop, dramBytes_take _ _ _ _ (by omega), unusedCell c]; simp only [cellOk, unused_used, Bool.not_false, if_true]
  · intro i j hi hj _
    rw [dramBytes_drop, dramBytes_drop, dramBytes_take _ _ _ _ (by omega), dramBytes_take _ _ _ _ (by omega), unusedCell i,
      cellClash, unused_used]; rfl

theorem allot_some {s : State} {c d : Nat} (hu : s.blkMark 3 (grantKey c) = .clean)
    (hb : unitsOf (s.grantsOf c) + 64 / 2 ^ d ≤ s.rd (SAST_BUDGET.UNITS c))
    (hl : (s.openGrants c d).isEmpty = false) : ∃ g, (s.allot c d).1 = some g := by
  have hp : 0 < (s.openGrants c d).length := List.length_pos_iff.2 (by simpa using hl)
  have hi : Config.freeNat s.free % (s.openGrants c d).length < (s.openGrants c d).length := Nat.mod_lt _ hp
  have hs : s.ctlMet 9 (grantKey c) = s := by simp [State.ctlMet, hu, Mark.bad, Mark.clean]
  simp [State.allot, hs, Nat.not_lt.2 hb, hl, State.draw, List.getElem?_eq_getElem hi]

/-- A node associated in a cell that has dedicated slots and a budget. -/
def mayGrant : State :=
  { withNode ((ready.wr SAST_KEY.VALUE 5).wr SAST_DATA0.VALUE 6 |>.wr (SAST_BUDGET.UNITS 63) 1) 5 aMac with
    sast := { nodes := [(5, some aMac)], plan := some aPlan } }

/-- States that meet the hypotheses of the clause of SastCommands about a grant: whichever free slot-channel is taken. -/
theorem witness_SastCommands_grant :
    let s := mayGrant
    let t := s.setMac 5 (some { aMac with grant := none })
    Takes s 3 SAST_STAT.addr ∧ s.rd SAST_KEY.VALUE = 5 ∧ s.rd SAST_DATA0.VALUE < 7 ∧ s.mac 5 = some aMac ∧ s.cellOf 5 = some 63 ∧
      ∃ g, (t.allot 63 (s.rd SAST_DATA0.VALUE)).1 = some g :=
  ⟨by decide +kernel, by decide +kernel, by decide +kernel, by decide +kernel, by decide +kernel,
    allot_some (by decide +kernel) (by decide +kernel) (by decide +kernel)⟩

/-- A node table whose 262,144 entries are STATIC. -/
def fullNodes : SMap (Option NodeEnt) := (List.range' 0 262144).map (fun i => (i, some { aNode 63 with static := true }))
theorem present_some {α : Type} (f : Nat → α) (l : List Nat) :
    present (l.map (fun i => (i, some (f i)))) = l.map (fun i => (i, f i)) := by
  simp [present, List.filterMap_map, Function.comp_def]
theorem firstFreeAux_full : ∀ n i : Nat, firstFreeAux n i (List.range' i n) = none
  | 0, _ => rfl
  | n + 1, i => by simp [List.range'_succ, firstFreeAux, firstFreeAux_full n (i + 1)]

/-- A state that meets the hypotheses of the clause of SeracTables about a full table of STATIC entries. -/
theorem witness_SeracTables_full :
    let s : State := { ready with src := { nodes := fullNodes } }
    Takes s 6 SRC_STAT.addr ∧ NoSrcErr s ∧ s.srcTable = 0 ∧ (present s.src.nodes).find? (fun p => p.2.eui == s.srcRa) = none ∧
      firstFree 262144 s.src.nodes = none ∧ (present s.src.nodes).all (fun p => p.2.static) = true := by
  refine ⟨by decide +kernel, ⟨fun e he => ?_, (show ∀ e ∈ present ready.src.l2, e.2.mark = .clean by decide +kernel),
    (show ∀ p ∈ ready.src.pfx, p.bad = false by decide +kernel)⟩, by decide +kernel, ?_, ?_, ?_⟩
  · have h : e ∈ present fullNodes := he
    rw [fullNodes, present_some] at h; obtain ⟨i, -, rfl⟩ := List.mem_map.1 h; rfl
  all_goals simp only [fullNodes, firstFree, present_some]
  · rw [List.find?_eq_none]; intro p hp
    obtain ⟨i, -, rfl⟩ := List.mem_map.1 hp
    show ¬ ((0x105 == State.srcRa _) = true)
    rw [show State.srcRa _ = 0 from by decide +kernel]; decide
  · simpa [List.map_map, Function.comp_def] using firstFreeAux_full 262144 0
  · rw [List.all_eq_true]; intro p hp
    obtain ⟨i, -, rfl⟩ := List.mem_map.1 hp; rfl

theorem get_entries {α : Type} (d f : Nat → α) : ∀ (n a e : Nat), a ≤ e → e < a + n →
    SMap.get d ((List.range' a n).map (fun i => (i, f i))) e = f e
  | 0, _, _, h1, h2 => by omega
  | n + 1, a, e, h1, h2 => by
    by_cases h : a = e
    · simp [List.range'_succ, SMap.get, h]
    · simp [List.range'_succ, SMap.get, h, get_entries d f n (a + 1) e (by omega) (by omega)]

/-- A vault with the unlock key q in slot 1, the nonce's eight bytes, and a signature at DRAM address 0. -/
def unlocking (key sig : List Byte) : State :=
  { ready with mem := { dram := (List.range' 0 96).map (fun i => (i, sig.getD i 0)) },
               vlt := { slots := [(1, ⟨2, 0, 7, key⟩)], nonce := some (List.replicate 16 0, 5) } }
theorem unlocking_sig (key sig : List Byte) (h : sig.length = 96) : (unlocking key sig).dmaRead 0 96 = some sig := by
  have hb : ∀ e, 0 ≤ e → e < 0 + 96 → (unlocking key sig).dramByte e = sig.getD e 0 := by
    intro e h1 h2
    have e1 : (unlocking key sig).planeOff e = none := by
      have : (unlocking key sig).planes.base = none := by
        show ready.planes.base = none; decide +kernel
      simp [State.planeOff, this]
    have e2 : (unlocking key sig).on MOR_CTRL.EN = false := by
      show ready.on MOR_CTRL.EN = false; decide +kernel
    simp only [State.dramByte, e1, e2]
    exact get_entries _ (fun i => sig.getD i 0) 96 0 e h1 h2
  have hp : (unlocking key sig).dramPoisonIn 0 96 = false := rfl
  simp only [State.dmaRead, hp, dramBytes_map _ _ _ _ hb, Bool.false_eq_true, if_false, Bool.or_false,
    show decide (2 ^ 36 < 0 + 96) = false from by decide, Option.some.injEq]
  apply List.ext_getElem (by simp [h])
  intro i h1 h2
  simp [List.getD_eq_getElem?_getD, List.getElem?_eq_getElem h2]

/-- A state that meets the hypotheses of the clause of VaultCommands about a good signature of the nonce and the serial number,
for every such signature: the serial number of the module is a fused value, so no signature can be written out here. -/
theorem witness_VaultCommands_signed (key sig : List Byte) (q : Nat × Nat) (h : sig.length = 96) (hq : pointOf key = some q)
    (hs : ecdsaVerify q (sha384 (List.replicate 16 0 ++ leBytes 8 Config.serial)) sig = true) :
    let s := unlocking key sig
    Takes s 12 VLT_STAT.addr ∧ ∃ n t, s.vlt.nonce = some (n, t) ∧ s.ctr ≤ t ∧ s.mem.blkUe = [] ∧
      ∃ sig q, s.dmaRead s.vltAddr 96 = some sig ∧ pointOf (s.slot 1).key = some q ∧
        ecdsaVerify q (sha384 (n ++ leBytes 8 Config.serial)) sig = true := by
  have ha : (unlocking key sig).vltAddr = 0 := by
    show ready.vltAddr = 0; decide +kernel
  have hc : (unlocking key sig).ctr ≤ 5 := by
    show ready.ctr ≤ 5; decide +kernel
  have ht : Takes (unlocking key sig) 12 VLT_STAT.addr := by
    show Takes ready 12 VLT_STAT.addr; decide +kernel
  exact ⟨ht, _, _, rfl, hc, rfl, sig, q, by rw [ha]; exact unlocking_sig key sig h, hq, hs⟩

/-- A state that meets the hypotheses of the clause of IcefallEvents about a header that passes its checks, for every such
header: the hashes of the keys are fused values, so no signed header can be written out here. -/
theorem witness_IcefallEvents_header (d : List Byte) (hl : d.length = 4096) (hk : hdrKind d = 4) (hh : hdrShape d = true)
    (hc : svc.headerCode d = ccOk) :
    let s := svc
    s.relayFrom 3 = true ∧ s.icf.rx = none ∧ s.hasImage (hdrId d) = false ∧ d.length = 4096 ∧ hdrShape d = true ∧
      (s.rxSlot (hdrKind d)).1 = ccOk ∧ s.headerCode d = ccOk ∧ (s.rxSlot (hdrKind d)).2 < 3 := by
  refine ⟨by decide +kernel, by decide +kernel, ?_, hl, hh, ?_, hc, ?_⟩
  · have : (List.range 5).any (fun k => svc.slotValid k) = false := by decide +kernel
    simp only [List.any_eq_false] at this
    simp only [State.hasImage, List.any_eq_false, Bool.and_eq_true, not_and]
    intro k hk' h; exact absurd h (this k hk')
  · rw [hk]; rfl
  · rw [hk]; decide

/-- Slot 1 holds an image, and an activation of its version waits. -/
def acting (x : Store) : State := inStore ((pendingAct ready ⟨true, 7, false, false⟩ 2).wr (ICF_SLOT.STATE 1) 2 |>.wr (ICF_SLOT_VER.VERSION 1) 7) 1 x
/-- A state that meets the hypotheses of the clause of IcefallEvents about an activation whose slot holds a good image, for every
such image. -/
theorem witness_IcefallEvents_activation (x : Store) (h : (acting x).imageGood 1 = true) :
    let s := acting x
    let a : Act := ⟨true, 7, false, false⟩
    s.icf.act = some a ∧ s.rd ICF_ACT_HI.SLOT = 1 ∧ s.slotValid 1 = true ∧ s.imageGood 1 = true ∧
      s.rd (ICF_SLOT_VER.VERSION 1) = a.version := by
  refine ⟨rfl, ?_, ?_, h, ?_⟩
  · show (acting {}).rd ICF_ACT_HI.SLOT = 1; decide +kernel
  · show (acting {}).slotValid 1 = true; decide +kernel
  · show (acting {}).rd (ICF_SLOT_VER.VERSION 1) = 7; decide +kernel

/-- A chunk of zeros, in eight parts of 8,192 bytes. -/
def zeroPart : List Byte := List.replicate 8192 0
def zeroChunk : List Byte := (List.replicate 8 zeroPart).flatten
theorem zeroChunk_length : zeroChunk.length = 65536 := by
  rw [zeroChunk, List.length_flatten, List.map_replicate, zeroPart, List.length_replicate]; rfl
theorem leBytes_length : ∀ n x : Nat, (leBytes n x).length = n
  | 0, _ => rfl
  | n + 1, x => by simp [leBytes, leBytes_length n]
theorem sha384_le (m : List Byte) : (sha384 m).length ≤ 48 := by
  rw [sha384]; simp [beBytes, leBytes_length]
/-- Parts 0 to n - 1 of chunk 0, received in a direction. -/
def someParts (n dir : Nat) : SMap (List Byte) := (List.range n).map (fun k => (k * 3 + dir, zeroPart))
/-- A module that lacks the last part of chunk 0 of an image of c chunks. -/
def sevenParts (c mode dir : Nat) : State :=
  receiving (ready.wr SYS_MODE.MODE mode) { header := aHeader 1 c [], leaves := sha384 zeroChunk }
    (aReceipt 1 true 1 (someParts 7 dir))

/-- States that meet the hypotheses of the clauses of IcefallEvents about the last part of a chunk: of a chunk that is not the
last, of the last one in SERVICE, and of the last one in RECOVERY. -/
theorem witness_IcefallEvents_lastPart : ∀ x ∈ [(2, 3, 3), (1, 3, 3), (1, 1, 4)],
    let s := sevenParts x.1 x.2.1 (dirOf x.2.2)
    let r := aReceipt 1 true 1 (someParts 7 (dirOf x.2.2))
    let st := s.storeOf r.slot
    let qs := SMap.set r.parts (7 * 3 + dirOf x.2.2) zeroPart
    let w := ((List.range 8).map (fun n => (SMap.get? qs (n * 3 + dirOf x.2.2)).getD [])).flatten
    (s.relayFrom x.2.2 = true ∧ s.icf.rx = some r ∧ r.id = 1 ∧ r.source ≠ 1 ∧ r.slot < 5 ∧ r.ok = true ∧
      hdrChunks st.header = x.1 ∧ SMap.get? st.chunks 0 = none ∧ r.stopped.contains (dirOf x.2.2) = false) ∧
    (∀ n < 8, SMap.get? qs (n * 3 + dirOf x.2.2) ≠ none) ∧ w.length = 65536 ∧ sha384 w = cut st.leaves 0 48 ∧
    (SMap.set st.chunks 0 w).length = 1 ∧ s.mode = x.2.1 := by
  have hq : ∀ d ∈ [1, 2], ∀ p : List Byte,
      SMap.set ((List.range 7).map (fun k => (k * 3 + d, p))) (7 * 3 + d) p = (List.range 8).map (fun k => (k * 3 + d, p)) := by
    intro d hd p; simp only [List.mem_cons, List.not_mem_nil, or_false] at hd; rcases hd with rfl | rfl <;> rfl
  have hw : ∀ d ∈ [1, 2], ∀ p : List Byte,
      (List.range 8).map (fun n => (SMap.get? ((List.range 8).map (fun k => (k * 3 + d, p))) (n * 3 + d)).getD []) =
        List.replicate 8 p := by
    intro d hd p; simp only [List.mem_cons, List.not_mem_nil, or_false] at hd; rcases hd with rfl | rfl <;> rfl
  have hn : ∀ d ∈ [1, 2], ∀ p : List Byte, ∀ n < 8, SMap.get? ((List.range 8).map (fun k => (k * 3 + d, p))) (n * 3 + d) ≠ none := by
    intro d hd p n h; simp only [List.mem_cons, List.not_mem_nil, or_false] at hd
    rcases hd with rfl | rfl <;> (
      match n, h with
      | 0, _ | 1, _ | 2, _ | 3, _ | 4, _ | 5, _ | 6, _ | 7, _ => rw [show SMap.get? _ _ = some p from rfl]; exact Option.some_ne_none p)
  have hf : ∀ x ∈ [(2, 3, 3), (1, 3, 3), (1, 1, 4)], dirOf x.2.2 ∈ [1, 2] ∧ hdrChunks (aHeader 1 x.1 []) = x.1 ∧
      (ready.wr SYS_MODE.MODE x.2.1).relayFrom x.2.2 = true ∧ (ready.wr SYS_MODE.MODE x.2.1).mode = x.2.1 := by decide +kernel
  intro x hx
  obtain ⟨hd, h1, h2, h3⟩ := hf x hx
  have hs : (sevenParts x.1 x.2.1 (dirOf x.2.2)).storeOf 1 = { header := aHeader 1 x.1 [], leaves := sha384 zeroChunk } := rfl
  intro s r st qs w
  have hqs : qs = (List.range 8).map (fun k => (k * 3 + dirOf x.2.2, zeroPart)) := hq _ hd zeroPart
  have hww : w = zeroChunk := by simp only [w, hqs, hw _ hd, zeroChunk]
  refine ⟨⟨h2, rfl, rfl, (by decide : 2 ≠ 1), (by decide : 1 < 5), rfl, h1, rfl, rfl⟩, by rw [hqs]; exact hn _ hd _, by rw [hww, zeroChunk_length], ?_, rfl, h3⟩
  rw [hww]; show _ = cut (State.storeOf _ _).leaves 0 48
  rw [show s.storeOf r.slot = _ from hs]; simp [cut, List.take_of_length_le (sha384_le zeroChunk)]

/-- A state and an instruction that meet the hypotheses of ReservedBitsStayZero. -/
theorem witness_ReservedBitsStayZero :
    let s := running ready
    decodeGnor 0 0#32 = some (.add 0 0 0 0) ∧ (0#32 : Word).toNat / 2 ^ 26 ≤ 0x0C ∧ reservedZero s ∧
      ∃ u, step { s with pending := .add 0 0 0 0 :: s.pending } = .next u := by
  refine ⟨by decide, by decide, ⟨fun t => ?_, fun t => ?_, fun t _ => ?_⟩, _, rfl⟩
  · rw [State.xpc, show (running ready).gnor.xpc = [] from by decide +kernel]; simp [SMap.get]
  · rw [State.evmask, show (running ready).gnor.evmask = [] from by decide +kernel]; simp [SMap.get]
  · rw [State.pc, show (running ready).gnor.pc = [(0, startPc)] from by decide +kernel]
    by_cases h : 0 = t <;> simp [SMap.get, h, startPc]

end Sys2Proof.Tests
end

section
/-!
PROOFS. The registers that open every block (R27, R28), and the state after reset (R12).

Nothing below offset 0x100 of a block has a side effect of its own: the mailbox sets, the window onto SRAM, the command
registers, the registers that name a cluster and those whose written values are clamped or ordered all lie above. So a
write of an event, enable or target register comes down to the access codes of its fields (R10).
-/

namespace Sys2Proof.Machine

/-! ## Fields written by their access codes (R10) -/

/-- A field holds bit k. -/
def fldHas (f : Nat × Nat × Acc) (k : Nat) : Bool := decide (f.1 ≤ k) && decide (k < f.1 + f.2.1)

theorem testBit_withBits_fldHas (x v k : Nat) (f : Nat × Nat × Acc) :
    (withBits x f.1 f.2.1 v).testBit k = if fldHas f k then v.testBit (k - f.1) else x.testBit k := by
  rw [testBit_withBits, fldHas]
  by_cases hlo : k < f.1
  · simp [hlo, Nat.not_le.2 hlo]
  · simp [hlo, Nat.not_lt.1 hlo]

theorem testBit_writeFld_rw (lock : Bool) (v x lo w k : Nat) :
    (writeFld lock v x (lo, w, .rw)).testBit k = if fldHas (lo, w, .rw) k then v.testBit k else x.testBit k := by
  refine (testBit_withBits_fldHas x _ k (lo, w, .rw)).trans ?_
  split
  case isTrue h =>
    simp only [fldHas, Bool.and_eq_true, decide_eq_true_eq] at h
    rw [testBit_bitsOf, Nat.add_sub_cancel' h.1, decide_eq_true (by omega), Bool.true_and]
  case isFalse => rfl

theorem testBit_writeFld_w1c (lock : Bool) (v x lo w k : Nat) :
    (writeFld lock v x (lo, w, .w1c)).testBit k = (x.testBit k && !(v.testBit k && fldHas (lo, w, .w1c) k)) := by
  refine (testBit_withBits_fldHas x _ k (lo, w, .w1c)).trans ?_
  split
  case isTrue h =>
    have hk := h
    simp only [fldHas, Bool.and_eq_true, decide_eq_true_eq] at hk
    have hv : bitsOf v lo w < 2 ^ w := Nat.mod_lt _ (Nat.two_pow_pos w)
    rw [Nat.sub_sub, Nat.add_comm 1, Nat.testBit_and, Nat.testBit_two_pow_sub_succ hv, testBit_bitsOf, testBit_bitsOf,
      Nat.add_sub_cancel' hk.1, decide_eq_true (by omega : k - lo < w), h]
    simp
  case isFalse h => simp [h]

/-- A row of read-write fields: the bits of its fields are the written ones, every other bit stays. -/
theorem testBit_foldl_writeFld_rw (lock : Bool) (v k : Nat) (l : List (Nat × Nat × Acc)) (h : ∀ f ∈ l, f.2.2 = .rw)
    (x : Nat) : (l.foldl (fun x f => writeFld lock v x f) x).testBit k
      = if l.any (fldHas · k) then v.testBit k else x.testBit k := by
  induction l generalizing x with
  | nil => rfl
  | cons f l ih =>
    obtain ⟨lo, w, acc⟩ := f
    obtain rfl : acc = .rw := h _ List.mem_cons_self
    rw [List.foldl_cons, ih (fun f hf => h f (List.mem_cons_of_mem _ hf)), testBit_writeFld_rw, List.any_cons]
    cases l.any (fldHas · k) <;> simp

/-- A row of fields that a 1 clears and fields that cannot be written: the bits of the former that are written as 1 are
cleared, every other bit stays. -/
theorem testBit_foldl_writeFld_w1c (lock : Bool) (v k : Nat) (l : List (Nat × Nat × Acc))
    (h : ∀ f ∈ l, f.2.2 = .w1c ∨ f.2.2 = .ro) (x : Nat) :
    (l.foldl (fun x f => writeFld lock v x f) x).testBit k
      = (x.testBit k && !(v.testBit k && l.any (fun f => f.2.2 == .w1c && fldHas f k))) := by
  induction l generalizing x with
  | nil => simp
  | cons f l ih =>
    obtain ⟨lo, w, acc⟩ := f
    rw [List.foldl_cons, ih (fun f hf => h f (List.mem_cons_of_mem _ hf)), List.any_cons]
    rcases h _ List.mem_cons_self with rfl | rfl
    · rw [testBit_writeFld_w1c]
      cases x.testBit k <;> cases v.testBit k <;> simp
    · have hro : (Acc.ro == Acc.w1c) = false := rfl
      simp [writeFld, hro]

/-! ## The first 64 registers of a block -/

/-- The length of the run of addresses that the indexes of a register span. -/
def dimsEnd : List (Nat × Nat) → Nat
  | [] => 1
  | (n, st) :: _ => n * st

theorem lt_dimsEnd_of_dimsHit {ds : List (Nat × Nat)} {off : Nat} (hst : ∀ p ∈ ds, 0 < p.2)
    (hhit : dimsHit ds off = true) : off < dimsEnd ds := by
  cases ds with
  | nil => simpa [dimsHit, dimsEnd] using hhit
  | cons p ds =>
    simp only [dimsHit, Bool.and_eq_true, decide_eq_true_eq] at hhit
    exact (Nat.div_lt_iff_lt_mul (hst p List.mem_cons_self)).1 hhit.1

/-- A fold whose every step leaves its value leaves the value it starts from. -/
theorem foldl_eq_of_step_eq {α β : Type} {l : List α} {f : β → α → β} (h : ∀ c ∈ l, ∀ y, f y c = y) (x : β) :
    l.foldl f x = x := by
  induction l with
  | nil => rfl
  | cons c l ih =>
    rw [List.foldl_cons, h c List.mem_cons_self]
    exact ih fun d hd => h d (List.mem_cons_of_mem c hd)

section Low

variable {a : Nat} (h : a % 0x100_0000 < 0x100)
include h

theorem eq_false_of_low {x : Nat} (hx : 0x100 ≤ x % 0x100_0000) : (a = x) = False :=
  eq_false (by rintro rfl; omega)

/-- A run of registers that lies within one block, past its first 64, holds no register below offset 0x100. -/
theorem not_in_run_of_low {base n : Nat} (hb : 0x100 ≤ base % 0x100_0000) (hn : base % 0x100_0000 + n ≤ 0x100_0000)
    (hle : base ≤ a) : ¬ a - base < n := by omega

theorem regIdx_of_low {base st n : Nat} (hb : 0x100 ≤ base % 0x100_0000) (hst : 0 < st)
    (hn : base % 0x100_0000 + st * n ≤ 0x100_0000) : regIdx a base st n = none := by
  refine if_neg ?_
  simp only [Bool.and_eq_true, decide_eq_true_eq, not_and, Nat.div_lt_iff_lt_mul hst, and_imp]
  intro hle _
  rw [Nat.mul_comm]
  exact not_in_run_of_low h hb hn hle

theorem mbxAt_of_low : mbxAt a = none := by
  have hrun : ∀ k ∈ [32, 33, 34, 35], ¬ (mbxBase k ≤ a ∧ a < mbxBase k + 0x400) := by
    intro k hk
    have hb : 0x100 ≤ mbxBase k % 0x100_0000 ∧ mbxBase k % 0x100_0000 + 0x400 ≤ 0x100_0000 := by
      revert k; decide
    omega
  simpa [mbxAt, List.findSome?_eq_none_iff] using hrun

theorem inWindow_of_low : inWindow? a = false := by
  have hb : blockBase 1 % 0x100_0000 = 0 := by decide
  unfold inWindow?
  generalize blockBase 1 = b at hb
  rw [Bool.and_eq_false_iff, decide_eq_false_iff_not, decide_eq_false_iff_not]
  omega

/-- In LUM, an address below offset 0x100 is that far from the block's first one. -/
theorem lum_offset_of_low (hr : isReg a = true) (hblk : blockOf a = 1) : a - blockBase 1 < 0x100 := by
  have hb : blockBase 1 = 0x40_0100_0000 := rfl
  simp only [isReg, blockOf, beq_iff_eq] at hr hblk
  omega

theorem lumCluster_of_low (hr : isReg a = true) (hblk : blockOf a = 1) : lumCluster a = none := by
  have ho := lum_offset_of_low h hr hblk
  unfold lumCluster
  generalize a - blockBase 1 = o at ho
  repeat rw [if_neg (by simp only [Bool.and_eq_true, decide_eq_true_eq]; omega)]

/-- No command register stands below offset 0x100. -/
theorem ne_cmd_of_low {blk : Nat} {c : Nat × Nat × Fld} (hc : cmdRegs blk = some c) : a ≠ c.1 := by
  have hc' : 0x100 ≤ c.1 % 0x100_0000 := by
    unfold cmdRegs at hc
    split at hc <;> cases hc <;> decide
  rintro rfl
  omega

theorem lumWrite_of_low (hr : isReg a = true) (hblk : blockOf a = 1) (s : State) (r : Req) (v : Word) :
    s.lumWrite r a v = s.plainWrite a v := by
  have ho := lum_offset_of_low h hr hblk
  unfold State.lumWrite
  generalize a - blockBase 1 = o at ho
  have h500 : ¬ o = 0x500 := by omega
  have h680 : ¬ 0x680 ≤ o := by omega
  have h1000 : ¬ 0x1000 ≤ o := by omega
  have h20000 : ¬ 0x20000 ≤ o := by omega
  simp only [h500, h680, h1000, h20000, decide_false, Bool.false_and, Bool.false_eq_true, if_false]

theorem rimeWrite_of_low (s : State) (r : Req) (v : Word) : s.rimeWrite r a v = s.plainWrite a v := by
  simp (disch := decide) only [State.rimeWrite, regIdx_of_low h, eq_false_of_low h, if_false, Option.isSome_none,
    decide_false, Bool.or_self, Bool.false_eq_true]

theorem blockWrite'_of_low (hr : isReg a = true) (s : State) (r : Req) (v : Word) :
    s.blockWrite' r a v = s.plainWrite a v := by
  unfold State.blockWrite'
  split
  case h_2 hlum => exact lumWrite_of_low h hr hlum s r v
  case h_9 _ => exact rimeWrite_of_low h s r v
  all_goals simp (disch := decide) only [regIdx_of_low h, eq_false_of_low h, if_false]

/-- A register below offset 0x100 is answered where its block is, and refused with BUSY where it is not. -/
theorem refusal_of_low (hr : isReg a = true) (h4 : a % 4 = 0) (s : State) (r : Req) :
    s.refusal r a = if s.blkReady (blockOf a) then ccOk else ccBusy := by
  simp only [State.refusal, h4, ne_eq, not_true_eq_false, if_false, inWindow_of_low h, Bool.false_eq_true]
  cases s.blkReady (blockOf a)
  · rfl
  · by_cases hblk : blockOf a = 1
    · simp [hblk, lumCluster_of_low h hr hblk]
    · simp [hblk]

theorem regWrite_of_low (hr : isReg a = true) (h4 : a % 4 = 0) (s : State) (r : Req) (v : Word)
    (hs : s.blkReady (blockOf a) = true) : s.regWrite r a v = (ccOk, s.plainWrite a v) := by
  simp only [State.regWrite, refusal_of_low h hr h4, hs, if_true, ne_eq, not_true_eq_false, if_false, inWindow_of_low h,
    Bool.false_eq_true, mbxAt_of_low h, blockWrite'_of_low h hr]
  split
  case h_1 hc => rw [if_neg (ne_cmd_of_low h hc)]
  case h_2 => rfl

/-- No field with a range of values stands below offset 0x100, so no value is brought into one. -/
theorem clampWord_of_low (x : Nat) : clampWord a x = x := by
  have hrow : ∀ c ∈ clamps, (∀ p ∈ c.2.1, 0 < p.2) ∧ 0x100 ≤ c.1.a % 0x100_0000 ∧
      c.1.a % 0x100_0000 + dimsEnd c.2.1 ≤ 0x100_0000 := by decide
  have hmiss : ∀ c ∈ clamps, ∀ y, (if c.1.a ≤ a && dimsHit c.2.1 (a - c.1.a) then
      withBits y c.1.lo c.1.w (min (max (bitsOf y c.1.lo c.1.w) c.2.2.1) c.2.2.2) else y) = y := by
    intro c hc y
    obtain ⟨hst, hb, hend⟩ := hrow c hc
    refine if_neg fun hhit => ?_
    rw [Bool.and_eq_true, decide_eq_true_eq] at hhit
    exact not_in_run_of_low h hb hend hhit.1 (lt_dimsEnd_of_dimsHit hst hhit.2)
  exact foldl_eq_of_step_eq hmiss x

theorem normWord_of_low (old x : Nat) : normWord a old x = x := by
  simp (disch := decide) only [normWord, clampWord_of_low h, regIdx_of_low h, eq_false_of_low h, if_false,
    Option.isSome_none, decide_false, Bool.or_self, Bool.false_and, Bool.false_eq_true]

/-- A register below offset 0x100 stores what the access codes of its fields make of the written word. -/
theorem plainWrite_of_low (s : State) (v : Word) {d : RegDef} (hd : regDef a = some d) :
    s.plainWrite a v = s.setReg a (BitVec.ofNat 32
      (d.flds.foldl (fun x f => writeFld (s.locked a) v.toNat x f) (s.reg a).toNat)) := by
  simp (disch := decide) only [State.plainWrite, hd, normWord_of_low h, regIdx_of_low h, eq_false_of_low h, if_false,
    Option.isSome_none, decide_false, Bool.or_self, Bool.false_and, Bool.false_eq_true]

end Low

/-! ## The event, enable and target register of a block (R27, R28) -/

section Block

variable {blk o : Nat} (hb : blk < 16) (ho : o < 0x100)
include ho

theorem low_block : (blockBase blk + o) % 0x100_0000 < 0x100 := by simp only [blockBase]; omega

include hb

theorem isReg_block : isReg (blockBase blk + o) = true := by simp only [isReg, blockBase, beq_iff_eq]; omega

theorem blockOf_block : blockOf (blockBase blk + o) = blk := by simp only [blockOf, blockBase]; omega

end Block

/-- The fields of an event register are cleared by writing 1 to them, the level bits apart, which cannot be written. -/
theorem evt_flds : ∀ blk < 16, ∀ d ∈ regDef (blockBase blk + 4), ∀ f ∈ d.flds, f.2.2 = .w1c ∨ f.2.2 = .ro := by
  decide +kernel

theorem evtEn_flds : ∀ blk < 16, (regDef (blockBase blk + 8)).map (·.flds) = some [(0, 32, .rw)] := by decide +kernel

theorem evtRoute_flds : ∀ blk < 16,
    (regDef (blockBase blk + 12)).map (·.flds) = some [(0, 7, .rw), (7, 1, .rw), (9, 1, .rw)] := by decide +kernel

/-- A register of read-write fields takes the written word in the bits of its fields and keeps the others. -/
theorem ofNat_foldl_writeFld_rw (lock : Bool) (old v m : Word) (l : List (Nat × Nat × Acc)) (h : ∀ f ∈ l, f.2.2 = .rw)
    (hm : ∀ k < 32, l.any (fldHas · k) = m.getLsbD k) :
    BitVec.ofNat 32 (l.foldl (fun x f => writeFld lock v.toNat x f) old.toNat) = (old &&& ~~~m) ||| (v &&& m) := by
  refine BitVec.eq_of_getLsbD_eq fun k hk => ?_
  rw [BitVec.getLsbD_ofNat, testBit_foldl_writeFld_rw _ _ _ _ h, hm k hk, BitVec.getLsbD_or, BitVec.getLsbD_and,
    BitVec.getLsbD_and, BitVec.getLsbD_not, BitVec.testBit_toNat, BitVec.testBit_toNat]
  cases m.getLsbD k <;> simp [hk]

/-! ## A write over the register bus -/

theorem does_registerWrite {s : State} {r : Req} {a : Nat} {v : Word} {P : State → Prop} (hr : isReg a = true)
    (hP : P (s.silent.regWrite r a v).2) : Does (.registerWrite r a v) s P :=
  ⟨_, congrArg Host.Outcome.next (State.cmdIf_true hr _), hP⟩

theorem State.refusal_silent (s : State) (r : Req) (a : Nat) : s.silent.refusal r a = s.refusal r a := by
  have hblk : s.silent.blkReady = s.blkReady := rfl
  have hcluster : s.silent.clusterReady = s.clusterReady := rfl
  have hlum : s.silent.lum = s.lum := rfl
  simp only [State.refusal, hblk, hcluster, hlum]

/-- A refused access answers its code and changes nothing. -/
theorem refused_access {s : State} {r : Req} {a : Nat} {cc : Nat} (v : Word) (hr : isReg a = true)
    (hcc : s.refusal r a = cc) (hne : cc ≠ ccOk) :
    s.regWrite r a v = (cc, s) ∧ s.regRead r a = (cc, 0, s) ∧ Does (.registerWrite r a v) s (fun u => u = s.silent) := by
  have hw {t : State} (ht : t.refusal r a = cc) : t.regWrite r a v = (cc, t) := by rw [State.regWrite, ht, if_pos hne]
  refine ⟨hw hcc, by rw [State.regRead, hcc, if_pos hne], does_registerWrite hr ?_⟩
  rw [hw ((s.refusal_silent r a).trans hcc)]

/-- A write of an aligned register below offset 0x100 of a block that answers stores what the access codes make of the
written word, and changes no other register, no thread register and no memory. -/
theorem does_write_of_low {s : State} {a : Nat} {d : RegDef} (hr : isReg a = true) (h : a % 0x100_0000 < 0x100)
    (h4 : a % 4 = 0) (hs : s.blkReady (blockOf a) = true) (hd : regDef a = some d) (r : Req) (v : Word) :
    Does (.registerWrite r a v) s (fun u =>
      u.reg a = BitVec.ofNat 32 (d.flds.foldl (fun x f => writeFld (s.locked a) v.toNat x f) (s.reg a).toNat) ∧
      (∀ x, x ≠ a → u.reg x = s.reg x) ∧ SameGnor u s ∧ SameMem u s) := by
  have hw : s.silent.regWrite r a v = (ccOk, s.silent.plainWrite a v) := regWrite_of_low h hr h4 s.silent r v hs
  refine does_registerWrite hr ?_
  rw [hw, plainWrite_of_low h s.silent v hd]
  exact ⟨State.reg_setReg_same .., fun x hx => State.reg_setReg_ne _ _ hx, rfl, rfl, rfl⟩

theorem Does.mono {i : Instr} {s : State} {P Q : State → Prop} (hPQ : ∀ u, P u → Q u) : Does i s P → Does i s Q
  | ⟨u, hu, hP⟩ => ⟨u, hu, hPQ u hP⟩

/-- The same where every field is read-write: the register takes the written word under the mask of its fields. -/
theorem does_write_masked {s : State} {a : Nat} {l : List (Nat × Nat × Acc)} (hr : isReg a = true)
    (h : a % 0x100_0000 < 0x100) (h4 : a % 4 = 0) (hs : s.blkReady (blockOf a) = true)
    (hl : (regDef a).map (·.flds) = some l) (hrw : ∀ f ∈ l, f.2.2 = .rw) (m : Word)
    (hm : ∀ k < 32, l.any (fldHas · k) = m.getLsbD k) (r : Req) (v : Word) :
    Does (.registerWrite r a v) s (fun u => u.reg a = (s.reg a &&& ~~~m) ||| (v &&& m) ∧
      (∀ x, x ≠ a → u.reg x = s.reg x) ∧ SameGnor u s ∧ SameMem u s) := by
  obtain ⟨d, hd, rfl⟩ := Option.map_eq_some_iff.1 hl
  have hw := does_write_of_low hr h h4 hs hd r v
  rwa [ofNat_foldl_writeFld_rw _ _ _ m _ hrw hm] at hw

/-- Settles O35: below offset 0x100 of a block a write only applies the access codes of the register's fields. -/
theorem eventRegisters : Obligations.EventRegisters := by
  intro s r v blk hblk
  have hlow {o : Nat} (ho : o < 0x100) := low_block (blk := blk) ho
  have hreg {o : Nat} (ho : o < 0x100) := isReg_block hblk ho
  have hof {o : Nat} (ho : o < 0x100) := blockOf_block hblk ho
  have h4 {o : Nat} (ho : o % 4 = 0) : (blockBase blk + o) % 4 = 0 := by simp only [blockBase]; omega
  refine ⟨fun hs => ?_, fun hs x hx => ?_, fun x hx hx4 => refused_access v hx (if_pos hx4) (by decide)⟩
  · have hready {o : Nat} (ho : o < 0x100) : s.blkReady (blockOf (blockBase blk + o)) = true := by rwa [hof ho]
    refine ⟨fun d hd => ?_, ?_, ?_⟩
    · have hw := does_write_of_low (hreg (by decide)) (hlow (by decide)) (h4 rfl) (hready (by decide)) hd r v
      refine hw.mono fun u ⟨hu, honly⟩ => ⟨honly, fun k hk => ?_⟩
      rw [hu, BitVec.getLsbD_ofNat, testBit_foldl_writeFld_w1c _ _ _ _ (evt_flds blk hblk d hd)]
      simp [hk, fldHas, BitVec.testBit_toNat, Bool.and_assoc]
    · have hw := does_write_masked (hreg (by decide)) (hlow (by decide)) (h4 rfl) (hready (by decide))
        (evtEn_flds blk hblk) (by decide) (BitVec.allOnes 32) (by decide) r v
      refine hw.mono fun u ⟨hu, honly⟩ => ⟨?_, honly⟩
      rw [hu, BitVec.not_allOnes, BitVec.and_zero, BitVec.zero_or, BitVec.and_allOnes]
    · exact does_write_masked (hreg (by decide)) (hlow (by decide)) (h4 rfl) (hready (by decide))
        (evtRoute_flds blk hblk) (by decide) 0x2FF#32 (by decide) r v
  · obtain ⟨o, rfl, ho, ho4⟩ : ∃ o, x = blockBase blk + o ∧ o < 0x100 ∧ o % 4 = 0 := by
      simp only [List.mem_cons, List.not_mem_nil, or_false] at hx
      rcases hx with rfl | rfl | rfl <;> exact ⟨_, rfl, by decide, by decide⟩
    have hbusy : s.refusal r (blockBase blk + o) = ccBusy := by
      rw [refusal_of_low (hlow ho) (hreg ho) (h4 ho4), hof ho, hs]; rfl
    exact refused_access v (hreg ho) hbusy (by decide)

/-! ## The state after reset -/

/-- After reset every register holds what its table gives (R12). -/
@[simp] theorem State.reg_reset (a : Nat) : State.reset.reg a = resetOf a := rfl

/-- Every block's events are routed to Cirque, and none is set (R28). -/
theorem evtRegs_reset : ∀ k < 16,
    (State.reset.reg (blockBase k + 12)).toNat = 0x200 ∧ (State.reset.reg (blockBase k + 4)).toNat = 0 := by
  decide +kernel

theorem rdy_reset (b : Nat) : State.reset.rdy b = false := by
  have h0 : State.reset.reg SYS_READY.addr = 0 := by decide +kernel
  simp [State.rdy, h0]

/-- Every lumen thread is STOPPED (R106). -/
theorem thState_reset : ∀ t < 128, State.reset.thState t = thStopped := by decide +kernel

theorem reservedZero_reset : reservedZero State.reset := ⟨fun _ => rfl, fun _ => BitVec.zero_and, fun _ _ => rfl⟩

theorem noErr_reset : NoErr State.reset := ⟨rfl, rfl, rfl, rfl, rfl, rfl⟩

/-- The module starts in RECOVERY (R362). -/
theorem mode_reset : State.reset.mode = 1 := by decide +kernel

theorem rails_reset : State.reset.rails = true := by rw [State.rails, mode_reset]; rfl

theorem holds_reset : State.reset.holds = false := by decide +kernel

/-- Fields whose tables give a reset value other than 0 (R12). -/
theorem tableValues_reset :
    let s := State.reset
    s.rd SYS_BOOT.TARGET = 2 ∧ s.rd FIRN_DERATE_CFG.DWELL = 10 ∧ s.rd SAST_SUPERVISION.TIMEOUT = 300 ∧
      s.rd MELT_CTRL.INTERVAL = 15 ∧ s.on TIME_CTRL.SERVO = true ∧ s.on TIME_SYNC.STEP_ARMED = true ∧
      s.rd SNOW_POOL.FREE = 192512 ∧ s.rd PAIR_WDOG.TIMEOUT = 8 ∧ s.rd RIME_CTRL.SAMPLE = 10 ∧
      s.rd RIME_ICE_HEAD.HEAD = 14336 ∧ s.rd CRQ_SHUT.TRIP = 120 ∧ s.rd ICF_CTRL.RELAY_RATE = 20 ∧
      s.rd MOR_CTRL.REBUILD_PCT = 10 := by
  decide +kernel

/-- Settles O58: the register file is empty, so each register reads as its table gives, and each structure behind the
registers is. -/
theorem resetState : Obligations.ResetState := by
  exact ⟨rfl, mode_reset, holds_reset, rails_reset, fun b _ => rdy_reset b, State.reg_reset, evtRegs_reset, thState_reset, reservedZero_reset,
    Mem.wf_reset, noErr_reset, rfl, rfl, rfl, fun _ => rfl, fun _ => rfl, fun _ => rfl, rfl, tableValues_reset⟩

end Sys2Proof.Machine
end
